-- ==== Sys2Proof/Word.lean ====
section
/-! DEFINITION. The word types of the machine and their plainest arithmetic (spec/00_scope.md R7, R11, R14). -/

namespace Sys2Proof

/-- A 32-bit word: a register, a virtual or physical address (R7). -/
abbrev Word := BitVec 32

/-- A byte of memory (R7). -/
abbrev Byte := BitVec 8

/-- A 64-bit word: a floating point register, `HI :: LO` (R38, R45). -/
abbrev DWord := BitVec 64

/-- Five bits: a register number, a shift amount, a hint, a cache operation (R291, R292). -/
abbrev Reg := BitVec 5

end Sys2Proof
end

