-- ==== Sys2Proof/Syntax.lean ====
section
/-! DEFINITION. The instruction syntax: one constructor for each row of spec/opcode_table.json, in the table's order
but for the ten constructors without operands, which stand last. The hint code of `wait`, which
the hardware ignores (R577), is no operand here (log 43). Operands are the fields of the row's encoding, from the most
significant down (spec/30_encoding.md R291 to R303). -/

namespace Sys2Proof

/-- An instruction of the MIPS32 24K core: constructor name = mnemonic with `_` for `.`. -/
inductive Instr where
  /-- `mfhi rd` (R430). -/
  | mfhi (rd : Reg)
  /-- `mflo rd` (R431). -/
  | mflo (rd : Reg)
  /-- `mthi rs` (R432). -/
  | mthi (rs : Reg)
  /-- `mtlo rs` (R433). -/
  | mtlo (rs : Reg)
  /-- `jr rs` (R475). -/
  | jr (rs : Reg)
  /-- `jr.hb rs` (R477). -/
  | jr_hb (rs : Reg)
  /-- `sync` (R518). -/
  | sync (stype : Reg)
  /-- `di rt` (R580). -/
  | di (rt : Reg)
  /-- `ei rt` (R581). -/
  | ei (rt : Reg)
  /-- `seb rd, rt` (R375). -/
  | seb (rt : Reg) (rd : Reg)
  /-- `seh rd, rt` (R376). -/
  | seh (rt : Reg) (rd : Reg)
  /-- `wsbh rd, rt` (R377). -/
  | wsbh (rt : Reg) (rd : Reg)
  /-- `mult rs, rt` (R421). -/
  | mult (rs : Reg) (rt : Reg)
  /-- `multu rs, rt` (R422). -/
  | multu (rs : Reg) (rt : Reg)
  /-- `madd rs, rt` (R425). -/
  | madd (rs : Reg) (rt : Reg)
  /-- `maddu rs, rt` (R426). -/
  | maddu (rs : Reg) (rt : Reg)
  /-- `msub rs, rt` (R427). -/
  | msub (rs : Reg) (rt : Reg)
  /-- `msubu rs, rt` (R428). -/
  | msubu (rs : Reg) (rt : Reg)
  /-- `div $0, rs, rt` (R423). -/
  | div (rs : Reg) (rt : Reg)
  /-- `divu $0, rs, rt` (R424). -/
  | divu (rs : Reg) (rt : Reg)
  /-- `jalr rd, rs` (R476). -/
  | jalr (rs : Reg) (rd : Reg)
  /-- `jalr.hb rd, rs` (R478). -/
  | jalr_hb (rs : Reg) (rd : Reg)
  /-- `rdpgpr rd, rt` (R582). -/
  | rdpgpr (rt : Reg) (rd : Reg)
  /-- `wrpgpr rd, rt` (R583). -/
  | wrpgpr (rt : Reg) (rd : Reg)
  /-- `rdhwr rt, rd` (R584). -/
  | rdhwr (rt : Reg) (rd : Reg)
  /-- `mfc1 rt, fs` (R630). -/
  | mfc1 (rt : Reg) (fs : Reg)
  /-- `mtc1 rt, fs` (R635). -/
  | mtc1 (rt : Reg) (fs : Reg)
  /-- `mfhc1 rt, fs` (R631). -/
  | mfhc1 (rt : Reg) (fs : Reg)
  /-- `mthc1 rt, fs` (R632). -/
  | mthc1 (rt : Reg) (fs : Reg)
  /-- `cfc1 rt, fs` (R633). -/
  | cfc1 (rt : Reg) (fs : Reg)
  /-- `ctc1 rt, fs` (R634). -/
  | ctc1 (rt : Reg) (fs : Reg)
  /-- `sqrt.fmt fd, fs` (R651). -/
  | sqrt_s (fs : Reg) (fd : Reg)
  /-- `sqrt.fmt fd, fs` (R651). -/
  | sqrt_d (fs : Reg) (fd : Reg)
  /-- `abs.fmt fd, fs` (R653). -/
  | abs_s (fs : Reg) (fd : Reg)
  /-- `abs.fmt fd, fs` (R653). -/
  | abs_d (fs : Reg) (fd : Reg)
  /-- `neg.fmt fd, fs` (R654). -/
  | neg_s (fs : Reg) (fd : Reg)
  /-- `neg.fmt fd, fs` (R654). -/
  | neg_d (fs : Reg) (fd : Reg)
  /-- `mov.fmt fd, fs` (R655). -/
  | mov_s (fs : Reg) (fd : Reg)
  /-- `mov.fmt fd, fs` (R655). -/
  | mov_d (fs : Reg) (fd : Reg)
  /-- `recip.fmt fd, fs` (R658). -/
  | recip_s (fs : Reg) (fd : Reg)
  /-- `recip.fmt fd, fs` (R658). -/
  | recip_d (fs : Reg) (fd : Reg)
  /-- `rsqrt.fmt fd, fs` (R659). -/
  | rsqrt_s (fs : Reg) (fd : Reg)
  /-- `rsqrt.fmt fd, fs` (R659). -/
  | rsqrt_d (fs : Reg) (fd : Reg)
  /-- `round.w.fmt fd, fs` (R666). -/
  | round_w_s (fs : Reg) (fd : Reg)
  /-- `round.w.fmt fd, fs` (R666). -/
  | round_w_d (fs : Reg) (fd : Reg)
  /-- `trunc.w.fmt fd, fs` (R667). -/
  | trunc_w_s (fs : Reg) (fd : Reg)
  /-- `trunc.w.fmt fd, fs` (R667). -/
  | trunc_w_d (fs : Reg) (fd : Reg)
  /-- `ceil.w.fmt fd, fs` (R668). -/
  | ceil_w_s (fs : Reg) (fd : Reg)
  /-- `ceil.w.fmt fd, fs` (R668). -/
  | ceil_w_d (fs : Reg) (fd : Reg)
  /-- `floor.w.fmt fd, fs` (R669). -/
  | floor_w_s (fs : Reg) (fd : Reg)
  /-- `floor.w.fmt fd, fs` (R669). -/
  | floor_w_d (fs : Reg) (fd : Reg)
  /-- `round.l.fmt fd, fs` (R670). -/
  | round_l_s (fs : Reg) (fd : Reg)
  /-- `round.l.fmt fd, fs` (R670). -/
  | round_l_d (fs : Reg) (fd : Reg)
  /-- `trunc.l.fmt fd, fs` (R671). -/
  | trunc_l_s (fs : Reg) (fd : Reg)
  /-- `trunc.l.fmt fd, fs` (R671). -/
  | trunc_l_d (fs : Reg) (fd : Reg)
  /-- `ceil.l.fmt fd, fs` (R672). -/
  | ceil_l_s (fs : Reg) (fd : Reg)
  /-- `ceil.l.fmt fd, fs` (R672). -/
  | ceil_l_d (fs : Reg) (fd : Reg)
  /-- `floor.l.fmt fd, fs` (R673). -/
  | floor_l_s (fs : Reg) (fd : Reg)
  /-- `floor.l.fmt fd, fs` (R673). -/
  | floor_l_d (fs : Reg) (fd : Reg)
  /-- `cvt.s.fmt fd, fs` (R674). -/
  | cvt_s_d (fs : Reg) (fd : Reg)
  /-- `cvt.s.fmt fd, fs` (R674). -/
  | cvt_s_w (fs : Reg) (fd : Reg)
  /-- `cvt.s.fmt fd, fs` (R674). -/
  | cvt_s_l (fs : Reg) (fd : Reg)
  /-- `cvt.d.fmt fd, fs` (R675). -/
  | cvt_d_s (fs : Reg) (fd : Reg)
  /-- `cvt.d.fmt fd, fs` (R675). -/
  | cvt_d_w (fs : Reg) (fd : Reg)
  /-- `cvt.d.fmt fd, fs` (R675). -/
  | cvt_d_l (fs : Reg) (fd : Reg)
  /-- `cvt.w.fmt fd, fs` (R676). -/
  | cvt_w_s (fs : Reg) (fd : Reg)
  /-- `cvt.w.fmt fd, fs` (R676). -/
  | cvt_w_d (fs : Reg) (fd : Reg)
  /-- `cvt.l.fmt fd, fs` (R677). -/
  | cvt_l_s (fs : Reg) (fd : Reg)
  /-- `cvt.l.fmt fd, fs` (R677). -/
  | cvt_l_d (fs : Reg) (fd : Reg)
  /-- `cfc2 rt, rd` (R743). -/
  | cfc2 (rt : Reg) (rd : Reg)
  /-- `ctc2 rt, rd` (R744). -/
  | ctc2 (rt : Reg) (rd : Reg)
  /-- `movf rd, rs, cc` (R369). -/
  | movf (rs : Reg) (cc : BitVec 3) (rd : Reg)
  /-- `movt rd, rs, cc` (R370). -/
  | movt (rs : Reg) (cc : BitVec 3) (rd : Reg)
  /-- `mfc0 rt, rd, sel` (R578). -/
  | mfc0 (rt : Reg) (rd : Reg) (sel : BitVec 3)
  /-- `mtc0 rt, rd, sel` (R579). -/
  | mtc0 (rt : Reg) (rd : Reg) (sel : BitVec 3)
  /-- `c.cond.fmt cc, fs, ft` (R660). -/
  | c_f_s (ft : Reg) (fs : Reg) (cc : BitVec 3)
  /-- `c.cond.fmt cc, fs, ft` (R660). -/
  | c_un_s (ft : Reg) (fs : Reg) (cc : BitVec 3)
  /-- `c.cond.fmt cc, fs, ft` (R660). -/
  | c_eq_s (ft : Reg) (fs : Reg) (cc : BitVec 3)
  /-- `c.cond.fmt cc, fs, ft` (R660). -/
  | c_ueq_s (ft : Reg) (fs : Reg) (cc : BitVec 3)
  /-- `c.cond.fmt cc, fs, ft` (R660). -/
  | c_olt_s (ft : Reg) (fs : Reg) (cc : BitVec 3)
  /-- `c.cond.fmt cc, fs, ft` (R660). -/
  | c_ult_s (ft : Reg) (fs : Reg) (cc : BitVec 3)
  /-- `c.cond.fmt cc, fs, ft` (R660). -/
  | c_ole_s (ft : Reg) (fs : Reg) (cc : BitVec 3)
  /-- `c.cond.fmt cc, fs, ft` (R660). -/
  | c_ule_s (ft : Reg) (fs : Reg) (cc : BitVec 3)
  /-- `c.cond.fmt cc, fs, ft` (R660). -/
  | c_sf_s (ft : Reg) (fs : Reg) (cc : BitVec 3)
  /-- `c.cond.fmt cc, fs, ft` (R660). -/
  | c_ngle_s (ft : Reg) (fs : Reg) (cc : BitVec 3)
  /-- `c.cond.fmt cc, fs, ft` (R660). -/
  | c_seq_s (ft : Reg) (fs : Reg) (cc : BitVec 3)
  /-- `c.cond.fmt cc, fs, ft` (R660). -/
  | c_ngl_s (ft : Reg) (fs : Reg) (cc : BitVec 3)
  /-- `c.cond.fmt cc, fs, ft` (R660). -/
  | c_lt_s (ft : Reg) (fs : Reg) (cc : BitVec 3)
  /-- `c.cond.fmt cc, fs, ft` (R660). -/
  | c_nge_s (ft : Reg) (fs : Reg) (cc : BitVec 3)
  /-- `c.cond.fmt cc, fs, ft` (R660). -/
  | c_le_s (ft : Reg) (fs : Reg) (cc : BitVec 3)
  /-- `c.cond.fmt cc, fs, ft` (R660). -/
  | c_ngt_s (ft : Reg) (fs : Reg) (cc : BitVec 3)
  /-- `c.cond.fmt cc, fs, ft` (R660). -/
  | c_f_d (ft : Reg) (fs : Reg) (cc : BitVec 3)
  /-- `c.cond.fmt cc, fs, ft` (R660). -/
  | c_un_d (ft : Reg) (fs : Reg) (cc : BitVec 3)
  /-- `c.cond.fmt cc, fs, ft` (R660). -/
  | c_eq_d (ft : Reg) (fs : Reg) (cc : BitVec 3)
  /-- `c.cond.fmt cc, fs, ft` (R660). -/
  | c_ueq_d (ft : Reg) (fs : Reg) (cc : BitVec 3)
  /-- `c.cond.fmt cc, fs, ft` (R660). -/
  | c_olt_d (ft : Reg) (fs : Reg) (cc : BitVec 3)
  /-- `c.cond.fmt cc, fs, ft` (R660). -/
  | c_ult_d (ft : Reg) (fs : Reg) (cc : BitVec 3)
  /-- `c.cond.fmt cc, fs, ft` (R660). -/
  | c_ole_d (ft : Reg) (fs : Reg) (cc : BitVec 3)
  /-- `c.cond.fmt cc, fs, ft` (R660). -/
  | c_ule_d (ft : Reg) (fs : Reg) (cc : BitVec 3)
  /-- `c.cond.fmt cc, fs, ft` (R660). -/
  | c_sf_d (ft : Reg) (fs : Reg) (cc : BitVec 3)
  /-- `c.cond.fmt cc, fs, ft` (R660). -/
  | c_ngle_d (ft : Reg) (fs : Reg) (cc : BitVec 3)
  /-- `c.cond.fmt cc, fs, ft` (R660). -/
  | c_seq_d (ft : Reg) (fs : Reg) (cc : BitVec 3)
  /-- `c.cond.fmt cc, fs, ft` (R660). -/
  | c_ngl_d (ft : Reg) (fs : Reg) (cc : BitVec 3)
  /-- `c.cond.fmt cc, fs, ft` (R660). -/
  | c_lt_d (ft : Reg) (fs : Reg) (cc : BitVec 3)
  /-- `c.cond.fmt cc, fs, ft` (R660). -/
  | c_nge_d (ft : Reg) (fs : Reg) (cc : BitVec 3)
  /-- `c.cond.fmt cc, fs, ft` (R660). -/
  | c_le_d (ft : Reg) (fs : Reg) (cc : BitVec 3)
  /-- `c.cond.fmt cc, fs, ft` (R660). -/
  | c_ngt_d (ft : Reg) (fs : Reg) (cc : BitVec 3)
  /-- `movf.fmt fd, fs, cc` (R652). -/
  | movf_s (cc : BitVec 3) (fs : Reg) (fd : Reg)
  /-- `movf.fmt fd, fs, cc` (R652). -/
  | movt_s (cc : BitVec 3) (fs : Reg) (fd : Reg)
  /-- `movf.fmt fd, fs, cc` (R652). -/
  | movf_d (cc : BitVec 3) (fs : Reg) (fd : Reg)
  /-- `movf.fmt fd, fs, cc` (R652). -/
  | movt_d (cc : BitVec 3) (fs : Reg) (fd : Reg)
  /-- `add rd, rs, rt` (R341). -/
  | add (rs : Reg) (rt : Reg) (rd : Reg)
  /-- `addu rd, rs, rt` (R344). -/
  | addu (rs : Reg) (rt : Reg) (rd : Reg)
  /-- `sub rd, rs, rt` (R345). -/
  | sub (rs : Reg) (rt : Reg) (rd : Reg)
  /-- `subu rd, rs, rt` (R346). -/
  | subu (rs : Reg) (rt : Reg) (rd : Reg)
  /-- `and rd, rs, rt` (R347). -/
  | and (rs : Reg) (rt : Reg) (rd : Reg)
  /-- `or rd, rs, rt` (R349). -/
  | or (rs : Reg) (rt : Reg) (rd : Reg)
  /-- `xor rd, rs, rt` (R351). -/
  | xor (rs : Reg) (rt : Reg) (rd : Reg)
  /-- `nor rd, rs, rt` (R353). -/
  | nor (rs : Reg) (rt : Reg) (rd : Reg)
  /-- `slt rd, rs, rt` (R355). -/
  | slt (rs : Reg) (rt : Reg) (rd : Reg)
  /-- `sltu rd, rs, rt` (R357). -/
  | sltu (rs : Reg) (rt : Reg) (rd : Reg)
  /-- `sll rd, rt, sa` (R359). -/
  | sll (rt : Reg) (rd : Reg) (sa : Reg)
  /-- `srl rd, rt, sa` (R360). -/
  | srl (rt : Reg) (rd : Reg) (sa : Reg)
  /-- `sra rd, rt, sa` (R361). -/
  | sra (rt : Reg) (rd : Reg) (sa : Reg)
  /-- `sllv rd, rt, rs` (R362). -/
  | sllv (rs : Reg) (rt : Reg) (rd : Reg)
  /-- `srlv rd, rt, rs` (R363). -/
  | srlv (rs : Reg) (rt : Reg) (rd : Reg)
  /-- `srav rd, rt, rs` (R364). -/
  | srav (rs : Reg) (rt : Reg) (rd : Reg)
  /-- `rotr rd, rt, sa` (R365). -/
  | rotr (rt : Reg) (rd : Reg) (sa : Reg)
  /-- `rotrv rd, rt, rs` (R366). -/
  | rotrv (rs : Reg) (rt : Reg) (rd : Reg)
  /-- `movz rd, rs, rt` (R367). -/
  | movz (rs : Reg) (rt : Reg) (rd : Reg)
  /-- `movn rd, rs, rt` (R368). -/
  | movn (rs : Reg) (rt : Reg) (rd : Reg)
  /-- `clz rd, rs` (R371). -/
  | clz (rs : Reg) (rt : Reg) (rd : Reg)
  /-- `clo rd, rs` (R372). -/
  | clo (rs : Reg) (rt : Reg) (rd : Reg)
  /-- `mul rd, rs, rt` (R429). -/
  | mul (rs : Reg) (rt : Reg) (rd : Reg)
  /-- `lwxc1 fd, index(base)` (R640). -/
  | lwxc1 (base : Reg) (index : Reg) (fd : Reg)
  /-- `ldxc1 fd, index(base)` (R641). -/
  | ldxc1 (base : Reg) (index : Reg) (fd : Reg)
  /-- `luxc1 fd, index(base)` (R642). -/
  | luxc1 (base : Reg) (index : Reg) (fd : Reg)
  /-- `swxc1 fs, index(base)` (R643). -/
  | swxc1 (base : Reg) (index : Reg) (fs : Reg)
  /-- `sdxc1 fs, index(base)` (R644). -/
  | sdxc1 (base : Reg) (index : Reg) (fs : Reg)
  /-- `suxc1 fs, index(base)` (R645). -/
  | suxc1 (base : Reg) (index : Reg) (fs : Reg)
  /-- `prefx hint, index(base)` (R646). -/
  | prefx (base : Reg) (index : Reg) (hint : Reg)
  /-- `add.fmt fd, fs, ft` (R647). -/
  | add_s (ft : Reg) (fs : Reg) (fd : Reg)
  /-- `add.fmt fd, fs, ft` (R647). -/
  | add_d (ft : Reg) (fs : Reg) (fd : Reg)
  /-- `sub.fmt fd, fs, ft` (R648). -/
  | sub_s (ft : Reg) (fs : Reg) (fd : Reg)
  /-- `sub.fmt fd, fs, ft` (R648). -/
  | sub_d (ft : Reg) (fs : Reg) (fd : Reg)
  /-- `mul.fmt fd, fs, ft` (R649). -/
  | mul_s (ft : Reg) (fs : Reg) (fd : Reg)
  /-- `mul.fmt fd, fs, ft` (R649). -/
  | mul_d (ft : Reg) (fs : Reg) (fd : Reg)
  /-- `div.fmt fd, fs, ft` (R650). -/
  | div_s (ft : Reg) (fs : Reg) (fd : Reg)
  /-- `div.fmt fd, fs, ft` (R650). -/
  | div_d (ft : Reg) (fs : Reg) (fd : Reg)
  /-- `movz.fmt fd, fs, rt` (R656). -/
  | movz_s (rt : Reg) (fs : Reg) (fd : Reg)
  /-- `movz.fmt fd, fs, rt` (R656). -/
  | movz_d (rt : Reg) (fs : Reg) (fd : Reg)
  /-- `movn.fmt fd, fs, rt` (R657). -/
  | movn_s (rt : Reg) (fs : Reg) (fd : Reg)
  /-- `movn.fmt fd, fs, rt` (R657). -/
  | movn_d (rt : Reg) (fs : Reg) (fd : Reg)
  /-- `bc1f cc, offset` (R665). -/
  | bc1f (cc : BitVec 3) (imm : BitVec 16)
  /-- `bc1f cc, offset` (R665). -/
  | bc1t (cc : BitVec 3) (imm : BitVec 16)
  /-- `bc1f cc, offset` (R665). -/
  | bc1fl (cc : BitVec 3) (imm : BitVec 16)
  /-- `bc1f cc, offset` (R665). -/
  | bc1tl (cc : BitVec 3) (imm : BitVec 16)
  /-- `bc2f cc, offset` (R747). -/
  | bc2f (cc : BitVec 3) (imm : BitVec 16)
  /-- `bc2f cc, offset` (R747). -/
  | bc2t (cc : BitVec 3) (imm : BitVec 16)
  /-- `bc2f cc, offset` (R747). -/
  | bc2fl (cc : BitVec 3) (imm : BitVec 16)
  /-- `bc2f cc, offset` (R747). -/
  | bc2tl (cc : BitVec 3) (imm : BitVec 16)
  /-- `ext rt, rs, pos, size` (R373). -/
  | ext (rs : Reg) (rt : Reg) (msb : Reg) (lsb : Reg)
  /-- `ins rt, rs, pos, size` (R374). -/
  | ins (rs : Reg) (rt : Reg) (msb : Reg) (lsb : Reg)
  /-- `syscall code` (R560). -/
  | syscall (code : BitVec 20)
  /-- `break code` (R561). -/
  | break_ (code : BitVec 20)
  /-- `sdbbp code` (R562). -/
  | sdbbp (code : BitVec 20)
  /-- `tge rs, rt` (R563). -/
  | tge (rs : Reg) (rt : Reg) (code : BitVec 10)
  /-- `tgeu rs, rt` (R564). -/
  | tgeu (rs : Reg) (rt : Reg) (code : BitVec 10)
  /-- `tlt rs, rt` (R565). -/
  | tlt (rs : Reg) (rt : Reg) (code : BitVec 10)
  /-- `tltu rs, rt` (R566). -/
  | tltu (rs : Reg) (rt : Reg) (code : BitVec 10)
  /-- `teq rs, rt` (R567). -/
  | teq (rs : Reg) (rt : Reg) (code : BitVec 10)
  /-- `tne rs, rt` (R568). -/
  | tne (rs : Reg) (rt : Reg) (code : BitVec 10)
  /-- `madd.fmt fd, fr, fs, ft` (R661). -/
  | madd_s (fr : Reg) (ft : Reg) (fs : Reg) (fd : Reg)
  /-- `madd.fmt fd, fr, fs, ft` (R661). -/
  | madd_d (fr : Reg) (ft : Reg) (fs : Reg) (fd : Reg)
  /-- `msub.fmt fd, fr, fs, ft` (R662). -/
  | msub_s (fr : Reg) (ft : Reg) (fs : Reg) (fd : Reg)
  /-- `msub.fmt fd, fr, fs, ft` (R662). -/
  | msub_d (fr : Reg) (ft : Reg) (fs : Reg) (fd : Reg)
  /-- `nmadd.fmt fd, fr, fs, ft` (R663). -/
  | nmadd_s (fr : Reg) (ft : Reg) (fs : Reg) (fd : Reg)
  /-- `nmadd.fmt fd, fr, fs, ft` (R663). -/
  | nmadd_d (fr : Reg) (ft : Reg) (fs : Reg) (fd : Reg)
  /-- `nmsub.fmt fd, fr, fs, ft` (R664). -/
  | nmsub_s (fr : Reg) (ft : Reg) (fs : Reg) (fd : Reg)
  /-- `nmsub.fmt fd, fr, fs, ft` (R664). -/
  | nmsub_d (fr : Reg) (ft : Reg) (fs : Reg) (fd : Reg)
  /-- `lui rt, imm` (R354). -/
  | lui (rt : Reg) (imm : BitVec 16)
  /-- `blez rs, offset` (R458). -/
  | blez (rs : Reg) (imm : BitVec 16)
  /-- `bgtz rs, offset` (R459). -/
  | bgtz (rs : Reg) (imm : BitVec 16)
  /-- `bltz rs, offset` (R460). -/
  | bltz (rs : Reg) (imm : BitVec 16)
  /-- `bgez rs, offset` (R461). -/
  | bgez (rs : Reg) (imm : BitVec 16)
  /-- `bltzal rs, offset` (R462). -/
  | bltzal (rs : Reg) (imm : BitVec 16)
  /-- `bgezal rs, offset` (R463). -/
  | bgezal (rs : Reg) (imm : BitVec 16)
  /-- `blezl rs, offset` (R466). -/
  | blezl (rs : Reg) (imm : BitVec 16)
  /-- `bgtzl rs, offset` (R467). -/
  | bgtzl (rs : Reg) (imm : BitVec 16)
  /-- `bltzl rs, offset` (R468). -/
  | bltzl (rs : Reg) (imm : BitVec 16)
  /-- `bgezl rs, offset` (R469). -/
  | bgezl (rs : Reg) (imm : BitVec 16)
  /-- `bltzall rs, offset` (R471). -/
  | bltzall (rs : Reg) (imm : BitVec 16)
  /-- `bgezall rs, offset` (R472). -/
  | bgezall (rs : Reg) (imm : BitVec 16)
  /-- `synci offset(base)` (R519). -/
  | synci (base : Reg) (imm : BitVec 16)
  /-- `tgei rs, immediate` (R569). -/
  | tgei (rs : Reg) (imm : BitVec 16)
  /-- `tgeiu rs, immediate` (R570). -/
  | tgeiu (rs : Reg) (imm : BitVec 16)
  /-- `tlti rs, immediate` (R571). -/
  | tlti (rs : Reg) (imm : BitVec 16)
  /-- `tltiu rs, immediate` (R572). -/
  | tltiu (rs : Reg) (imm : BitVec 16)
  /-- `teqi rs, immediate` (R573). -/
  | teqi (rs : Reg) (imm : BitVec 16)
  /-- `tnei rs, immediate` (R574). -/
  | tnei (rs : Reg) (imm : BitVec 16)
  /-- `mfc2 rt, impl` (R741). -/
  | mfc2 (rt : Reg) (impl : BitVec 16)
  /-- `mtc2 rt, impl` (R742). -/
  | mtc2 (rt : Reg) (impl : BitVec 16)
  /-- `mfhc2 rt, rd` (R745). -/
  | mfhc2 (rt : Reg) (impl : BitVec 16)
  /-- `mthc2 rt, rd` (R746). -/
  | mthc2 (rt : Reg) (impl : BitVec 16)
  /-- The CorExtend (UDI) words (R760). -/
  | udi (impl : BitVec 20) (impl2 : BitVec 4)
  /-- `cop2 func` (R752). -/
  | cop2 (impl : BitVec 25)
  /-- `addi rt, rs, imm` (R342). -/
  | addi (rs : Reg) (rt : Reg) (imm : BitVec 16)
  /-- `addiu rt, rs, imm` (R343). -/
  | addiu (rs : Reg) (rt : Reg) (imm : BitVec 16)
  /-- `andi rt, rs, imm` (R348). -/
  | andi (rs : Reg) (rt : Reg) (imm : BitVec 16)
  /-- `ori rt, rs, imm` (R350). -/
  | ori (rs : Reg) (rt : Reg) (imm : BitVec 16)
  /-- `xori rt, rs, imm` (R352). -/
  | xori (rs : Reg) (rt : Reg) (imm : BitVec 16)
  /-- `slti rt, rs, imm` (R356). -/
  | slti (rs : Reg) (rt : Reg) (imm : BitVec 16)
  /-- `sltiu rt, rs, imm` (R358). -/
  | sltiu (rs : Reg) (rt : Reg) (imm : BitVec 16)
  /-- `beq rs, rt, offset` (R456). -/
  | beq (rs : Reg) (rt : Reg) (imm : BitVec 16)
  /-- `bne rs, rt, offset` (R457). -/
  | bne (rs : Reg) (rt : Reg) (imm : BitVec 16)
  /-- `beql rs, rt, offset` (R464). -/
  | beql (rs : Reg) (rt : Reg) (imm : BitVec 16)
  /-- `bnel rs, rt, offset` (R465). -/
  | bnel (rs : Reg) (rt : Reg) (imm : BitVec 16)
  /-- `j target` (R473). -/
  | j (target : BitVec 26)
  /-- `jal target` (R474). -/
  | jal (target : BitVec 26)
  /-- `jalx target` (R480). -/
  | jalx (target : BitVec 26)
  /-- `lb rt, offset(base)` (R501). -/
  | lb (base : Reg) (rt : Reg) (imm : BitVec 16)
  /-- `lbu rt, offset(base)` (R502). -/
  | lbu (base : Reg) (rt : Reg) (imm : BitVec 16)
  /-- `lh rt, offset(base)` (R503). -/
  | lh (base : Reg) (rt : Reg) (imm : BitVec 16)
  /-- `lhu rt, offset(base)` (R504). -/
  | lhu (base : Reg) (rt : Reg) (imm : BitVec 16)
  /-- `lw rt, offset(base)` (R505). -/
  | lw (base : Reg) (rt : Reg) (imm : BitVec 16)
  /-- `lwl rt, offset(base)` (R506). -/
  | lwl (base : Reg) (rt : Reg) (imm : BitVec 16)
  /-- `lwr rt, offset(base)` (R507). -/
  | lwr (base : Reg) (rt : Reg) (imm : BitVec 16)
  /-- `sb rt, offset(base)` (R508). -/
  | sb (base : Reg) (rt : Reg) (imm : BitVec 16)
  /-- `sh rt, offset(base)` (R509). -/
  | sh (base : Reg) (rt : Reg) (imm : BitVec 16)
  /-- `sw rt, offset(base)` (R510). -/
  | sw (base : Reg) (rt : Reg) (imm : BitVec 16)
  /-- `swl rt, offset(base)` (R511). -/
  | swl (base : Reg) (rt : Reg) (imm : BitVec 16)
  /-- `swr rt, offset(base)` (R512). -/
  | swr (base : Reg) (rt : Reg) (imm : BitVec 16)
  /-- `ll rt, offset(base)` (R513). -/
  | ll (base : Reg) (rt : Reg) (imm : BitVec 16)
  /-- `sc rt, offset(base)` (R514). -/
  | sc (base : Reg) (rt : Reg) (imm : BitVec 16)
  /-- `pref hint, offset(base)` (R515). -/
  | pref (base : Reg) (hint : Reg) (imm : BitVec 16)
  /-- `cache op, offset(base)` (R520). -/
  | cache (base : Reg) (op : Reg) (imm : BitVec 16)
  /-- `lwc1 ft, offset(base)` (R636). -/
  | lwc1 (base : Reg) (ft : Reg) (imm : BitVec 16)
  /-- `ldc1 ft, offset(base)` (R637). -/
  | ldc1 (base : Reg) (ft : Reg) (imm : BitVec 16)
  /-- `swc1 ft, offset(base)` (R638). -/
  | swc1 (base : Reg) (ft : Reg) (imm : BitVec 16)
  /-- `sdc1 ft, offset(base)` (R639). -/
  | sdc1 (base : Reg) (ft : Reg) (imm : BitVec 16)
  /-- `lwc2 rt, offset(base)` (R748). -/
  | lwc2 (base : Reg) (rt : Reg) (imm : BitVec 16)
  /-- `swc2 rt, offset(base)` (R749). -/
  | swc2 (base : Reg) (rt : Reg) (imm : BitVec 16)
  /-- `ldc2 rt, offset(base)` (R750). -/
  | ldc2 (base : Reg) (rt : Reg) (imm : BitVec 16)
  /-- `sdc2 rt, offset(base)` (R751). -/
  | sdc2 (base : Reg) (rt : Reg) (imm : BitVec 16)
  /-- `eret` (R575). -/
  | eret
  /-- `deret` (R576). -/
  | deret
  /-- `tlbr` (R585). -/
  | tlbr
  /-- `tlbwi` (R586). -/
  | tlbwi
  /-- `tlbwr` (R587). -/
  | tlbwr
  /-- `tlbp` (R588). -/
  | tlbp
  /-- `nop` (R589). -/
  | nop
  /-- `ssnop` (R590). -/
  | ssnop
  /-- `ehb` (R591). -/
  | ehb
  /-- `wait` (R577). -/
  | wait
deriving DecidableEq, Repr

end Sys2Proof
end

