-- ==== Sys2Proof/WellFormed.lean ====
section
/-! DEFINITION. Which terms of `Instr` are the name of their word, and which operand combinations the architecture
calls UNPREDICTABLE (spec/93_implementation_defined.md). -/

namespace Sys2Proof

/-- An instruction is well-formed when it is the name its word decodes to. The words of `sll $0, $0, 0`,
`sll $0, $0, 1` and `sll $0, $0, 3` are `nop`, `ssnop` and `ehb` (R359, R589 to R591): as `sll` they are not
well-formed. Every other operand combination names its own word. -/
def Instr.wellFormed (i : Instr) : Bool :=
  match i with
  | .sll rt rd sa => !(rt == 0#5 && rd == 0#5 && (sa == 0#5 || sa == 1#5 || sa == 3#5))
  | _ => true

/-- Operand combinations with which the model refuses an instruction (U3, U4, U39): a link register that is also the
source, a bit field outside the word, `clz`/`clo` with `rt` other than `rd`. -/
def Instr.unpredictable (i : Instr) : Bool :=
  match i with
  | .jalr rs rd => rs == rd
  | .jalr_hb rs rd => rs == rd
  | .bltzal rs _ => rs == 31#5
  | .bgezal rs _ => rs == 31#5
  | .bltzall rs _ => rs == 31#5
  | .bgezall rs _ => rs == 31#5
  | .ext _ _ msb lsb => decide (31 < lsb.toNat + msb.toNat)
  | .ins _ _ msb lsb => decide (msb.toNat < lsb.toNat)
  | .clz _ rt rd => rt != rd
  | .clo _ rt rd => rt != rd
  | _ => false

end Sys2Proof
end

