-- ==== Sys2Proof/Decode.lean ====
section
/-! DEFINITION. Decoding an instruction word, total and rejecting by name, and encoding an instruction
(spec/30_encoding.md). The encoder stands before the last step of the decoder because that step uses it: a word
whose must-be-zero fields are not zero is not the word of any instruction (R310). -/

namespace Sys2Proof

/-- Why a word is no instruction: the map of 30_encoding.md in which it falls on a reserved entry, or a
must-be-zero field that is not zero (R310). -/
inductive DecodeError where
  | reservedOpcode
  | reservedSpecial
  | reservedRegimm
  | reservedSpecial2
  | reservedSpecial3
  | reservedCop0
  | reservedCop1
  | reservedCop1x
  | reservedCop2
  | reservedField
deriving DecidableEq, Repr

/-! The fields of a word (R291, R292). -/

/-- Opcode, bits 31:26. -/
def fieldOp (w : Word) : BitVec 6 := w.extractLsb' 26 6

/-- `rs`, `base`, `fmt`, `fr`: bits 25:21. -/
def fieldRs (w : Word) : Reg := w.extractLsb' 21 5

/-- `rt`, `ft`, `index`, `op`: bits 20:16. -/
def fieldRt (w : Word) : Reg := w.extractLsb' 16 5

/-- `rd`, `fs`, `msb`: bits 15:11. -/
def fieldRd (w : Word) : Reg := w.extractLsb' 11 5

/-- `sa`, `fd`, `lsb`, `stype`: bits 10:6. -/
def fieldSa (w : Word) : Reg := w.extractLsb' 6 5

/-- Function, bits 5:0. -/
def fieldFn (w : Word) : BitVec 6 := w.extractLsb' 0 6

/-- Immediate, bits 15:0. -/
def fieldImm (w : Word) : BitVec 16 := w.extractLsb' 0 16

/-- `instr_index`, bits 25:0. -/
def fieldTarget (w : Word) : BitVec 26 := w.extractLsb' 0 26

/-- `code` of `syscall`, `break`, `sdbbp`: bits 25:6. -/
def fieldCode20 (w : Word) : BitVec 20 := w.extractLsb' 6 20

/-- `code` of `wait`: bits 24:6. -/
def fieldCode19 (w : Word) : BitVec 19 := w.extractLsb' 6 19

/-- `code` of the register traps: bits 15:6. -/
def fieldCode10 (w : Word) : BitVec 10 := w.extractLsb' 6 10

/-- `cc` of branches and moves: bits 20:18. -/
def fieldCc (w : Word) : BitVec 3 := w.extractLsb' 18 3

/-- `cc` of compares: bits 10:8. -/
def fieldCcCmp (w : Word) : BitVec 3 := w.extractLsb' 8 3

/-- CP0 select: bits 2:0. -/
def fieldSel (w : Word) : BitVec 3 := w.extractLsb' 0 3

/-- Low bits of a CorExtend function: bits 3:0. -/
def fieldImpl4 (w : Word) : BitVec 4 := w.extractLsb' 0 4

/-- A coprocessor 2 operation: bits 24:0. -/
def fieldImpl25 (w : Word) : BitVec 25 := w.extractLsb' 0 25

/-! Words from fields: the R, I and J formats of R291, the code formats of R292. -/

def packR (op : BitVec 6) (rs rt rd sa : Reg) (fn : BitVec 6) : Word := op ++ rs ++ rt ++ rd ++ sa ++ fn

def packI (op : BitVec 6) (rs rt : Reg) (imm : BitVec 16) : Word := op ++ rs ++ rt ++ imm

def packJ (op : BitVec 6) (target : BitVec 26) : Word := op ++ target

def packCode (op : BitVec 6) (code : BitVec 20) (fn : BitVec 6) : Word := op ++ code ++ fn

def packTrap (op : BitVec 6) (rs rt : Reg) (code : BitVec 10) (fn : BitVec 6) : Word :=
  op ++ rs ++ rt ++ code ++ fn

/-- SPECIAL, by function (R295). -/
def decodeSpecial (w : Word) : Except DecodeError Instr :=
  match fieldFn w with
  | 0b000000#6 => if w = 0x00000000#32 then .ok .nop else if w = 0x00000040#32 then .ok .ssnop else if w = 0x000000C0#32 then .ok .ehb else .ok (.sll (fieldRt w) (fieldRd w) (fieldSa w))
  | 0b000001#6 => if w.getLsbD 16 then .ok (.movt (fieldRs w) (fieldCc w) (fieldRd w)) else .ok (.movf (fieldRs w) (fieldCc w) (fieldRd w))
  | 0b000010#6 => if w.getLsbD 21 then .ok (.rotr (fieldRt w) (fieldRd w) (fieldSa w)) else .ok (.srl (fieldRt w) (fieldRd w) (fieldSa w))
  | 0b000011#6 => .ok (.sra (fieldRt w) (fieldRd w) (fieldSa w))
  | 0b000100#6 => .ok (.sllv (fieldRs w) (fieldRt w) (fieldRd w))
  | 0b000110#6 => if w.getLsbD 6 then .ok (.rotrv (fieldRs w) (fieldRt w) (fieldRd w)) else .ok (.srlv (fieldRs w) (fieldRt w) (fieldRd w))
  | 0b000111#6 => .ok (.srav (fieldRs w) (fieldRt w) (fieldRd w))
  | 0b001000#6 => if w.getLsbD 10 then .ok (.jr_hb (fieldRs w)) else .ok (.jr (fieldRs w))
  | 0b001001#6 => if w.getLsbD 10 then .ok (.jalr_hb (fieldRs w) (fieldRd w)) else .ok (.jalr (fieldRs w) (fieldRd w))
  | 0b001010#6 => .ok (.movz (fieldRs w) (fieldRt w) (fieldRd w))
  | 0b001011#6 => .ok (.movn (fieldRs w) (fieldRt w) (fieldRd w))
  | 0b001100#6 => .ok (.syscall (fieldCode20 w))
  | 0b001101#6 => .ok (.break_ (fieldCode20 w))
  | 0b001111#6 => .ok (.sync (fieldSa w))
  | 0b010000#6 => .ok (.mfhi (fieldRd w))
  | 0b010001#6 => .ok (.mthi (fieldRs w))
  | 0b010010#6 => .ok (.mflo (fieldRd w))
  | 0b010011#6 => .ok (.mtlo (fieldRs w))
  | 0b011000#6 => .ok (.mult (fieldRs w) (fieldRt w))
  | 0b011001#6 => .ok (.multu (fieldRs w) (fieldRt w))
  | 0b011010#6 => .ok (.div (fieldRs w) (fieldRt w))
  | 0b011011#6 => .ok (.divu (fieldRs w) (fieldRt w))
  | 0b100000#6 => .ok (.add (fieldRs w) (fieldRt w) (fieldRd w))
  | 0b100001#6 => .ok (.addu (fieldRs w) (fieldRt w) (fieldRd w))
  | 0b100010#6 => .ok (.sub (fieldRs w) (fieldRt w) (fieldRd w))
  | 0b100011#6 => .ok (.subu (fieldRs w) (fieldRt w) (fieldRd w))
  | 0b100100#6 => .ok (.and (fieldRs w) (fieldRt w) (fieldRd w))
  | 0b100101#6 => .ok (.or (fieldRs w) (fieldRt w) (fieldRd w))
  | 0b100110#6 => .ok (.xor (fieldRs w) (fieldRt w) (fieldRd w))
  | 0b100111#6 => .ok (.nor (fieldRs w) (fieldRt w) (fieldRd w))
  | 0b101010#6 => .ok (.slt (fieldRs w) (fieldRt w) (fieldRd w))
  | 0b101011#6 => .ok (.sltu (fieldRs w) (fieldRt w) (fieldRd w))
  | 0b110000#6 => .ok (.tge (fieldRs w) (fieldRt w) (fieldCode10 w))
  | 0b110001#6 => .ok (.tgeu (fieldRs w) (fieldRt w) (fieldCode10 w))
  | 0b110010#6 => .ok (.tlt (fieldRs w) (fieldRt w) (fieldCode10 w))
  | 0b110011#6 => .ok (.tltu (fieldRs w) (fieldRt w) (fieldCode10 w))
  | 0b110100#6 => .ok (.teq (fieldRs w) (fieldRt w) (fieldCode10 w))
  | 0b110110#6 => .ok (.tne (fieldRs w) (fieldRt w) (fieldCode10 w))
  | _ => .error .reservedSpecial

/-- REGIMM, by the rt field (R296). -/
def decodeRegimm (w : Word) : Except DecodeError Instr :=
  match fieldRt w with
  | 0b00000#5 => .ok (.bltz (fieldRs w) (fieldImm w))
  | 0b00001#5 => .ok (.bgez (fieldRs w) (fieldImm w))
  | 0b00010#5 => .ok (.bltzl (fieldRs w) (fieldImm w))
  | 0b00011#5 => .ok (.bgezl (fieldRs w) (fieldImm w))
  | 0b01000#5 => .ok (.tgei (fieldRs w) (fieldImm w))
  | 0b01001#5 => .ok (.tgeiu (fieldRs w) (fieldImm w))
  | 0b01010#5 => .ok (.tlti (fieldRs w) (fieldImm w))
  | 0b01011#5 => .ok (.tltiu (fieldRs w) (fieldImm w))
  | 0b01100#5 => .ok (.teqi (fieldRs w) (fieldImm w))
  | 0b01110#5 => .ok (.tnei (fieldRs w) (fieldImm w))
  | 0b10000#5 => .ok (.bltzal (fieldRs w) (fieldImm w))
  | 0b10001#5 => .ok (.bgezal (fieldRs w) (fieldImm w))
  | 0b10010#5 => .ok (.bltzall (fieldRs w) (fieldImm w))
  | 0b10011#5 => .ok (.bgezall (fieldRs w) (fieldImm w))
  | 0b11111#5 => .ok (.synci (fieldRs w) (fieldImm w))
  | _ => .error .reservedRegimm

/-- SPECIAL2, by function; functions 16 to 31 are the CorExtend space (R297, R313). -/
def decodeSpecial2 (w : Word) : Except DecodeError Instr :=
  if w.extractLsb' 4 2 = 0b01#2 then .ok (.udi (fieldCode20 w) (fieldImpl4 w))
  else
    match fieldFn w with
    | 0b000000#6 => .ok (.madd (fieldRs w) (fieldRt w))
    | 0b000001#6 => .ok (.maddu (fieldRs w) (fieldRt w))
    | 0b000010#6 => .ok (.mul (fieldRs w) (fieldRt w) (fieldRd w))
    | 0b000100#6 => .ok (.msub (fieldRs w) (fieldRt w))
    | 0b000101#6 => .ok (.msubu (fieldRs w) (fieldRt w))
    | 0b100000#6 => .ok (.clz (fieldRs w) (fieldRt w) (fieldRd w))
    | 0b100001#6 => .ok (.clo (fieldRs w) (fieldRt w) (fieldRd w))
    | 0b111111#6 => .ok (.sdbbp (fieldCode20 w))
    | _ => .error .reservedSpecial2

/-- BSHFL, by the sa field (R303). -/
def decodeBshfl (w : Word) : Except DecodeError Instr :=
  match fieldSa w with
  | 0b00010#5 => .ok (.wsbh (fieldRt w) (fieldRd w))
  | 0b10000#5 => .ok (.seb (fieldRt w) (fieldRd w))
  | 0b11000#5 => .ok (.seh (fieldRt w) (fieldRd w))
  | _ => .error .reservedSpecial3

/-- SPECIAL3, by function (R298). -/
def decodeSpecial3 (w : Word) : Except DecodeError Instr :=
  match fieldFn w with
  | 0b000000#6 => .ok (.ext (fieldRs w) (fieldRt w) (fieldRd w) (fieldSa w))
  | 0b000100#6 => .ok (.ins (fieldRs w) (fieldRt w) (fieldRd w) (fieldSa w))
  | 0b100000#6 => decodeBshfl w
  | 0b111011#6 => .ok (.rdhwr (fieldRt w) (fieldRd w))
  | _ => .error .reservedSpecial3

/-- COP0 CO format, by function (R299). -/
def decodeCo (w : Word) : Except DecodeError Instr :=
  match fieldFn w with
  | 0b000001#6 => .ok .tlbr
  | 0b000010#6 => .ok .tlbwi
  | 0b000110#6 => .ok .tlbwr
  | 0b001000#6 => .ok .tlbp
  | 0b011000#6 => .ok .eret
  | 0b011111#6 => .ok .deret
  | 0b100000#6 => .ok .wait
  | _ => .error .reservedCop0

/-- COP0, by the rs field (R299). -/
def decodeCop0 (w : Word) : Except DecodeError Instr :=
  if w.getLsbD 25 then decodeCo w
  else
    match fieldRs w with
    | 0b00000#5 => .ok (.mfc0 (fieldRt w) (fieldRd w) (fieldSel w))
    | 0b00100#5 => .ok (.mtc0 (fieldRt w) (fieldRd w) (fieldSel w))
    | 0b01010#5 => .ok (.rdpgpr (fieldRt w) (fieldRd w))
    | 0b01011#5 => if w.getLsbD 5 then .ok (.ei (fieldRt w)) else .ok (.di (fieldRt w))
    | 0b01110#5 => .ok (.wrpgpr (fieldRt w) (fieldRd w))
    | _ => .error .reservedCop0

/-- BC1, by nd and tf (R300). -/
def decodeBc1 (w : Word) : Except DecodeError Instr :=
  match w.extractLsb' 16 2 with
  | 0b00#2 => .ok (.bc1f (fieldCc w) (fieldImm w))
  | 0b01#2 => .ok (.bc1t (fieldCc w) (fieldImm w))
  | 0b10#2 => .ok (.bc1fl (fieldCc w) (fieldImm w))
  | 0b11#2 => .ok (.bc1tl (fieldCc w) (fieldImm w))
  | _ => .error .reservedCop1

/-- BC2, by nd and tf (R300). -/
def decodeBc2 (w : Word) : Except DecodeError Instr :=
  match w.extractLsb' 16 2 with
  | 0b00#2 => .ok (.bc2f (fieldCc w) (fieldImm w))
  | 0b01#2 => .ok (.bc2t (fieldCc w) (fieldImm w))
  | 0b10#2 => .ok (.bc2fl (fieldCc w) (fieldImm w))
  | 0b11#2 => .ok (.bc2tl (fieldCc w) (fieldImm w))
  | _ => .error .reservedCop2

/-- COP1 format S, by function (R300). -/
def decodeFmtS (w : Word) : Except DecodeError Instr :=
  match fieldFn w with
  | 0b000000#6 => .ok (.add_s (fieldRt w) (fieldRd w) (fieldSa w))
  | 0b000001#6 => .ok (.sub_s (fieldRt w) (fieldRd w) (fieldSa w))
  | 0b000010#6 => .ok (.mul_s (fieldRt w) (fieldRd w) (fieldSa w))
  | 0b000011#6 => .ok (.div_s (fieldRt w) (fieldRd w) (fieldSa w))
  | 0b000100#6 => .ok (.sqrt_s (fieldRd w) (fieldSa w))
  | 0b000101#6 => .ok (.abs_s (fieldRd w) (fieldSa w))
  | 0b000110#6 => .ok (.mov_s (fieldRd w) (fieldSa w))
  | 0b000111#6 => .ok (.neg_s (fieldRd w) (fieldSa w))
  | 0b001000#6 => .ok (.round_l_s (fieldRd w) (fieldSa w))
  | 0b001001#6 => .ok (.trunc_l_s (fieldRd w) (fieldSa w))
  | 0b001010#6 => .ok (.ceil_l_s (fieldRd w) (fieldSa w))
  | 0b001011#6 => .ok (.floor_l_s (fieldRd w) (fieldSa w))
  | 0b001100#6 => .ok (.round_w_s (fieldRd w) (fieldSa w))
  | 0b001101#6 => .ok (.trunc_w_s (fieldRd w) (fieldSa w))
  | 0b001110#6 => .ok (.ceil_w_s (fieldRd w) (fieldSa w))
  | 0b001111#6 => .ok (.floor_w_s (fieldRd w) (fieldSa w))
  | 0b010001#6 => if w.getLsbD 16 then .ok (.movt_s (fieldCc w) (fieldRd w) (fieldSa w)) else .ok (.movf_s (fieldCc w) (fieldRd w) (fieldSa w))
  | 0b010010#6 => .ok (.movz_s (fieldRt w) (fieldRd w) (fieldSa w))
  | 0b010011#6 => .ok (.movn_s (fieldRt w) (fieldRd w) (fieldSa w))
  | 0b010101#6 => .ok (.recip_s (fieldRd w) (fieldSa w))
  | 0b010110#6 => .ok (.rsqrt_s (fieldRd w) (fieldSa w))
  | 0b100001#6 => .ok (.cvt_d_s (fieldRd w) (fieldSa w))
  | 0b100100#6 => .ok (.cvt_w_s (fieldRd w) (fieldSa w))
  | 0b100101#6 => .ok (.cvt_l_s (fieldRd w) (fieldSa w))
  | 0b110000#6 => .ok (.c_f_s (fieldRt w) (fieldRd w) (fieldCcCmp w))
  | 0b110001#6 => .ok (.c_un_s (fieldRt w) (fieldRd w) (fieldCcCmp w))
  | 0b110010#6 => .ok (.c_eq_s (fieldRt w) (fieldRd w) (fieldCcCmp w))
  | 0b110011#6 => .ok (.c_ueq_s (fieldRt w) (fieldRd w) (fieldCcCmp w))
  | 0b110100#6 => .ok (.c_olt_s (fieldRt w) (fieldRd w) (fieldCcCmp w))
  | 0b110101#6 => .ok (.c_ult_s (fieldRt w) (fieldRd w) (fieldCcCmp w))
  | 0b110110#6 => .ok (.c_ole_s (fieldRt w) (fieldRd w) (fieldCcCmp w))
  | 0b110111#6 => .ok (.c_ule_s (fieldRt w) (fieldRd w) (fieldCcCmp w))
  | 0b111000#6 => .ok (.c_sf_s (fieldRt w) (fieldRd w) (fieldCcCmp w))
  | 0b111001#6 => .ok (.c_ngle_s (fieldRt w) (fieldRd w) (fieldCcCmp w))
  | 0b111010#6 => .ok (.c_seq_s (fieldRt w) (fieldRd w) (fieldCcCmp w))
  | 0b111011#6 => .ok (.c_ngl_s (fieldRt w) (fieldRd w) (fieldCcCmp w))
  | 0b111100#6 => .ok (.c_lt_s (fieldRt w) (fieldRd w) (fieldCcCmp w))
  | 0b111101#6 => .ok (.c_nge_s (fieldRt w) (fieldRd w) (fieldCcCmp w))
  | 0b111110#6 => .ok (.c_le_s (fieldRt w) (fieldRd w) (fieldCcCmp w))
  | 0b111111#6 => .ok (.c_ngt_s (fieldRt w) (fieldRd w) (fieldCcCmp w))
  | _ => .error .reservedCop1

/-- COP1 format D, by function (R300). -/
def decodeFmtD (w : Word) : Except DecodeError Instr :=
  match fieldFn w with
  | 0b000000#6 => .ok (.add_d (fieldRt w) (fieldRd w) (fieldSa w))
  | 0b000001#6 => .ok (.sub_d (fieldRt w) (fieldRd w) (fieldSa w))
  | 0b000010#6 => .ok (.mul_d (fieldRt w) (fieldRd w) (fieldSa w))
  | 0b000011#6 => .ok (.div_d (fieldRt w) (fieldRd w) (fieldSa w))
  | 0b000100#6 => .ok (.sqrt_d (fieldRd w) (fieldSa w))
  | 0b000101#6 => .ok (.abs_d (fieldRd w) (fieldSa w))
  | 0b000110#6 => .ok (.mov_d (fieldRd w) (fieldSa w))
  | 0b000111#6 => .ok (.neg_d (fieldRd w) (fieldSa w))
  | 0b001000#6 => .ok (.round_l_d (fieldRd w) (fieldSa w))
  | 0b001001#6 => .ok (.trunc_l_d (fieldRd w) (fieldSa w))
  | 0b001010#6 => .ok (.ceil_l_d (fieldRd w) (fieldSa w))
  | 0b001011#6 => .ok (.floor_l_d (fieldRd w) (fieldSa w))
  | 0b001100#6 => .ok (.round_w_d (fieldRd w) (fieldSa w))
  | 0b001101#6 => .ok (.trunc_w_d (fieldRd w) (fieldSa w))
  | 0b001110#6 => .ok (.ceil_w_d (fieldRd w) (fieldSa w))
  | 0b001111#6 => .ok (.floor_w_d (fieldRd w) (fieldSa w))
  | 0b010001#6 => if w.getLsbD 16 then .ok (.movt_d (fieldCc w) (fieldRd w) (fieldSa w)) else .ok (.movf_d (fieldCc w) (fieldRd w) (fieldSa w))
  | 0b010010#6 => .ok (.movz_d (fieldRt w) (fieldRd w) (fieldSa w))
  | 0b010011#6 => .ok (.movn_d (fieldRt w) (fieldRd w) (fieldSa w))
  | 0b010101#6 => .ok (.recip_d (fieldRd w) (fieldSa w))
  | 0b010110#6 => .ok (.rsqrt_d (fieldRd w) (fieldSa w))
  | 0b100000#6 => .ok (.cvt_s_d (fieldRd w) (fieldSa w))
  | 0b100100#6 => .ok (.cvt_w_d (fieldRd w) (fieldSa w))
  | 0b100101#6 => .ok (.cvt_l_d (fieldRd w) (fieldSa w))
  | 0b110000#6 => .ok (.c_f_d (fieldRt w) (fieldRd w) (fieldCcCmp w))
  | 0b110001#6 => .ok (.c_un_d (fieldRt w) (fieldRd w) (fieldCcCmp w))
  | 0b110010#6 => .ok (.c_eq_d (fieldRt w) (fieldRd w) (fieldCcCmp w))
  | 0b110011#6 => .ok (.c_ueq_d (fieldRt w) (fieldRd w) (fieldCcCmp w))
  | 0b110100#6 => .ok (.c_olt_d (fieldRt w) (fieldRd w) (fieldCcCmp w))
  | 0b110101#6 => .ok (.c_ult_d (fieldRt w) (fieldRd w) (fieldCcCmp w))
  | 0b110110#6 => .ok (.c_ole_d (fieldRt w) (fieldRd w) (fieldCcCmp w))
  | 0b110111#6 => .ok (.c_ule_d (fieldRt w) (fieldRd w) (fieldCcCmp w))
  | 0b111000#6 => .ok (.c_sf_d (fieldRt w) (fieldRd w) (fieldCcCmp w))
  | 0b111001#6 => .ok (.c_ngle_d (fieldRt w) (fieldRd w) (fieldCcCmp w))
  | 0b111010#6 => .ok (.c_seq_d (fieldRt w) (fieldRd w) (fieldCcCmp w))
  | 0b111011#6 => .ok (.c_ngl_d (fieldRt w) (fieldRd w) (fieldCcCmp w))
  | 0b111100#6 => .ok (.c_lt_d (fieldRt w) (fieldRd w) (fieldCcCmp w))
  | 0b111101#6 => .ok (.c_nge_d (fieldRt w) (fieldRd w) (fieldCcCmp w))
  | 0b111110#6 => .ok (.c_le_d (fieldRt w) (fieldRd w) (fieldCcCmp w))
  | 0b111111#6 => .ok (.c_ngt_d (fieldRt w) (fieldRd w) (fieldCcCmp w))
  | _ => .error .reservedCop1

/-- COP1 format W, by function (R300). -/
def decodeFmtW (w : Word) : Except DecodeError Instr :=
  match fieldFn w with
  | 0b100000#6 => .ok (.cvt_s_w (fieldRd w) (fieldSa w))
  | 0b100001#6 => .ok (.cvt_d_w (fieldRd w) (fieldSa w))
  | _ => .error .reservedCop1

/-- COP1 format L, by function (R300). -/
def decodeFmtL (w : Word) : Except DecodeError Instr :=
  match fieldFn w with
  | 0b100000#6 => .ok (.cvt_s_l (fieldRd w) (fieldSa w))
  | 0b100001#6 => .ok (.cvt_d_l (fieldRd w) (fieldSa w))
  | _ => .error .reservedCop1

/-- COP1, by the rs (fmt) field (R300). -/
def decodeCop1 (w : Word) : Except DecodeError Instr :=
  match fieldRs w with
  | 0b00000#5 => .ok (.mfc1 (fieldRt w) (fieldRd w))
  | 0b00010#5 => .ok (.cfc1 (fieldRt w) (fieldRd w))
  | 0b00011#5 => .ok (.mfhc1 (fieldRt w) (fieldRd w))
  | 0b00100#5 => .ok (.mtc1 (fieldRt w) (fieldRd w))
  | 0b00110#5 => .ok (.ctc1 (fieldRt w) (fieldRd w))
  | 0b00111#5 => .ok (.mthc1 (fieldRt w) (fieldRd w))
  | 0b01000#5 => decodeBc1 w
  | 0b10000#5 => decodeFmtS w
  | 0b10001#5 => decodeFmtD w
  | 0b10100#5 => decodeFmtW w
  | 0b10101#5 => decodeFmtL w
  | _ => .error .reservedCop1

/-- COP1X, by function (R301). -/
def decodeCop1x (w : Word) : Except DecodeError Instr :=
  match fieldFn w with
  | 0b000000#6 => .ok (.lwxc1 (fieldRs w) (fieldRt w) (fieldSa w))
  | 0b000001#6 => .ok (.ldxc1 (fieldRs w) (fieldRt w) (fieldSa w))
  | 0b000101#6 => .ok (.luxc1 (fieldRs w) (fieldRt w) (fieldSa w))
  | 0b001000#6 => .ok (.swxc1 (fieldRs w) (fieldRt w) (fieldRd w))
  | 0b001001#6 => .ok (.sdxc1 (fieldRs w) (fieldRt w) (fieldRd w))
  | 0b001101#6 => .ok (.suxc1 (fieldRs w) (fieldRt w) (fieldRd w))
  | 0b001111#6 => .ok (.prefx (fieldRs w) (fieldRt w) (fieldRd w))
  | 0b100000#6 => .ok (.madd_s (fieldRs w) (fieldRt w) (fieldRd w) (fieldSa w))
  | 0b100001#6 => .ok (.madd_d (fieldRs w) (fieldRt w) (fieldRd w) (fieldSa w))
  | 0b101000#6 => .ok (.msub_s (fieldRs w) (fieldRt w) (fieldRd w) (fieldSa w))
  | 0b101001#6 => .ok (.msub_d (fieldRs w) (fieldRt w) (fieldRd w) (fieldSa w))
  | 0b110000#6 => .ok (.nmadd_s (fieldRs w) (fieldRt w) (fieldRd w) (fieldSa w))
  | 0b110001#6 => .ok (.nmadd_d (fieldRs w) (fieldRt w) (fieldRd w) (fieldSa w))
  | 0b111000#6 => .ok (.nmsub_s (fieldRs w) (fieldRt w) (fieldRd w) (fieldSa w))
  | 0b111001#6 => .ok (.nmsub_d (fieldRs w) (fieldRt w) (fieldRd w) (fieldSa w))
  | _ => .error .reservedCop1x

/-- COP2, by the rs field (R302). -/
def decodeCop2 (w : Word) : Except DecodeError Instr :=
  if w.getLsbD 25 then .ok (.cop2 (fieldImpl25 w))
  else
    match fieldRs w with
    | 0b00000#5 => .ok (.mfc2 (fieldRt w) (fieldImm w))
    | 0b00010#5 => .ok (.cfc2 (fieldRt w) (fieldRd w))
    | 0b00011#5 => .ok (.mfhc2 (fieldRt w) (fieldImm w))
    | 0b00100#5 => .ok (.mtc2 (fieldRt w) (fieldImm w))
    | 0b00110#5 => .ok (.ctc2 (fieldRt w) (fieldRd w))
    | 0b00111#5 => .ok (.mthc2 (fieldRt w) (fieldImm w))
    | 0b01000#5 => decodeBc2 w
    | _ => .error .reservedCop2

/-- The instruction a word names by its opcode and sub-opcode fields, whatever its must-be-zero fields hold (R294). -/
def decodeFields (w : Word) : Except DecodeError Instr :=
  match fieldOp w with
  | 0b000000#6 => decodeSpecial w
  | 0b000001#6 => decodeRegimm w
  | 0b000010#6 => .ok (.j (fieldTarget w))
  | 0b000011#6 => .ok (.jal (fieldTarget w))
  | 0b000100#6 => .ok (.beq (fieldRs w) (fieldRt w) (fieldImm w))
  | 0b000101#6 => .ok (.bne (fieldRs w) (fieldRt w) (fieldImm w))
  | 0b000110#6 => .ok (.blez (fieldRs w) (fieldImm w))
  | 0b000111#6 => .ok (.bgtz (fieldRs w) (fieldImm w))
  | 0b001000#6 => .ok (.addi (fieldRs w) (fieldRt w) (fieldImm w))
  | 0b001001#6 => .ok (.addiu (fieldRs w) (fieldRt w) (fieldImm w))
  | 0b001010#6 => .ok (.slti (fieldRs w) (fieldRt w) (fieldImm w))
  | 0b001011#6 => .ok (.sltiu (fieldRs w) (fieldRt w) (fieldImm w))
  | 0b001100#6 => .ok (.andi (fieldRs w) (fieldRt w) (fieldImm w))
  | 0b001101#6 => .ok (.ori (fieldRs w) (fieldRt w) (fieldImm w))
  | 0b001110#6 => .ok (.xori (fieldRs w) (fieldRt w) (fieldImm w))
  | 0b001111#6 => .ok (.lui (fieldRt w) (fieldImm w))
  | 0b010000#6 => decodeCop0 w
  | 0b010001#6 => decodeCop1 w
  | 0b010010#6 => decodeCop2 w
  | 0b010011#6 => decodeCop1x w
  | 0b010100#6 => .ok (.beql (fieldRs w) (fieldRt w) (fieldImm w))
  | 0b010101#6 => .ok (.bnel (fieldRs w) (fieldRt w) (fieldImm w))
  | 0b010110#6 => .ok (.blezl (fieldRs w) (fieldImm w))
  | 0b010111#6 => .ok (.bgtzl (fieldRs w) (fieldImm w))
  | 0b011100#6 => decodeSpecial2 w
  | 0b011101#6 => .ok (.jalx (fieldTarget w))
  | 0b011111#6 => decodeSpecial3 w
  | 0b100000#6 => .ok (.lb (fieldRs w) (fieldRt w) (fieldImm w))
  | 0b100001#6 => .ok (.lh (fieldRs w) (fieldRt w) (fieldImm w))
  | 0b100010#6 => .ok (.lwl (fieldRs w) (fieldRt w) (fieldImm w))
  | 0b100011#6 => .ok (.lw (fieldRs w) (fieldRt w) (fieldImm w))
  | 0b100100#6 => .ok (.lbu (fieldRs w) (fieldRt w) (fieldImm w))
  | 0b100101#6 => .ok (.lhu (fieldRs w) (fieldRt w) (fieldImm w))
  | 0b100110#6 => .ok (.lwr (fieldRs w) (fieldRt w) (fieldImm w))
  | 0b101000#6 => .ok (.sb (fieldRs w) (fieldRt w) (fieldImm w))
  | 0b101001#6 => .ok (.sh (fieldRs w) (fieldRt w) (fieldImm w))
  | 0b101010#6 => .ok (.swl (fieldRs w) (fieldRt w) (fieldImm w))
  | 0b101011#6 => .ok (.sw (fieldRs w) (fieldRt w) (fieldImm w))
  | 0b101110#6 => .ok (.swr (fieldRs w) (fieldRt w) (fieldImm w))
  | 0b101111#6 => .ok (.cache (fieldRs w) (fieldRt w) (fieldImm w))
  | 0b110000#6 => .ok (.ll (fieldRs w) (fieldRt w) (fieldImm w))
  | 0b110001#6 => .ok (.lwc1 (fieldRs w) (fieldRt w) (fieldImm w))
  | 0b110010#6 => .ok (.lwc2 (fieldRs w) (fieldRt w) (fieldImm w))
  | 0b110011#6 => .ok (.pref (fieldRs w) (fieldRt w) (fieldImm w))
  | 0b110101#6 => .ok (.ldc1 (fieldRs w) (fieldRt w) (fieldImm w))
  | 0b110110#6 => .ok (.ldc2 (fieldRs w) (fieldRt w) (fieldImm w))
  | 0b111000#6 => .ok (.sc (fieldRs w) (fieldRt w) (fieldImm w))
  | 0b111001#6 => .ok (.swc1 (fieldRs w) (fieldRt w) (fieldImm w))
  | 0b111010#6 => .ok (.swc2 (fieldRs w) (fieldRt w) (fieldImm w))
  | 0b111101#6 => .ok (.sdc1 (fieldRs w) (fieldRt w) (fieldImm w))
  | 0b111110#6 => .ok (.sdc2 (fieldRs w) (fieldRt w) (fieldImm w))
  | _ => .error .reservedOpcode

/-- The word of an instruction, from the same encoding tables (R291 to R303). -/
def encode (i : Instr) : Word :=
  match i with
  | .eret => packR 0b010000#6 0b10000#5 0b00000#5 0b00000#5 0b00000#5 0b011000#6
  | .deret => packR 0b010000#6 0b10000#5 0b00000#5 0b00000#5 0b00000#5 0b011111#6
  | .tlbr => packR 0b010000#6 0b10000#5 0b00000#5 0b00000#5 0b00000#5 0b000001#6
  | .tlbwi => packR 0b010000#6 0b10000#5 0b00000#5 0b00000#5 0b00000#5 0b000010#6
  | .tlbwr => packR 0b010000#6 0b10000#5 0b00000#5 0b00000#5 0b00000#5 0b000110#6
  | .tlbp => packR 0b010000#6 0b10000#5 0b00000#5 0b00000#5 0b00000#5 0b001000#6
  | .nop => packR 0b000000#6 0b00000#5 0b00000#5 0b00000#5 0b00000#5 0b000000#6
  | .ssnop => packR 0b000000#6 0b00000#5 0b00000#5 0b00000#5 0b00001#5 0b000000#6
  | .ehb => packR 0b000000#6 0b00000#5 0b00000#5 0b00000#5 0b00011#5 0b000000#6
  | .mfhi rd => packR 0b000000#6 0b00000#5 0b00000#5 rd 0b00000#5 0b010000#6
  | .mflo rd => packR 0b000000#6 0b00000#5 0b00000#5 rd 0b00000#5 0b010010#6
  | .mthi rs => packR 0b000000#6 rs 0b00000#5 0b00000#5 0b00000#5 0b010001#6
  | .mtlo rs => packR 0b000000#6 rs 0b00000#5 0b00000#5 0b00000#5 0b010011#6
  | .jr rs => packR 0b000000#6 rs 0b00000#5 0b00000#5 0b00000#5 0b001000#6
  | .jr_hb rs => packR 0b000000#6 rs 0b00000#5 0b00000#5 0b10000#5 0b001000#6
  | .sync stype => packR 0b000000#6 0b00000#5 0b00000#5 0b00000#5 stype 0b001111#6
  | .di rt => packR 0b010000#6 0b01011#5 rt 0b01100#5 0b00000#5 0b000000#6
  | .ei rt => packR 0b010000#6 0b01011#5 rt 0b01100#5 0b00000#5 0b100000#6
  | .seb rt rd => packR 0b011111#6 0b00000#5 rt rd 0b10000#5 0b100000#6
  | .seh rt rd => packR 0b011111#6 0b00000#5 rt rd 0b11000#5 0b100000#6
  | .wsbh rt rd => packR 0b011111#6 0b00000#5 rt rd 0b00010#5 0b100000#6
  | .mult rs rt => packR 0b000000#6 rs rt 0b00000#5 0b00000#5 0b011000#6
  | .multu rs rt => packR 0b000000#6 rs rt 0b00000#5 0b00000#5 0b011001#6
  | .madd rs rt => packR 0b011100#6 rs rt 0b00000#5 0b00000#5 0b000000#6
  | .maddu rs rt => packR 0b011100#6 rs rt 0b00000#5 0b00000#5 0b000001#6
  | .msub rs rt => packR 0b011100#6 rs rt 0b00000#5 0b00000#5 0b000100#6
  | .msubu rs rt => packR 0b011100#6 rs rt 0b00000#5 0b00000#5 0b000101#6
  | .div rs rt => packR 0b000000#6 rs rt 0b00000#5 0b00000#5 0b011010#6
  | .divu rs rt => packR 0b000000#6 rs rt 0b00000#5 0b00000#5 0b011011#6
  | .jalr rs rd => packR 0b000000#6 rs 0b00000#5 rd 0b00000#5 0b001001#6
  | .jalr_hb rs rd => packR 0b000000#6 rs 0b00000#5 rd 0b10000#5 0b001001#6
  | .rdpgpr rt rd => packR 0b010000#6 0b01010#5 rt rd 0b00000#5 0b000000#6
  | .wrpgpr rt rd => packR 0b010000#6 0b01110#5 rt rd 0b00000#5 0b000000#6
  | .rdhwr rt rd => packR 0b011111#6 0b00000#5 rt rd 0b00000#5 0b111011#6
  | .mfc1 rt fs => packR 0b010001#6 0b00000#5 rt fs 0b00000#5 0b000000#6
  | .mtc1 rt fs => packR 0b010001#6 0b00100#5 rt fs 0b00000#5 0b000000#6
  | .mfhc1 rt fs => packR 0b010001#6 0b00011#5 rt fs 0b00000#5 0b000000#6
  | .mthc1 rt fs => packR 0b010001#6 0b00111#5 rt fs 0b00000#5 0b000000#6
  | .cfc1 rt fs => packR 0b010001#6 0b00010#5 rt fs 0b00000#5 0b000000#6
  | .ctc1 rt fs => packR 0b010001#6 0b00110#5 rt fs 0b00000#5 0b000000#6
  | .sqrt_s fs fd => packR 0b010001#6 0b10000#5 0b00000#5 fs fd 0b000100#6
  | .sqrt_d fs fd => packR 0b010001#6 0b10001#5 0b00000#5 fs fd 0b000100#6
  | .abs_s fs fd => packR 0b010001#6 0b10000#5 0b00000#5 fs fd 0b000101#6
  | .abs_d fs fd => packR 0b010001#6 0b10001#5 0b00000#5 fs fd 0b000101#6
  | .neg_s fs fd => packR 0b010001#6 0b10000#5 0b00000#5 fs fd 0b000111#6
  | .neg_d fs fd => packR 0b010001#6 0b10001#5 0b00000#5 fs fd 0b000111#6
  | .mov_s fs fd => packR 0b010001#6 0b10000#5 0b00000#5 fs fd 0b000110#6
  | .mov_d fs fd => packR 0b010001#6 0b10001#5 0b00000#5 fs fd 0b000110#6
  | .recip_s fs fd => packR 0b010001#6 0b10000#5 0b00000#5 fs fd 0b010101#6
  | .recip_d fs fd => packR 0b010001#6 0b10001#5 0b00000#5 fs fd 0b010101#6
  | .rsqrt_s fs fd => packR 0b010001#6 0b10000#5 0b00000#5 fs fd 0b010110#6
  | .rsqrt_d fs fd => packR 0b010001#6 0b10001#5 0b00000#5 fs fd 0b010110#6
  | .round_w_s fs fd => packR 0b010001#6 0b10000#5 0b00000#5 fs fd 0b001100#6
  | .round_w_d fs fd => packR 0b010001#6 0b10001#5 0b00000#5 fs fd 0b001100#6
  | .trunc_w_s fs fd => packR 0b010001#6 0b10000#5 0b00000#5 fs fd 0b001101#6
  | .trunc_w_d fs fd => packR 0b010001#6 0b10001#5 0b00000#5 fs fd 0b001101#6
  | .ceil_w_s fs fd => packR 0b010001#6 0b10000#5 0b00000#5 fs fd 0b001110#6
  | .ceil_w_d fs fd => packR 0b010001#6 0b10001#5 0b00000#5 fs fd 0b001110#6
  | .floor_w_s fs fd => packR 0b010001#6 0b10000#5 0b00000#5 fs fd 0b001111#6
  | .floor_w_d fs fd => packR 0b010001#6 0b10001#5 0b00000#5 fs fd 0b001111#6
  | .round_l_s fs fd => packR 0b010001#6 0b10000#5 0b00000#5 fs fd 0b001000#6
  | .round_l_d fs fd => packR 0b010001#6 0b10001#5 0b00000#5 fs fd 0b001000#6
  | .trunc_l_s fs fd => packR 0b010001#6 0b10000#5 0b00000#5 fs fd 0b001001#6
  | .trunc_l_d fs fd => packR 0b010001#6 0b10001#5 0b00000#5 fs fd 0b001001#6
  | .ceil_l_s fs fd => packR 0b010001#6 0b10000#5 0b00000#5 fs fd 0b001010#6
  | .ceil_l_d fs fd => packR 0b010001#6 0b10001#5 0b00000#5 fs fd 0b001010#6
  | .floor_l_s fs fd => packR 0b010001#6 0b10000#5 0b00000#5 fs fd 0b001011#6
  | .floor_l_d fs fd => packR 0b010001#6 0b10001#5 0b00000#5 fs fd 0b001011#6
  | .cvt_s_d fs fd => packR 0b010001#6 0b10001#5 0b00000#5 fs fd 0b100000#6
  | .cvt_s_w fs fd => packR 0b010001#6 0b10100#5 0b00000#5 fs fd 0b100000#6
  | .cvt_s_l fs fd => packR 0b010001#6 0b10101#5 0b00000#5 fs fd 0b100000#6
  | .cvt_d_s fs fd => packR 0b010001#6 0b10000#5 0b00000#5 fs fd 0b100001#6
  | .cvt_d_w fs fd => packR 0b010001#6 0b10100#5 0b00000#5 fs fd 0b100001#6
  | .cvt_d_l fs fd => packR 0b010001#6 0b10101#5 0b00000#5 fs fd 0b100001#6
  | .cvt_w_s fs fd => packR 0b010001#6 0b10000#5 0b00000#5 fs fd 0b100100#6
  | .cvt_w_d fs fd => packR 0b010001#6 0b10001#5 0b00000#5 fs fd 0b100100#6
  | .cvt_l_s fs fd => packR 0b010001#6 0b10000#5 0b00000#5 fs fd 0b100101#6
  | .cvt_l_d fs fd => packR 0b010001#6 0b10001#5 0b00000#5 fs fd 0b100101#6
  | .cfc2 rt rd => packR 0b010010#6 0b00010#5 rt rd 0b00000#5 0b000000#6
  | .ctc2 rt rd => packR 0b010010#6 0b00110#5 rt rd 0b00000#5 0b000000#6
  | .movf rs cc rd => packR 0b000000#6 rs (cc ++ 0b00#2) rd 0b00000#5 0b000001#6
  | .movt rs cc rd => packR 0b000000#6 rs (cc ++ 0b01#2) rd 0b00000#5 0b000001#6
  | .mfc0 rt rd sel => packR 0b010000#6 0b00000#5 rt rd 0b00000#5 (0b000#3 ++ sel)
  | .mtc0 rt rd sel => packR 0b010000#6 0b00100#5 rt rd 0b00000#5 (0b000#3 ++ sel)
  | .c_f_s ft fs cc => packR 0b010001#6 0b10000#5 ft fs (cc ++ 0b00#2) 0b110000#6
  | .c_un_s ft fs cc => packR 0b010001#6 0b10000#5 ft fs (cc ++ 0b00#2) 0b110001#6
  | .c_eq_s ft fs cc => packR 0b010001#6 0b10000#5 ft fs (cc ++ 0b00#2) 0b110010#6
  | .c_ueq_s ft fs cc => packR 0b010001#6 0b10000#5 ft fs (cc ++ 0b00#2) 0b110011#6
  | .c_olt_s ft fs cc => packR 0b010001#6 0b10000#5 ft fs (cc ++ 0b00#2) 0b110100#6
  | .c_ult_s ft fs cc => packR 0b010001#6 0b10000#5 ft fs (cc ++ 0b00#2) 0b110101#6
  | .c_ole_s ft fs cc => packR 0b010001#6 0b10000#5 ft fs (cc ++ 0b00#2) 0b110110#6
  | .c_ule_s ft fs cc => packR 0b010001#6 0b10000#5 ft fs (cc ++ 0b00#2) 0b110111#6
  | .c_sf_s ft fs cc => packR 0b010001#6 0b10000#5 ft fs (cc ++ 0b00#2) 0b111000#6
  | .c_ngle_s ft fs cc => packR 0b010001#6 0b10000#5 ft fs (cc ++ 0b00#2) 0b111001#6
  | .c_seq_s ft fs cc => packR 0b010001#6 0b10000#5 ft fs (cc ++ 0b00#2) 0b111010#6
  | .c_ngl_s ft fs cc => packR 0b010001#6 0b10000#5 ft fs (cc ++ 0b00#2) 0b111011#6
  | .c_lt_s ft fs cc => packR 0b010001#6 0b10000#5 ft fs (cc ++ 0b00#2) 0b111100#6
  | .c_nge_s ft fs cc => packR 0b010001#6 0b10000#5 ft fs (cc ++ 0b00#2) 0b111101#6
  | .c_le_s ft fs cc => packR 0b010001#6 0b10000#5 ft fs (cc ++ 0b00#2) 0b111110#6
  | .c_ngt_s ft fs cc => packR 0b010001#6 0b10000#5 ft fs (cc ++ 0b00#2) 0b111111#6
  | .c_f_d ft fs cc => packR 0b010001#6 0b10001#5 ft fs (cc ++ 0b00#2) 0b110000#6
  | .c_un_d ft fs cc => packR 0b010001#6 0b10001#5 ft fs (cc ++ 0b00#2) 0b110001#6
  | .c_eq_d ft fs cc => packR 0b010001#6 0b10001#5 ft fs (cc ++ 0b00#2) 0b110010#6
  | .c_ueq_d ft fs cc => packR 0b010001#6 0b10001#5 ft fs (cc ++ 0b00#2) 0b110011#6
  | .c_olt_d ft fs cc => packR 0b010001#6 0b10001#5 ft fs (cc ++ 0b00#2) 0b110100#6
  | .c_ult_d ft fs cc => packR 0b010001#6 0b10001#5 ft fs (cc ++ 0b00#2) 0b110101#6
  | .c_ole_d ft fs cc => packR 0b010001#6 0b10001#5 ft fs (cc ++ 0b00#2) 0b110110#6
  | .c_ule_d ft fs cc => packR 0b010001#6 0b10001#5 ft fs (cc ++ 0b00#2) 0b110111#6
  | .c_sf_d ft fs cc => packR 0b010001#6 0b10001#5 ft fs (cc ++ 0b00#2) 0b111000#6
  | .c_ngle_d ft fs cc => packR 0b010001#6 0b10001#5 ft fs (cc ++ 0b00#2) 0b111001#6
  | .c_seq_d ft fs cc => packR 0b010001#6 0b10001#5 ft fs (cc ++ 0b00#2) 0b111010#6
  | .c_ngl_d ft fs cc => packR 0b010001#6 0b10001#5 ft fs (cc ++ 0b00#2) 0b111011#6
  | .c_lt_d ft fs cc => packR 0b010001#6 0b10001#5 ft fs (cc ++ 0b00#2) 0b111100#6
  | .c_nge_d ft fs cc => packR 0b010001#6 0b10001#5 ft fs (cc ++ 0b00#2) 0b111101#6
  | .c_le_d ft fs cc => packR 0b010001#6 0b10001#5 ft fs (cc ++ 0b00#2) 0b111110#6
  | .c_ngt_d ft fs cc => packR 0b010001#6 0b10001#5 ft fs (cc ++ 0b00#2) 0b111111#6
  | .movf_s cc fs fd => packR 0b010001#6 0b10000#5 (cc ++ 0b00#2) fs fd 0b010001#6
  | .movt_s cc fs fd => packR 0b010001#6 0b10000#5 (cc ++ 0b01#2) fs fd 0b010001#6
  | .movf_d cc fs fd => packR 0b010001#6 0b10001#5 (cc ++ 0b00#2) fs fd 0b010001#6
  | .movt_d cc fs fd => packR 0b010001#6 0b10001#5 (cc ++ 0b01#2) fs fd 0b010001#6
  | .add rs rt rd => packR 0b000000#6 rs rt rd 0b00000#5 0b100000#6
  | .addu rs rt rd => packR 0b000000#6 rs rt rd 0b00000#5 0b100001#6
  | .sub rs rt rd => packR 0b000000#6 rs rt rd 0b00000#5 0b100010#6
  | .subu rs rt rd => packR 0b000000#6 rs rt rd 0b00000#5 0b100011#6
  | .and rs rt rd => packR 0b000000#6 rs rt rd 0b00000#5 0b100100#6
  | .or rs rt rd => packR 0b000000#6 rs rt rd 0b00000#5 0b100101#6
  | .xor rs rt rd => packR 0b000000#6 rs rt rd 0b00000#5 0b100110#6
  | .nor rs rt rd => packR 0b000000#6 rs rt rd 0b00000#5 0b100111#6
  | .slt rs rt rd => packR 0b000000#6 rs rt rd 0b00000#5 0b101010#6
  | .sltu rs rt rd => packR 0b000000#6 rs rt rd 0b00000#5 0b101011#6
  | .sll rt rd sa => packR 0b000000#6 0b00000#5 rt rd sa 0b000000#6
  | .srl rt rd sa => packR 0b000000#6 0b00000#5 rt rd sa 0b000010#6
  | .sra rt rd sa => packR 0b000000#6 0b00000#5 rt rd sa 0b000011#6
  | .sllv rs rt rd => packR 0b000000#6 rs rt rd 0b00000#5 0b000100#6
  | .srlv rs rt rd => packR 0b000000#6 rs rt rd 0b00000#5 0b000110#6
  | .srav rs rt rd => packR 0b000000#6 rs rt rd 0b00000#5 0b000111#6
  | .rotr rt rd sa => packR 0b000000#6 0b00001#5 rt rd sa 0b000010#6
  | .rotrv rs rt rd => packR 0b000000#6 rs rt rd 0b00001#5 0b000110#6
  | .movz rs rt rd => packR 0b000000#6 rs rt rd 0b00000#5 0b001010#6
  | .movn rs rt rd => packR 0b000000#6 rs rt rd 0b00000#5 0b001011#6
  | .clz rs rt rd => packR 0b011100#6 rs rt rd 0b00000#5 0b100000#6
  | .clo rs rt rd => packR 0b011100#6 rs rt rd 0b00000#5 0b100001#6
  | .mul rs rt rd => packR 0b011100#6 rs rt rd 0b00000#5 0b000010#6
  | .lwxc1 base index fd => packR 0b010011#6 base index 0b00000#5 fd 0b000000#6
  | .ldxc1 base index fd => packR 0b010011#6 base index 0b00000#5 fd 0b000001#6
  | .luxc1 base index fd => packR 0b010011#6 base index 0b00000#5 fd 0b000101#6
  | .swxc1 base index fs => packR 0b010011#6 base index fs 0b00000#5 0b001000#6
  | .sdxc1 base index fs => packR 0b010011#6 base index fs 0b00000#5 0b001001#6
  | .suxc1 base index fs => packR 0b010011#6 base index fs 0b00000#5 0b001101#6
  | .prefx base index hint => packR 0b010011#6 base index hint 0b00000#5 0b001111#6
  | .add_s ft fs fd => packR 0b010001#6 0b10000#5 ft fs fd 0b000000#6
  | .add_d ft fs fd => packR 0b010001#6 0b10001#5 ft fs fd 0b000000#6
  | .sub_s ft fs fd => packR 0b010001#6 0b10000#5 ft fs fd 0b000001#6
  | .sub_d ft fs fd => packR 0b010001#6 0b10001#5 ft fs fd 0b000001#6
  | .mul_s ft fs fd => packR 0b010001#6 0b10000#5 ft fs fd 0b000010#6
  | .mul_d ft fs fd => packR 0b010001#6 0b10001#5 ft fs fd 0b000010#6
  | .div_s ft fs fd => packR 0b010001#6 0b10000#5 ft fs fd 0b000011#6
  | .div_d ft fs fd => packR 0b010001#6 0b10001#5 ft fs fd 0b000011#6
  | .movz_s rt fs fd => packR 0b010001#6 0b10000#5 rt fs fd 0b010010#6
  | .movz_d rt fs fd => packR 0b010001#6 0b10001#5 rt fs fd 0b010010#6
  | .movn_s rt fs fd => packR 0b010001#6 0b10000#5 rt fs fd 0b010011#6
  | .movn_d rt fs fd => packR 0b010001#6 0b10001#5 rt fs fd 0b010011#6
  | .wait => packR 0b010000#6 0b10000#5 0b00000#5 0b00000#5 0b00000#5 0b100000#6
  | .bc1f cc imm => packI 0b010001#6 0b01000#5 (cc ++ 0b00#2) imm
  | .bc1t cc imm => packI 0b010001#6 0b01000#5 (cc ++ 0b01#2) imm
  | .bc1fl cc imm => packI 0b010001#6 0b01000#5 (cc ++ 0b10#2) imm
  | .bc1tl cc imm => packI 0b010001#6 0b01000#5 (cc ++ 0b11#2) imm
  | .bc2f cc imm => packI 0b010010#6 0b01000#5 (cc ++ 0b00#2) imm
  | .bc2t cc imm => packI 0b010010#6 0b01000#5 (cc ++ 0b01#2) imm
  | .bc2fl cc imm => packI 0b010010#6 0b01000#5 (cc ++ 0b10#2) imm
  | .bc2tl cc imm => packI 0b010010#6 0b01000#5 (cc ++ 0b11#2) imm
  | .ext rs rt msb lsb => packR 0b011111#6 rs rt msb lsb 0b000000#6
  | .ins rs rt msb lsb => packR 0b011111#6 rs rt msb lsb 0b000100#6
  | .syscall code => packCode 0b000000#6 code 0b001100#6
  | .break_ code => packCode 0b000000#6 code 0b001101#6
  | .sdbbp code => packCode 0b011100#6 code 0b111111#6
  | .tge rs rt code => packTrap 0b000000#6 rs rt code 0b110000#6
  | .tgeu rs rt code => packTrap 0b000000#6 rs rt code 0b110001#6
  | .tlt rs rt code => packTrap 0b000000#6 rs rt code 0b110010#6
  | .tltu rs rt code => packTrap 0b000000#6 rs rt code 0b110011#6
  | .teq rs rt code => packTrap 0b000000#6 rs rt code 0b110100#6
  | .tne rs rt code => packTrap 0b000000#6 rs rt code 0b110110#6
  | .madd_s fr ft fs fd => packR 0b010011#6 fr ft fs fd 0b100000#6
  | .madd_d fr ft fs fd => packR 0b010011#6 fr ft fs fd 0b100001#6
  | .msub_s fr ft fs fd => packR 0b010011#6 fr ft fs fd 0b101000#6
  | .msub_d fr ft fs fd => packR 0b010011#6 fr ft fs fd 0b101001#6
  | .nmadd_s fr ft fs fd => packR 0b010011#6 fr ft fs fd 0b110000#6
  | .nmadd_d fr ft fs fd => packR 0b010011#6 fr ft fs fd 0b110001#6
  | .nmsub_s fr ft fs fd => packR 0b010011#6 fr ft fs fd 0b111000#6
  | .nmsub_d fr ft fs fd => packR 0b010011#6 fr ft fs fd 0b111001#6
  | .lui rt imm => packI 0b001111#6 0b00000#5 rt imm
  | .blez rs imm => packI 0b000110#6 rs 0b00000#5 imm
  | .bgtz rs imm => packI 0b000111#6 rs 0b00000#5 imm
  | .bltz rs imm => packI 0b000001#6 rs 0b00000#5 imm
  | .bgez rs imm => packI 0b000001#6 rs 0b00001#5 imm
  | .bltzal rs imm => packI 0b000001#6 rs 0b10000#5 imm
  | .bgezal rs imm => packI 0b000001#6 rs 0b10001#5 imm
  | .blezl rs imm => packI 0b010110#6 rs 0b00000#5 imm
  | .bgtzl rs imm => packI 0b010111#6 rs 0b00000#5 imm
  | .bltzl rs imm => packI 0b000001#6 rs 0b00010#5 imm
  | .bgezl rs imm => packI 0b000001#6 rs 0b00011#5 imm
  | .bltzall rs imm => packI 0b000001#6 rs 0b10010#5 imm
  | .bgezall rs imm => packI 0b000001#6 rs 0b10011#5 imm
  | .synci base imm => packI 0b000001#6 base 0b11111#5 imm
  | .tgei rs imm => packI 0b000001#6 rs 0b01000#5 imm
  | .tgeiu rs imm => packI 0b000001#6 rs 0b01001#5 imm
  | .tlti rs imm => packI 0b000001#6 rs 0b01010#5 imm
  | .tltiu rs imm => packI 0b000001#6 rs 0b01011#5 imm
  | .teqi rs imm => packI 0b000001#6 rs 0b01100#5 imm
  | .tnei rs imm => packI 0b000001#6 rs 0b01110#5 imm
  | .mfc2 rt impl => packI 0b010010#6 0b00000#5 rt impl
  | .mtc2 rt impl => packI 0b010010#6 0b00100#5 rt impl
  | .mfhc2 rt impl => packI 0b010010#6 0b00011#5 rt impl
  | .mthc2 rt impl => packI 0b010010#6 0b00111#5 rt impl
  | .udi impl impl2 => packCode 0b011100#6 impl (0b01#2 ++ impl2)
  | .cop2 impl => packJ 0b010010#6 (1#1 ++ impl)
  | .addi rs rt imm => packI 0b001000#6 rs rt imm
  | .addiu rs rt imm => packI 0b001001#6 rs rt imm
  | .andi rs rt imm => packI 0b001100#6 rs rt imm
  | .ori rs rt imm => packI 0b001101#6 rs rt imm
  | .xori rs rt imm => packI 0b001110#6 rs rt imm
  | .slti rs rt imm => packI 0b001010#6 rs rt imm
  | .sltiu rs rt imm => packI 0b001011#6 rs rt imm
  | .beq rs rt imm => packI 0b000100#6 rs rt imm
  | .bne rs rt imm => packI 0b000101#6 rs rt imm
  | .beql rs rt imm => packI 0b010100#6 rs rt imm
  | .bnel rs rt imm => packI 0b010101#6 rs rt imm
  | .j target => packJ 0b000010#6 target
  | .jal target => packJ 0b000011#6 target
  | .jalx target => packJ 0b011101#6 target
  | .lb base rt imm => packI 0b100000#6 base rt imm
  | .lbu base rt imm => packI 0b100100#6 base rt imm
  | .lh base rt imm => packI 0b100001#6 base rt imm
  | .lhu base rt imm => packI 0b100101#6 base rt imm
  | .lw base rt imm => packI 0b100011#6 base rt imm
  | .lwl base rt imm => packI 0b100010#6 base rt imm
  | .lwr base rt imm => packI 0b100110#6 base rt imm
  | .sb base rt imm => packI 0b101000#6 base rt imm
  | .sh base rt imm => packI 0b101001#6 base rt imm
  | .sw base rt imm => packI 0b101011#6 base rt imm
  | .swl base rt imm => packI 0b101010#6 base rt imm
  | .swr base rt imm => packI 0b101110#6 base rt imm
  | .ll base rt imm => packI 0b110000#6 base rt imm
  | .sc base rt imm => packI 0b111000#6 base rt imm
  | .pref base hint imm => packI 0b110011#6 base hint imm
  | .cache base op imm => packI 0b101111#6 base op imm
  | .lwc1 base ft imm => packI 0b110001#6 base ft imm
  | .ldc1 base ft imm => packI 0b110101#6 base ft imm
  | .swc1 base ft imm => packI 0b111001#6 base ft imm
  | .sdc1 base ft imm => packI 0b111101#6 base ft imm
  | .lwc2 base rt imm => packI 0b110010#6 base rt imm
  | .swc2 base rt imm => packI 0b111010#6 base rt imm
  | .ldc2 base rt imm => packI 0b110110#6 base rt imm
  | .sdc2 base rt imm => packI 0b111110#6 base rt imm

/-- The word with the ignored hint bits cleared: the code of `wait` (R577, U32; log 43) and bits 9:6 of `jr`, `jr.hb`,
`jalr`, `jalr.hb` (R310, D20, taken over R475 and R292: DESIGN CHOICE, log 49). Every other word is itself. -/
def canonicalWord (w : Word) : Word :=
  if w &&& 0xFE00003F#32 = 0x42000020#32 then 0x42000020#32
  else if fieldOp w = 0b000000#6 ∧ (fieldFn w = 0b001000#6 ∨ fieldFn w = 0b001001#6) then w &&& 0xFFFFFC3F#32
  else w

/-- Decode a word: the instruction it is the word of, or why there is none (R290, R310). -/
def decode (w : Word) : Except DecodeError Instr :=
  match decodeFields w with
  | .ok i => if encode i = canonicalWord w then .ok i else .error .reservedField
  | .error e => .error e

/-- The instruction the decoder reads from a table row's bits: every instruction is one 32-bit word (R290). -/
def decodeTableWord (nbits w : Nat) : Option Instr :=
  if nbits ≤ 32 then
    match decode (BitVec.ofNat 32 w) with
    | .ok i => some i
    | .error _ => none
  else none

end Sys2Proof
end

