-- ==== Sys2Proof/Machine/Bits.lean ====
section
/-! DEFINITION. Bit-field helpers on words (spec/00_scope.md R11, R14). -/

namespace Sys2Proof.Machine

/-- `old` with the bits of `mask` taken from `new`. -/
def merge (old new mask : Word) : Word := (old &&& ~~~mask) ||| (new &&& mask)

/-- The word with every bit 1: a mask of the whole register. -/
abbrev allOnes : Word := 0xFFFFFFFF

/-- The word with bit `i` equal to `b` and every other bit 0. -/
def bitAt (i : Nat) (b : Bool) : Word := if b then 1#32 <<< i else 0#32

/-- `w` with bit `i` set to `b` (R11). -/
def putBit (w : Word) (i : Nat) (b : Bool) : Word := merge w (bitAt i b) (1#32 <<< i)

/-- The field `w[hi:lo]` at its place, as a number. -/
def fieldNat (w : Word) (hi lo : Nat) : Nat := (w >>> lo).toNat % 2 ^ (hi - lo + 1)

/-- `sext_32` of a 16-bit immediate (R14). -/
def sext16 (i : BitVec 16) : Word := i.signExtend 32

/-- `zext_32` of a 16-bit immediate (R14). -/
def zext16 (i : BitVec 16) : Word := i.setWidth 32

/-- Truth as the word 0 or 1 (R355). -/
def boolWord (b : Bool) : Word := if b then 1#32 else 0#32

end Sys2Proof.Machine
end

