-- ==== Sys2Proof/Config.lean ====
section
/-! DEFINITION. What an implementation fixes (the parameter record `Cfg` of spec/00_scope.md R8) and the free
values of the model: constants without a body, so that nothing can be proved of what they are. -/

namespace Sys2Proof

/-- The memory management unit fitted (R8, D3). -/
inductive MmuKind where
  | tlb
  | fmt
deriving DecidableEq, Repr

/-- What stands at a physical range of the chip (R276, D18). A range not listed holds nothing. -/
inductive RegionKind where
  | ram
  | rom
  | device
deriving DecidableEq, Repr

/-- One range of the chip's physical memory map (R276). -/
structure Region where
  base : Nat
  size : Nat
  kind : RegionKind
deriving DecidableEq, Repr

/-- The implementation parameters of R8. A step never writes them. -/
structure Cfg where
  /-- `Config[BE]`, `DCR[ENM]` (D2). -/
  bigEndian : Bool
  /-- `Config[MT]` (D3). -/
  mmu : MmuKind
  /-- Entries of the TLB, 1 to 64. -/
  tlbEntries : Nat
  /-- I-cache shape, `Config1[IS, IL, IA]` (R121). -/
  icSets : BitVec 3
  icLine : BitVec 3
  icWays : BitVec 3
  /-- D-cache shape, `Config1[DS, DL, DA]` (R121). -/
  dcSets : BitVec 3
  dcLine : BitVec 3
  dcWays : BitVec 3
  /-- `Config7[AR]` (R124, R264). -/
  dAliasFree : Bool
  /-- Parity bits fitted in the caches (R265). -/
  cacheParity : Bool
  /-- `Config1[FP]`. -/
  hasFPU : Bool
  /-- `Config7[FPR]`: timing only. -/
  fpuHalfRate : Bool
  /-- `Config[UDI]`. -/
  hasCorExtend : Bool
  /-- Whether the CorExtend block needs `Status[CEE]` (R761). -/
  corExtendNeedsCEE : Bool
  /-- `Config1[C2]`. -/
  hasCP2 : Bool
  /-- Scratchpads: fitted, base `[31:12]`, size in 4 KB units (R144, R270). -/
  hasISPRAM : Bool
  isprBase : BitVec 20
  isprPages : BitVec 20
  hasDSPRAM : Bool
  dsprBase : BitVec 20
  dsprPages : BitVec 20
  /-- Whether scratchpad tags accept an Index Store Tag (R271). -/
  spramWritableTags : Bool
  /-- `Config[SB]`, `Config[BM]`: bus properties. -/
  simpleBE : Bool
  burstMode : Bool
  /-- Register sets, 1 to 16; `SRSCtl[HSS]` is one less (R30). -/
  numShadowSets : Nat
  /-- `Config3[VEIC]` (R123). -/
  eicPresent : Bool
  /-- `IntCtl[IPTI]`, `IntCtl[IPPCI]` (R102). -/
  ipti : BitVec 3
  ippci : BitVec 3
  /-- `rdhwr` register 3 (R593). -/
  ccRes : Word
  /-- `SYNCI_Step` of a core without caches; with a cache `rdhwr` register 1 is the smaller line size (R593, D19). -/
  synciStep : Word
  /-- `EBase[CPUNum]` (R119). -/
  cpuNum : BitVec 10
  /-- `PRId` company options, company id, revision (R118). -/
  pridOptions : BitVec 8
  pridCompany : BitVec 8
  pridRevision : BitVec 8
  /-- `FIR[Revision]` (R52). -/
  firRevision : BitVec 8
  /-- `Config3[TL]` and what the trace unit can do (R131 to R135). -/
  hasTrace : Bool
  traceValidModes : BitVec 2
  traceTBI : Bool
  traceTBU : Bool
  traceSyP : BitVec 3
  traceATE : Bool
  /-- Four EJTAG instruction breakpoints or none; two data breakpoints or none (R881). -/
  hasIBreak : Bool
  hasDBreak : Bool
  /-- `ImpCode[DINTsup]`, `DCR[PCS]` (R881). -/
  dintSup : Bool
  pcSampling : Bool
  /-- 0, 1 or 2 performance counters (R137). -/
  numPerfCounters : Nat
  /-- The reservation granule is `2 ^ llGranuleLog2` bytes, at least 4 (R250, D17). -/
  llGranuleLog2 : Nat
  /-- Bound on the delay of an imprecise data break, in instructions (R904). -/
  impreciseBreakWindow : Nat
  /-- The chip's memory map (R276). -/
  physMap : List Region
deriving DecidableEq, Repr

/-- The uses a free value is drawn for: two uses in one step have different tags (log 9). -/
inductive FreeTag where
  /-- `HI`, `LO` after `mul` (R435). -/
  | mulHi
  | mulLo
  /-- `HI`, `LO` after a division by zero (R435, D8). -/
  | divHi
  | divLo
  /-- `Random` (R84, D30). -/
  | random
  /-- `Cause[CE]` after an exception other than Coprocessor Unusable (R800). -/
  | causeCE
  /-- `Cause[RIPL]` after an exception other than an EIC interrupt (R814). -/
  | causeRIPL
  /-- `Debug[DExcCode]` on first entry to debug mode (R882). -/
  | dExcCode
  /-- `Index[Index]` after a probe that missed (R588). -/
  | tlbpIndex
  /-- Upper half of FP register `r` after a 32-bit write (R47). -/
  | fprHigh (r : Nat)
  /-- Whether an unpredictable `sc` succeeds (R514, U5). -/
  | scOutcome
  /-- `CacheErr` (R141). -/
  | cacheErr
  /-- The undescribed bits of a cache tag read back and the parity that hardware computed for it (R142; log 30). -/
  | tagBits
  /-- The data parity that hardware computed, the precode (R140; log 30). -/
  | dataParity
  /-- The bits of the way-select RAM that hardware computed, and the data registers beside them (R143; log 30). -/
  | waySelect
  | waySelectLow
  | waySelectHigh
  /-- Which of two test modes that are both set an index operation follows (R140; log 30). -/
  | testMode
  /-- Byte `k` of a read the bus answered with an error, as a value breakpoint compares it (R246, R902). -/
  | busErrorByte (k : Nat)
  /-- The destination register of a load whose read the bus answered with an error: its low or high word (R246). -/
  | failedLoad (high : Bool)
  /-- Word `k` the probe supplies when no reply is queued (R891, D24). -/
  | probeWord (k : Nat)
  /-- Which quiet NaN an FP operation returns (R625, D10), for a product inside a multiply-add or for a result. -/
  | nanChoice (product : Bool)
  /-- Which neighbour `recip` and `rsqrt` return (R658, R659, D44). -/
  | approx
  /-- The result of flush-to-nearest at the exact midpoint (R627), of a product inside a multiply-add or of a result. -/
  | flushMidpoint (product : Bool)
deriving DecidableEq, Repr

/-- The consumers of R974's table: what a later instruction uses a hazardous register for. -/
inductive Consumer where
  /-- `mfc0` of the register itself. -/
  | readReg
  /-- Coprocessor usability and the FP register model. -/
  | copUse
  /-- `eret`, `deret`. -/
  | eret
  /-- The taking of an interrupt. -/
  | interrupt
  /-- Loads, stores, `pref`, `cache`: privilege, mapping, watchpoints, data breakpoints. -/
  | data
  /-- Instruction fetch. -/
  | fetch
  /-- The vector and register set of the next exception. -/
  | vector
  /-- `rdpgpr`, `wrpgpr`. -/
  | shadow
  /-- The four TLB instructions. -/
  | tlbOp
  /-- `cache` and the registers it reads. -/
  | cacheOp
  /-- `rdhwr`. -/
  | rdhwr
  /-- `Count` stopping, `Cause[TI]`. -/
  | count
  /-- Performance counting. -/
  | perf
  /-- Trace output. -/
  | trace
deriving DecidableEq, Repr

namespace Config

/-- A free 32-bit value: draw number and use (log 9). -/
opaque free32 : Nat → FreeTag → Word

/-- A free byte. -/
opaque freeByte : Nat → FreeTag → Byte

/-- A free natural number, for a choice in a range. -/
opaque freeNat : Nat → FreeTag → Nat

/-- A free truth value. -/
opaque freeBool : Nat → FreeTag → Bool

/-- Whether consumer `c`, at draw number `n`, still sees the old value of pending hazard `k` (R970, D28). -/
opaque hazardOld : (n : Nat) → (c : Consumer) → (k : Nat) → Bool

/-! The coprocessor 2 interface of R740, over a state that a natural number encodes (log 17). -/

/-- General register selected by the 16 implementation bits (R741, R745). -/
opaque cp2Read : Nat → BitVec 16 → DWord

/-- `mtc2`: the coprocessor extends the word as it defines (R742). -/
opaque cp2Write : Nat → BitVec 16 → Word → Nat

/-- `mthc2` (R746). -/
opaque cp2WriteHi : Nat → BitVec 16 → Word → Nat

/-- `cfc2` (R743). -/
opaque cp2ReadCtl : Nat → Reg → Word

/-- `ctc2` (R744). -/
opaque cp2WriteCtl : Nat → Reg → Word → Nat

/-- The condition bit tested by `bc2` (R747). -/
opaque cp2Cond : Nat → BitVec 3 → Bool

/-- A coprocessor operation: the new state, or none where it raises C2E (R740, R752). -/
opaque cp2Op : Nat → BitVec 25 → Option Nat

/-- `lwc2`, `ldc2`, `swc2`, `sdc2` (R748 to R751). -/
opaque cp2LoadWord : Nat → Reg → Word → Nat
opaque cp2LoadDouble : Nat → Reg → DWord → Nat
opaque cp2StoreWord : Nat → Reg → Word
opaque cp2StoreDouble : Nat → Reg → DWord

/-- What a CorExtend instruction gives: an exception of the block (IS1), or a new state and perhaps a result
(R760, R796, D47). Arguments: the word, `x[rs]`, `x[rt]`, the block's state. -/
opaque udi : Word → Word → Word → Nat → Option (Nat × Option Word)

end Config

end Sys2Proof
end

