-- ==== Sys2Proof/Machine/State.lean ====
section
/-! DEFINITION. The state of the machine as plain data: every piece of state of spec/10_state.md,
spec/11_cp0_registers.md, spec/20_memory.md, spec/61_debug.md and spec/70_reset_and_hazards.md, the reasons a step
can stop, and the state after reset (R962). INVENTORY.md lists each field with its rule. -/

namespace Sys2Proof.Machine

/-- Why the machine stops with a fault. -/
inductive Fault where
  /-- An access to a physical range that belongs to a platform device, whose behaviour the spec does not give (R276,
  D18). Raised by the memory operations. Safe: nothing is claimed of the device. -/
  | deviceAccess (pa : Word)
deriving DecidableEq, Repr

/-- Why the machine refuses to step: every case is one the spec itself refuses (spec/93, "refuse"). All are safe: a
refused step has no next state. -/
inductive Refusal where
  /-- An arm of the dispatch that has no meaning yet. -/
  | notModelled (mnemonic : String)
  /-- A branch, jump, `eret` or `deret` in a branch delay slot (U1, U27, R454). Raised by control transfers. -/
  | branchInDelaySlot
  /-- Operands the architecture leaves unpredictable: `jalr rd = rs`, `ext`, `ins`, `clz`, `clo` (U3, U4, U39). -/
  | unpredictableOperands
  /-- `Index` or `Wired` not below the number of TLB entries, used by a TLB instruction (U8). -/
  | tlbIndexRange
  /-- An illegal `PageMask` used by a TLB write (U9). -/
  | illegalPageMask
  /-- Two TLB entries match one lookup or probe (U10). Raised by translation and `tlbp`. -/
  | multipleTlbMatch
  /-- A register set above `SRSCtl[HSS]` is used (U13, U17). Raised by exception entry, `eret`, `rdpgpr`, `wrpgpr`. -/
  | shadowSetRange
  /-- `Status[CEE]` written 1 without CorExtend (U14). -/
  | ceeWithoutCorExtend
  /-- The mode is needed and `Status[KSU]` is 3 (U15). -/
  | reservedMode
  /-- A vectored interrupt with an `IntCtl[VS]` that does not work (U16). -/
  | vectorSpacing
  /-- `Cause[WP]` written 1 when it was 0 (U18). -/
  | watchPendingSet
  /-- `TraceControl2[Mode]` asks for what the trace unit lacks (U19). -/
  | traceMode
  /-- An I-cache index store with the precode override set, whose effect the spec leaves out (U20, R6). -/
  | cacheTestMode
  /-- An odd FP register named in a 64-bit format with `Status[FR] = 0` (U21). -/
  | oddFpRegister
  /-- `cfc1` or `ctc1` of a register number that does not exist (U22). -/
  | fpControlNumber
  /-- A store narrower than a word to an uncached accelerated address (U24; in DSPRAM log 45). -/
  | narrowAccelerated
  /-- A data access to ISPRAM or a fetch from DSPRAM (U30). -/
  | spramCrossSide
  /-- A drseg access the spec gives no register for (U33). -/
  | drsegAccess
  /-- An access through a reserved cacheability code (U34, D33; log 51). -/
  | reservedCacheability
  /-- `ll` or `sc` to an uncached address (U35). -/
  | llscUncached
  /-- A miss in a cache set whose ways are all locked (U36). -/
  | setAllLocked
  /-- `Debug`, `DEPC` or `DESAVE` written outside debug mode (U41). -/
  | debugRegisterWrite
  /-- Sequential execution past `0xFFFFFFFC` (D14). -/
  | pcWrap
  /-- An instruction that needs 64-bit FP registers with `Status[FR] = 0` (D26). -/
  | fr0LongFormat
  /-- A control transfer that would set the ISA mode bit (D34, R470). -/
  | mips16
deriving DecidableEq, Repr

/-- The coprocessor 0 registers of R81, by name. `watchLo i`, `watchHi i` with `i` below 4. -/
inductive CpReg where
  | index | random | entryLo0 | entryLo1 | context | pageMask | wired | hwrena | badVAddr | count | entryHi
  | compare | status | intCtl | srsCtl | srsMap | cause | epc | prid | ebase | config | config1 | config2
  | config3 | config7 | watchLo (i : Fin 4) | watchHi (i : Fin 4) | debug | traceControl | traceControl2
  | userTraceData | traceIBPC | traceDBPC | depc | perfCtl0 | perfCnt0 | perfCtl1 | perfCnt1 | errCtl | cacheErr
  | tagLo0 | dataLo0 | tagLo1 | dataLo1 | tagLo2 | dataLo2 | dataHi0 | errorEPC | desave
deriving DecidableEq, Repr

/-- The stored words of the CP0 registers (R83 to R149). Read-only parts that the configuration fixes are added when
the register is read; `Cause[IP7-2]` and `Cause[PCI]` are computed from their sources. -/
structure Cp0 where
  index : Word
  random : Word
  entryLo0 : Word
  entryLo1 : Word
  context : Word
  pageMask : Word
  wired : Word
  hwrena : Word
  badVAddr : Word
  count : Word
  entryHi : Word
  compare : Word
  status : Word
  intCtl : Word
  srsCtl : Word
  srsMap : Word
  cause : Word
  epc : Word
  ebase : Word
  config : Word
  config7 : Word
  watchLo : Vector Word 4
  watchHi : Vector Word 4
  debug : Word
  traceControl : Word
  traceControl2 : Word
  userTraceData : Word
  traceIBPC : Word
  traceDBPC : Word
  depc : Word
  perfCtl0 : Word
  perfCtl1 : Word
  perfCnt0 : Word
  perfCnt1 : Word
  errCtl : Word
  cacheErr : Word
  tagLo0 : Word
  tagLo1 : Word
  tagLo2 : Word
  dataLo0 : Word
  dataLo1 : Word
  dataLo2 : Word
  dataHi0 : Word
  errorEPC : Word
  desave : Word
deriving DecidableEq, Repr

/-- One page of a TLB pair (R211). -/
structure TlbPage where
  pfn : BitVec 20
  c : BitVec 3
  d : Bool
  v : Bool
deriving DecidableEq, Repr

/-- One TLB entry (R211). -/
structure TlbEntry where
  vpn2 : BitVec 19
  asid : Byte
  g : Bool
  mask : BitVec 16
  page0 : TlbPage
  page1 : TlbPage
deriving DecidableEq, Repr

/-- The tag of one cache line (R63, R142): `d` only has a meaning in the D-cache. -/
structure CacheTag where
  ptag : BitVec 20
  v : Bool
  d : Bool
  l : Bool
deriving DecidableEq, Repr

/-- The state of one primary cache (R260), each part a list in canonical form: strictly rising keys, no entry equal to
what an unlisted key reads as. `tags` is keyed by slot (`way * sets + set`), `data` by `slot * line bytes + offset`.
The parity arrays and the LRU bits hold what a program forced into them in a test mode (R140, R143); where they hold
`none` the bits are those that hardware computed, whose values the spec does not give (log 30). -/
structure Cache where
  tags : List (Nat × CacheTag)
  data : List Host.Cell
  /-- The parity bit of a tag, by slot (R142). -/
  tagP : List (Nat × Option Bool)
  /-- The parity bit of a dirty bit, by slot: `WSDP` (R143). -/
  dirtyP : List (Nat × Option Bool)
  /-- The parity of a word (doubleword in the I-cache) of a line, by its first byte's key over four (R140). -/
  dataP : List (Nat × Option (BitVec 9))
  /-- The LRU bits of a set: `WSLRU` (R63, R143). -/
  lru : List (Nat × Option (BitVec 6))
deriving DecidableEq, Repr

/-- The uncached accelerated gather buffer (R244): the line's physical address and the bytes gathered, by physical
address, in rising order. -/
structure Gather where
  line : Nat
  cells : List Host.Cell
deriving DecidableEq, Repr

/-- The scratchpads (R270): bytes by offset in canonical form, and the two tag words of R144. -/
structure Spram where
  cells : List Host.Cell
  tag0 : Word
  tag1 : Word
deriving DecidableEq, Repr

/-- Instruction breakpoint registers (R898). -/
structure IBreak where
  addr : Word
  mask : Word
  asid : Word
  ctl : Word
deriving DecidableEq, Repr

/-- Data breakpoint registers (R899, R900). -/
structure DBreak where
  addr : Word
  mask : Word
  asid : Word
  ctl : Word
  val : Word
  valHi : Word
deriving DecidableEq, Repr

/-- The register a load writes, for the last boundary of an imprecise data break (R904). -/
inductive LoadDest where
  | none
  | gpr (set : BitVec 4) (r : Reg)
  | fpr (r : Reg)
  | cp2
deriving DecidableEq, Repr

/-- A pending imprecise data break (R904): on a load or a store, and how many boundaries it may still wait. -/
structure PendBreak where
  store : Bool
  dest : LoadDest
  left : Nat
deriving DecidableEq, Repr

/-- A PC sample (R910). -/
structure PcSample where
  isNew : Bool
  asid : Byte
  pc : Word
deriving DecidableEq, Repr

/-- The probe's trace control (R916): `PDI_TraceOn` and the fields it takes from `TCBCONTROLA`, which has no address
space mask. -/
structure ProbeTrace where
  on : Bool
  d : Bool
  e : Bool
  k : Bool
  s : Bool
  u : Bool
  g : Bool
  asid : Byte
deriving DecidableEq, Repr

/-- The debug unit (R895 to R910, R916) outside CP0. -/
structure Dbg where
  dcr : Word
  ibs : BitVec 4
  dbs : BitVec 2
  ib : Vector IBreak 4
  db : Vector DBreak 2
  ejtagControl : Word
  ejtagAddress : Word
  ejtagData : Word
  /-- The EJTAG boot indication (R909). -/
  bootArmed : Bool
  pcSample : PcSample
  stepCount : Nat
  /-- The imprecise data breaks not delivered yet (R904). -/
  pendBreaks : List PendBreak
  tracing : Bool
  armed : Bool
  /-- A trigger has fired since reset: until then the breakpoints' `TE` bits say whether trace is on (R916). -/
  triggered : Bool
  /-- The draw number of the step whose instruction alone is traced: trigger codes 2 and 6 (R916). -/
  traceOnce : Option Nat
  probeTrace : ProbeTrace
  /-- The words the probe will supply next (R891, D24). -/
  probeReplies : List Word
  /-- Whether the probe answers dmseg accesses at once; otherwise each waits until it clears `PrAcc` (R891). -/
  probeAnswers : Bool
  /-- The transfers of the instruction in progress that the probe has completed, by number: 0 for the fetch, 1 and 2 for
  the parts of a data access; and the number of the one that waits (R891, R905; log 25). -/
  served : List (Nat × Word)
  asked : Nat
deriving DecidableEq, Repr

/-- The inputs of the core (R66) and the environment's standing choices. -/
structure Inputs where
  hwInt : BitVec 6
  eicRIPL : BitVec 6
  eicSS : BitVec 4
  dint : Bool
  reducedPower : Bool
  /-- The next external read of the instruction (data) side is answered with an error (R246). -/
  failFetch : Bool
  failData : Bool
  /-- The environment does not retire pending hazards (R970, log 8). -/
  hazardsHeld : Bool
deriving DecidableEq, Repr

/-- Who changed a CP0 register, as the producer column of R974's table tells them apart: `mtc0` itself, the `Cause[TI]`
an `mtc0 Compare` clears, an instruction whose result is read back by `mfc0` (`tlbr`, `tlbp`, Index Load Tag), and `ei`
or `di`. -/
inductive Producer where
  | mtc0
  | timerClear
  | readBack
  | irqEnable
deriving DecidableEq, Repr

/-- The part of an I-cache line that an operation of `cache` or `synci` writes: its tag, its lock bit alone, the
doubleword at an offset, or the whole line. -/
inductive LinePart where
  | tag
  | lock
  | dword (off : Nat)
  | line
deriving DecidableEq, Repr

/-- What a producer of R970 changed, with the old value. -/
inductive HazardOld where
  /-- A CP0 register, of which the bits `wrote` were written. -/
  | reg (p : Producer) (r : CpReg) (wrote old : Word)
  | tlb (i : Fin 64) (old : TlbEntry)
  /-- An I-cache line, its tag and its bytes, of which the part `wrote` was written. -/
  | iline (wrote : LinePart) (slot : Nat) (old : CacheTag) (bytes : List Byte)
  | drseg (addr : Word) (old : Word)
deriving DecidableEq, Repr

/-- A pending hazard (R970): `exec` while execution consumers may see the old value, `fetch` while fetch may. -/
structure Hazard where
  old : HazardOld
  exec : Bool
  fetch : Bool
deriving DecidableEq, Repr

/-- Whether the instruction at `pc` stands in a branch delay slot (R36), and what the branch did: `fallThrough` for a
branch not taken, `jump hb` where control goes to `npc` afterwards (`hb`: jr.hb or jalr.hb, R477). -/
inductive Slot where
  | none
  | fallThrough
  | jump (hb : Bool)
deriving DecidableEq, Repr

/-- What the environment does between two core steps (R10; log 6). -/
inductive EnvEvent where
  /-- The core takes one step. -/
  | core
  /-- One tick of `Count` (R830). -/
  | countTick
  /-- The six interrupt lines (R810). -/
  | setHwInt (v : BitVec 6)
  /-- The external interrupt controller's level and shadow set (R814). -/
  | setEic (ripl : BitVec 6) (ss : BitVec 4)
  /-- A non-maskable interrupt is asserted (R963). -/
  | nmi
  /-- The DINT pin (R905). -/
  | dint (level : Bool)
  /-- Reset (R960). -/
  | reset
  /-- The environment clears `LLbit` (R251, D17). -/
  | clearLL
  /-- Another bus master writes a byte of physical memory (R251, R260). -/
  | dmaWrite (pa : Word) (v : Byte)
  /-- Another bus master writes a scratchpad byte through the system interface (R270). -/
  | spramWrite (dside : Bool) (offset : Nat) (v : Byte)
  /-- The next external read is to be answered with an error, or no longer (R246). -/
  | failFetch (b : Bool)
  | failData (b : Bool)
  /-- A cache parity error (R265, D22), of a fetch or of a data access (R820 items 13 and 22; log 19). -/
  | parityError (dside : Bool)
  /-- A spurious wake from `wait` (R577). -/
  | wake
  /-- The environment evicts an unlocked line (R260): the slot. -/
  | evict (dside : Bool) (slot : Nat)
  /-- The environment refills a line (R260): set and way come from the virtual address and the way. -/
  | refill (dside : Bool) (va : Word) (pa : Word) (way : Nat)
  /-- Pending hazards are held, or retired at the next boundary (R970). -/
  | holdHazards (b : Bool)
  /-- The oldest pending hazard retires (R970). -/
  | retireOldest
  /-- The probe writes `EJTAG_CONTROL`, `EJTAG_ADDRESS`, `EJTAG_DATA` (R905, R907). -/
  | probeControl (w : Word)
  | probeAddress (w : Word)
  | probeData (w : Word)
  /-- The JTAG instructions EJTAGBOOT (true) and NORMALBOOT (false) (R909). -/
  | ejtagBoot (b : Bool)
  /-- The probe has one more word ready for a dmseg read (R891). -/
  | probeReply (w : Word)
  /-- Whether the probe answers dmseg accesses at once. -/
  | probeAnswers (b : Bool)
  /-- A micro-architectural event occurs `n` times for counter 0 or 1 (R925, D46). -/
  | perfEvents (counter1 : Bool) (n : Nat)
  /-- A PC sample is taken (R910), or the probe clears its new bit. -/
  | pcSample
  | pcSampleRead
  /-- The environment's reduced power state (R882). -/
  | reducedPower (b : Bool)
  /-- The probe's trace control (R916). -/
  | probeTrace (t : ProbeTrace)
deriving DecidableEq, Repr

/-- The whole state of the machine. -/
structure State where
  /-- The implementation's parameters (R8): no step writes them. -/
  cfg : Cfg
  pc : Word
  npc : Word
  slot : Slot
  /-- 16 sets of 32 registers: register `r` of set `n` at `32 n + r` (R30). -/
  gpr : Vector Word 512
  hi : Word
  lo : Word
  fpr : Vector DWord 32
  fcsr : Word
  cp0 : Cp0
  tlb : Vector TlbEntry 64
  llBit : Bool
  /-- The physical block of the last `ll` (R60, R513). -/
  llBlock : Word
  /-- Something since the last `ll` makes the next `sc` unpredictable (R251, U5). -/
  llTouched : Bool
  sleeping : Bool
  /-- Physical memory by byte address (R230), in canonical form (log 2). -/
  mem : List Host.Cell
  icache : Cache
  dcache : Cache
  gather : Option Gather
  ispram : Spram
  dspram : Spram
  dbg : Dbg
  inputs : Inputs
  /-- The pending imprecise data bus errors: boundaries each may still wait (R246, D21). -/
  pendDBE : List Nat
  /-- A deferred bus error waits for the return of the Cache Error handler (R886; log 50). -/
  dbeHeld : Bool
  /-- A cache error of a fetch, to be taken at the next boundary (R265, R886; item 13 of R820). -/
  pendCacheErr : Bool
  /-- A cache error of a data access, to be taken at the next boundary (R265, R886; item 22 of R820). -/
  pendCacheErrData : Bool
  /-- The pending hazards, newest first (R970). -/
  hazards : List Hazard
  /-- Coprocessor 2 and CorExtend state, opaque (R58, R59; log 17). -/
  cp2State : Nat
  udiState : Nat
  /-- Model's own: exceptions entered so far (R884, R925). -/
  excCount : Nat
  /-- Model's own: the draw number of the free values (log 9). -/
  freeCtr : Nat
  /-- Model's own: environment events still to come (log 6) and environment choices (log 7). -/
  env : List EnvEvent
  choices : List Nat
deriving DecidableEq, Repr

/-- The configuration after reset (DESIGN CHOICE, log 3): a 24K with TLB, FPU, coprocessor 2 and CorExtend, 32 Kbyte
four-way caches of 32-byte lines (the shape of R9's example), little-endian, every option fitted; ROM where R275 puts
the boot code and RAM elsewhere. -/
def Cfg.example : Cfg where
  bigEndian := false
  mmu := .tlb
  tlbEntries := 16
  icSets := 2
  icLine := 4
  icWays := 3
  dcSets := 2
  dcLine := 4
  dcWays := 3
  dAliasFree := true
  cacheParity := true
  hasFPU := true
  fpuHalfRate := false
  hasCorExtend := true
  corExtendNeedsCEE := true
  hasCP2 := true
  hasISPRAM := true
  isprBase := 0x1C000
  isprPages := 16
  hasDSPRAM := true
  dsprBase := 0x1D000
  dsprPages := 16
  spramWritableTags := false
  simpleBE := false
  burstMode := false
  numShadowSets := 4
  eicPresent := false
  ipti := 7
  ippci := 6
  ccRes := 2
  synciStep := 32
  cpuNum := 0
  pridOptions := 0
  pridCompany := 1
  pridRevision := 0
  firRevision := 0
  hasTrace := true
  traceValidModes := 2
  traceTBI := true
  traceTBU := true
  traceSyP := 0
  traceATE := true
  hasIBreak := true
  hasDBreak := true
  dintSup := true
  pcSampling := true
  numPerfCounters := 2
  llGranuleLog2 := 5
  impreciseBreakWindow := 4
  physMap := [⟨0x1FC00000, 0x400000, .rom⟩, ⟨0, 0x1FC00000, .ram⟩, ⟨0x20000000, 0xE0000000, .ram⟩]

/-- A TLB page of zeros (log 5). -/
def TlbPage.zero : TlbPage := ⟨0, 0, false, false⟩

/-- TLB entry `i` at reset (log 5): invalid, with the unused page R966 has software write, so that no two entries match. -/
def TlbEntry.unused (i : Nat) : TlbEntry := ⟨BitVec.ofNat 19 (0x40000 + i), 0, false, 0, .zero, .zero⟩

/-- The TLB at reset (log 5). -/
def tlbAtReset : Vector TlbEntry 64 := ⟨((List.range 64).map TlbEntry.unused).toArray, by simp⟩

/-- The tag a slot that lists none holds: invalid, zero (log 5). -/
def CacheTag.zero : CacheTag := ⟨0, false, false, false⟩

/-- A cache whose lines are all invalid and zero (log 5). -/
def Cache.empty : Cache := ⟨[], [], [], [], [], []⟩

/-- CP0 after reset (R962); what R962 leaves unspecified is 0 (log 1). -/
def Cp0.reset (cfg : Cfg) : Cp0 where
  index := 0
  random := BitVec.ofNat 32 (cfg.tlbEntries - 1)
  entryLo0 := 0
  entryLo1 := 0
  context := 0
  pageMask := 0
  wired := 0
  hwrena := 0
  badVAddr := 0
  count := 0
  entryHi := 0
  compare := 0
  status := 0x00400004
  intCtl := 0
  srsCtl := 0
  srsMap := 0
  cause := 0
  epc := 0
  ebase := 0x80000000
  config := 2
  config7 := 0
  watchLo := #v[0, 0, 0, 0]
  watchHi := #v[0x80000000, 0x80000000, 0x80000000, 0]
  debug := 0x02010000
  traceControl := 0
  traceControl2 := 0
  userTraceData := 0
  traceIBPC := 0
  traceDBPC := 0
  depc := 0
  perfCtl0 := 0
  perfCtl1 := 0
  perfCnt0 := 0
  perfCnt1 := 0
  errCtl := 0
  cacheErr := 0
  tagLo0 := 0
  tagLo1 := 0
  tagLo2 := 0
  dataLo0 := 0
  dataLo1 := 0
  dataLo2 := 0
  dataHi0 := 0
  errorEPC := 0
  desave := 0

/-- The probe's trace control with nothing asserted (log 37). -/
def ProbeTrace.off : ProbeTrace := ⟨false, false, false, false, false, false, false, 0⟩

/-- The debug unit after reset (R895 to R910, R962): `EJTAG_CONTROL` has `Rocc`, and `ProbEn`, `ProbTrap`, `EjtagBrk`
as the boot indication says (R909); its fields `Psz`, `PRnW`, which R907 leaves unspecified, are 0 (DESIGN CHOICE,
log 1). -/
def Dbg.reset (bootArmed : Bool) : Dbg where
  dcr := 0x000001D8
  ibs := 0
  dbs := 0
  ib := Vector.replicate 4 ⟨0, 0, 0, 0⟩
  db := Vector.replicate 2 ⟨0, 0, 0, 0, 0, 0⟩
  ejtagControl := if bootArmed then 0x8000D000 else 0x80000000
  ejtagAddress := 0
  ejtagData := 0
  bootArmed := bootArmed
  pcSample := ⟨false, 0, 0⟩
  stepCount := 0
  pendBreaks := []
  tracing := false
  armed := false
  triggered := false
  traceOnce := none
  probeTrace := .off
  probeReplies := []
  probeAnswers := true
  served := []
  asked := 0

/-- The inputs when nothing is asserted (log 37). -/
def Inputs.quiet : Inputs := ⟨0, 0, 0, false, false, false, false, false⟩

/-- The machine right after reset, for given parameters (R961, R962). -/
def State.resetWith (cfg : Cfg) : State where
  cfg := cfg
  pc := 0xBFC00000
  npc := 0xBFC00004
  slot := .none
  gpr := Vector.replicate 512 0
  hi := 0
  lo := 0
  fpr := Vector.replicate 32 0
  fcsr := 0
  cp0 := Cp0.reset cfg
  tlb := tlbAtReset
  llBit := false
  llBlock := 0
  llTouched := false
  sleeping := false
  mem := []
  icache := .empty
  dcache := .empty
  gather := none
  ispram := ⟨[], cfg.isprBase ++ 0x080#12, cfg.isprPages ++ 0#12⟩
  dspram := ⟨[], cfg.dsprBase ++ 0x080#12, cfg.dsprPages ++ 0#12⟩
  dbg := Dbg.reset false
  inputs := .quiet
  pendDBE := []
  dbeHeld := false
  pendCacheErr := false
  pendCacheErrData := false
  hazards := []
  cp2State := 0
  udiState := 0
  excCount := 0
  freeCtr := 0
  env := []
  choices := []

/-- The machine right after reset (R961, R962; logs 1, 2, 3, 5). -/
def State.reset : State := State.resetWith Cfg.example

end Sys2Proof.Machine
end

