-- ==== Sys2Proof/Machine/Flags.lean ====
section
/-! DEFINITION. The flag and mode bits of `Status`, `Cause`, `Debug`, `SRSCtl`, `FCSR` by name
(spec/11_cp0_registers.md R94 to R109, R130; spec/10_state.md R51), and the modes they select (R781). -/

namespace Sys2Proof.Machine

/-! ## Status (R94) -/

def State.ie (s : State) : Bool := s.cp0.status.getLsbD 0
def State.exl (s : State) : Bool := s.cp0.status.getLsbD 1
def State.erl (s : State) : Bool := s.cp0.status.getLsbD 2
def State.ksu (s : State) : BitVec 2 := s.cp0.status.extractLsb' 3 2
def State.im (s : State) : Byte := s.cp0.status.extractLsb' 8 8
/-- `Status[IPL]` of EIC mode (R99). -/
def State.ipl (s : State) : BitVec 6 := s.cp0.status.extractLsb' 10 6
def State.cee (s : State) : Bool := s.cp0.status.getLsbD 17
def State.bev (s : State) : Bool := s.cp0.status.getLsbD 22
def State.re (s : State) : Bool := s.cp0.status.getLsbD 25
def State.fr (s : State) : Bool := s.cp0.status.getLsbD 26
def State.cu0 (s : State) : Bool := s.cp0.status.getLsbD 28
def State.cu1 (s : State) : Bool := s.cp0.status.getLsbD 29
def State.cu2 (s : State) : Bool := s.cp0.status.getLsbD 30

/-! ## Cause (R105), Debug (R130), SRSCtl (R103), other registers -/

def State.iv (s : State) : Bool := s.cp0.cause.getLsbD 23
def State.wp (s : State) : Bool := s.cp0.cause.getLsbD 22
def State.dc (s : State) : Bool := s.cp0.cause.getLsbD 27
def State.ti (s : State) : Bool := s.cp0.cause.getLsbD 30
def State.dm (s : State) : Bool := (s.cp0.debug).getLsbD 30
def State.lsnm (s : State) : Bool := (s.cp0.debug).getLsbD 28
def State.countDM (s : State) : Bool := (s.cp0.debug).getLsbD 25
def State.cacheEP (s : State) : Bool := (s.cp0.debug).getLsbD 22
def State.dbusEP (s : State) : Bool := (s.cp0.debug).getLsbD 21
def State.iexi (s : State) : Bool := (s.cp0.debug).getLsbD 20
def State.sst (s : State) : Bool := (s.cp0.debug).getLsbD 8
/-- The current register set `SRSCtl[CSS]` (R30). -/
def State.css (s : State) : BitVec 4 := s.cp0.srsCtl.extractLsb' 0 4
/-- The previous register set `SRSCtl[PSS]`. -/
def State.pss (s : State) : BitVec 4 := s.cp0.srsCtl.extractLsb' 6 4
/-- The exception register set `SRSCtl[ESS]`. -/
def State.ess (s : State) : BitVec 4 := s.cp0.srsCtl.extractLsb' 12 4
def State.asid (s : State) : Byte := s.cp0.entryHi.extractLsb' 0 8
/-- The probe's bits `ProbEn`, `ProbTrap`, `EjtagBrk` (R907). -/
def State.probEn (s : State) : Bool := s.dbg.ejtagControl.getLsbD 15
def State.probTrap (s : State) : Bool := s.dbg.ejtagControl.getLsbD 14
def State.ejtagBrk (s : State) : Bool := s.dbg.ejtagControl.getLsbD 12
/-- `DCR[INTE]`, `DCR[NMIE]`, `DCR[NMIP]` (R895). -/
def State.dcrInte (s : State) : Bool := s.dbg.dcr.getLsbD 4
def State.dcrNmie (s : State) : Bool := s.dbg.dcr.getLsbD 3
def State.dcrNmip (s : State) : Bool := s.dbg.dcr.getLsbD 2

/-- The ASID that breakpoints, watchpoints, trace and PC sampling use (D45). -/
def State.currentAsid (s : State) : Byte := if s.cfg.mmu = .tlb then s.asid else 0

/-! ## Modes (R781) -/

/-- The four operating modes (R780). -/
inductive Mode where
  | debug
  | kernel
  | supervisor
  | user
deriving DecidableEq, Repr

/-- The effective mode; none for the reserved `KSU = 3` (R781, U15). -/
def State.mode? (s : State) : Option Mode :=
  if s.dm then some .debug
  else if s.erl || s.exl || s.ksu = 0 then some .kernel
  else if s.ksu = 1 then some .supervisor
  else if s.ksu = 2 then some .user
  else none

/-- Whether the mode is user mode: what `Status[RE]` asks (R233). -/
def State.isUser (s : State) : Bool := s.mode? = some .user

/-- The byte order of data accesses (R230, R233). -/
def State.bigData (s : State) : Bool := s.cfg.bigEndian != (s.re && s.isUser)

/-! ## Floating point condition codes and control fields (R51, R56) -/

/-- Where condition code `n` stands in `FCSR`: bit 23 for 0, bits 25 to 31 for 1 to 7 (R51). -/
def fccPos (n : BitVec 3) : Nat := if n = 0 then 23 else 24 + n.toNat

/-- Condition code `n` (R56). -/
def State.fcc (s : State) (n : BitVec 3) : Bool := s.fcsr.getLsbD (fccPos n)

/-- Set condition code `n` (R660). -/
def State.setFcc (s : State) (n : BitVec 3) (b : Bool) : State := { s with fcsr := putBit s.fcsr (fccPos n) b }

/-- The rounding mode field `FCSR[RM]`. -/
def State.rm (s : State) : BitVec 2 := s.fcsr.extractLsb' 0 2
def State.fs (s : State) : Bool := s.fcsr.getLsbD 24
def State.fo (s : State) : Bool := s.fcsr.getLsbD 22
def State.fn (s : State) : Bool := s.fcsr.getLsbD 21

/-- `FCCR` as a view of `FCSR` (R53). -/
def fccrView (f : Word) : Word := (f.extractLsb' 25 7 ++ f.extractLsb' 23 1).setWidth 32

/-- `FEXR` as a view of `FCSR` (R54). -/
def fexrView (f : Word) : Word := f &&& 0x0003F07C#32

/-- `FENR` as a view of `FCSR` (R55). -/
def fenrView (f : Word) : Word := (f &&& 0x00000F83#32) ||| bitAt 2 (f.getLsbD 24)

/-- The conditions of an FP operation, as the five bits V Z O U I (R51). -/
structure FpFlags where
  v : Bool
  z : Bool
  o : Bool
  u : Bool
  i : Bool
deriving DecidableEq, Repr

/-- No condition. -/
def FpFlags.none : FpFlags := ⟨false, false, false, false, false⟩

/-- Both operations' conditions (R629). -/
def FpFlags.or (a b : FpFlags) : FpFlags := ⟨a.v || b.v, a.z || b.z, a.o || b.o, a.u || b.u, a.i || b.i⟩

/-- The five bits with V the most significant (R51). -/
def FpFlags.bits (f : FpFlags) : BitVec 5 :=
  BitVec.ofBool f.v ++ BitVec.ofBool f.z ++ BitVec.ofBool f.o ++ BitVec.ofBool f.u ++ BitVec.ofBool f.i

end Sys2Proof.Machine
end

