-- ==== Sys2Proof/Machine/Mem.lean ====
section
/-! DEFINITION. Sparse storage in canonical form, physical memory by bytes, byte order (spec/20_memory.md R230 to
R232, R276). -/

namespace Sys2Proof.Machine

/-! ## Sparse storage: keys strictly rising, no entry equal to the default -/

/-- What key `k` holds: `d` where the list has no entry. -/
def sparseGet {α : Type} (d : α) : List (Nat × α) → Nat → α
  | [], _ => d
  | (k', v) :: t, k => if k' = k then v else sparseGet d t k

/-- The list without key `k`. -/
def sparseErase {α : Type} : List (Nat × α) → Nat → List (Nat × α)
  | [], _ => []
  | (k', v) :: t, k => if k' = k then sparseErase t k else (k', v) :: sparseErase t k

/-- The list with `v` at key `k`, in rising order. -/
def sparsePut {α : Type} : List (Nat × α) → Nat → α → List (Nat × α)
  | [], k, v => [(k, v)]
  | (k', v') :: t, k, v =>
    if k' < k then (k', v') :: sparsePut t k v
    else if k' = k then (k, v) :: t
    else (k, v) :: (k', v') :: t

/-- Write `v` at `k`; writing the default removes the entry, so equal contents are equal lists. -/
def sparseSet {α : Type} [DecidableEq α] (d : α) (l : List (Nat × α)) (k : Nat) (v : α) : List (Nat × α) :=
  if v = d then sparseErase l k else sparsePut l k v

/-- The canonical form: every key above `lo`, strictly rising, no value equal to the default. -/
def sparseWf {α : Type} [DecidableEq α] (d : α) : Option Nat → List (Nat × α) → Bool
  | _, [] => true
  | lo, (k, v) :: t => (match lo with | none => true | some b => decide (b < k)) && decide (v ≠ d) && sparseWf d (some k) t

/-! ## Bytes -/

/-- What a byte of memory that nothing has written reads as (DESIGN CHOICE, log 2). -/
def unlistedByte : Byte := 0

/-- The byte at address `a`. -/
def Memory.read (m : List Host.Cell) (a : Nat) : Byte := sparseGet unlistedByte m a

/-- Write one byte. -/
def Memory.write (m : List Host.Cell) (a : Nat) (v : Byte) : List Host.Cell := sparseSet unlistedByte m a v

/-- The canonical form of a memory. -/
def Memory.wf (m : List Host.Cell) : Bool := sparseWf unlistedByte none m

/-- The `n` bytes from address `a`, lowest address first. -/
def Memory.readBytes (m : List Host.Cell) (a : Nat) : Nat → List Byte
  | 0 => []
  | n + 1 => Memory.read m a :: Memory.readBytes m (a + 1) n

/-- Write bytes from address `a`, lowest address first. -/
def Memory.writeBytes (m : List Host.Cell) (a : Nat) : List Byte → List Host.Cell
  | [] => m
  | b :: t => Memory.writeBytes (Memory.write m a b) (a + 1) t

/-! ## Byte order (R230) -/

/-- The number whose bytes are `bs`, least significant first. -/
def leNat : List Byte → Nat
  | [] => 0
  | b :: t => b.toNat + 256 * leNat t

/-- The number in bytes read from the lowest address up, in the given byte order. -/
def bytesToNat (big : Bool) (bs : List Byte) : Nat := leNat (if big then bs.reverse else bs)

/-- `n` bytes of a number, least significant first. -/
def leBytes (v : Nat) : Nat → List Byte
  | 0 => []
  | n + 1 => BitVec.ofNat 8 v :: leBytes (v / 256) n

/-- The `n` bytes of a number from the lowest address up, in the given byte order. -/
def natToBytes (big : Bool) (n v : Nat) : List Byte := if big then (leBytes v n).reverse else leBytes v n

/-! ## The chip's physical map (R276, D18) -/

/-- What stands at physical address `a`: the first range that holds it, or nothing. -/
def regionAt : List Region → Nat → Option RegionKind
  | [], _ => none
  | r :: t, a => if r.base ≤ a ∧ a < r.base + r.size then some r.kind else regionAt t a

/-- Whether one of the `n` bytes from `a` belongs to a device. -/
def touchesDevice (m : List Region) (a : Nat) : Nat → Bool
  | 0 => false
  | n + 1 => regionAt m a = some .device || touchesDevice m (a + 1) n

/-- Whether one of the `n` bytes from `a` is at an address where nothing stands. -/
def touchesNothing (m : List Region) (a : Nat) : Nat → Bool
  | 0 => false
  | n + 1 => regionAt m a = none || touchesNothing m (a + 1) n

/-- Write bytes from physical address `a`: only RAM takes them, a write to ROM or to nothing is dropped (R276). -/
def physWrite (map : List Region) (m : List Host.Cell) (a : Nat) : List Byte → List Host.Cell
  | [] => m
  | b :: t =>
    physWrite map (if regionAt map a = some .ram then Memory.write m a b else m) (a + 1) t

/-- Perform gathered writes: each byte at its physical address (R244). -/
def physWriteCells (map : List Region) (m : List Host.Cell) : List Host.Cell → List Host.Cell
  | [] => m
  | (a, b) :: t => physWriteCells map (physWrite map m a [b]) t

/-- Flush the uncached accelerated gather buffer to memory (R244). -/
def State.flushGather (s : State) : State :=
  match s.gather with
  | none => s
  | some g => { s with mem := physWriteCells s.cfg.physMap s.mem g.cells, gather := none }

end Sys2Proof.Machine
end

