-- ==== Sys2Proof/Machine/Hazard.lean ====
section
/-! DEFINITION. The stored words of the CP0 registers by name, and the hazard window of spec/70_reset_and_hazards.md
R970 to R974: producers record old values, consumers read the state through `State.view`. -/

namespace Sys2Proof.Machine

/-- The stored word of a CP0 register; a register that stores nothing gives 0. -/
def Cp0.get (c : Cp0) : CpReg → Word
  | .index => c.index
  | .random => c.random
  | .entryLo0 => c.entryLo0
  | .entryLo1 => c.entryLo1
  | .context => c.context
  | .pageMask => c.pageMask
  | .wired => c.wired
  | .hwrena => c.hwrena
  | .badVAddr => c.badVAddr
  | .count => c.count
  | .entryHi => c.entryHi
  | .compare => c.compare
  | .status => c.status
  | .intCtl => c.intCtl
  | .srsCtl => c.srsCtl
  | .srsMap => c.srsMap
  | .cause => c.cause
  | .epc => c.epc
  | .ebase => c.ebase
  | .config => c.config
  | .config7 => c.config7
  | .debug => c.debug
  | .traceControl => c.traceControl
  | .traceControl2 => c.traceControl2
  | .userTraceData => c.userTraceData
  | .traceIBPC => c.traceIBPC
  | .traceDBPC => c.traceDBPC
  | .depc => c.depc
  | .perfCtl0 => c.perfCtl0
  | .perfCnt0 => c.perfCnt0
  | .perfCtl1 => c.perfCtl1
  | .perfCnt1 => c.perfCnt1
  | .errCtl => c.errCtl
  | .cacheErr => c.cacheErr
  | .tagLo0 => c.tagLo0
  | .dataLo0 => c.dataLo0
  | .tagLo1 => c.tagLo1
  | .dataLo1 => c.dataLo1
  | .tagLo2 => c.tagLo2
  | .dataLo2 => c.dataLo2
  | .dataHi0 => c.dataHi0
  | .errorEPC => c.errorEPC
  | .desave => c.desave
  | .watchLo i => c.watchLo.get i
  | .watchHi i => c.watchHi.get i
  | .prid => 0
  | .config1 => 0
  | .config2 => 0
  | .config3 => 0

/-- Replace the stored word of a CP0 register. -/
def Cp0.put (c : Cp0) (r : CpReg) (w : Word) : Cp0 :=
  match r with
  | .index => { c with index := w }
  | .random => { c with random := w }
  | .entryLo0 => { c with entryLo0 := w }
  | .entryLo1 => { c with entryLo1 := w }
  | .context => { c with context := w }
  | .pageMask => { c with pageMask := w }
  | .wired => { c with wired := w }
  | .hwrena => { c with hwrena := w }
  | .badVAddr => { c with badVAddr := w }
  | .count => { c with count := w }
  | .entryHi => { c with entryHi := w }
  | .compare => { c with compare := w }
  | .status => { c with status := w }
  | .intCtl => { c with intCtl := w }
  | .srsCtl => { c with srsCtl := w }
  | .srsMap => { c with srsMap := w }
  | .cause => { c with cause := w }
  | .epc => { c with epc := w }
  | .ebase => { c with ebase := w }
  | .config => { c with config := w }
  | .config7 => { c with config7 := w }
  | .debug => { c with debug := w }
  | .traceControl => { c with traceControl := w }
  | .traceControl2 => { c with traceControl2 := w }
  | .userTraceData => { c with userTraceData := w }
  | .traceIBPC => { c with traceIBPC := w }
  | .traceDBPC => { c with traceDBPC := w }
  | .depc => { c with depc := w }
  | .perfCtl0 => { c with perfCtl0 := w }
  | .perfCnt0 => { c with perfCnt0 := w }
  | .perfCtl1 => { c with perfCtl1 := w }
  | .perfCnt1 => { c with perfCnt1 := w }
  | .errCtl => { c with errCtl := w }
  | .cacheErr => { c with cacheErr := w }
  | .tagLo0 => { c with tagLo0 := w }
  | .dataLo0 => { c with dataLo0 := w }
  | .tagLo1 => { c with tagLo1 := w }
  | .dataLo1 => { c with dataLo1 := w }
  | .tagLo2 => { c with tagLo2 := w }
  | .dataLo2 => { c with dataLo2 := w }
  | .dataHi0 => { c with dataHi0 := w }
  | .errorEPC => { c with errorEPC := w }
  | .desave => { c with desave := w }
  | .watchLo i => { c with watchLo := c.watchLo.set i w }
  | .watchHi i => { c with watchHi := c.watchHi.set i w }
  | .prid => c
  | .config1 => c
  | .config2 => c
  | .config3 => c

/-- The drseg breakpoint registers by offset from `0xFF300000` (R892); none where no register stands. -/
def Dbg.drsegGet (d : Dbg) (off : Nat) : Option Word :=
  let ib (n : Fin 4) (k : Nat) : Option Word :=
    match k with
    | 0x00 => some (d.ib.get n).addr
    | 0x08 => some (d.ib.get n).mask
    | 0x10 => some (d.ib.get n).asid
    | 0x18 => some (d.ib.get n).ctl
    | _ => none
  let db (n : Fin 2) (k : Nat) : Option Word :=
    match k with
    | 0x00 => some (d.db.get n).addr
    | 0x08 => some (d.db.get n).mask
    | 0x10 => some (d.db.get n).asid
    | 0x18 => some (d.db.get n).ctl
    | 0x20 => some (d.db.get n).val
    | 0x24 => some (d.db.get n).valHi
    | _ => none
  match off / 0x100 with
  | 0x11 => ib 0 (off % 0x100)
  | 0x12 => ib 1 (off % 0x100)
  | 0x13 => ib 2 (off % 0x100)
  | 0x14 => ib 3 (off % 0x100)
  | 0x21 => db 0 (off % 0x100)
  | 0x22 => db 1 (off % 0x100)
  | _ => none

/-- Replace the stored word of a drseg breakpoint register (R892). -/
def Dbg.drsegPut (d : Dbg) (off : Nat) (w : Word) : Dbg :=
  let ib (n : Fin 4) (k : Nat) : Dbg :=
    let b := d.ib.get n
    match k with
    | 0x00 => { d with ib := d.ib.set n { b with addr := w } }
    | 0x08 => { d with ib := d.ib.set n { b with mask := w } }
    | 0x10 => { d with ib := d.ib.set n { b with asid := w } }
    | 0x18 => { d with ib := d.ib.set n { b with ctl := w } }
    | _ => d
  let db (n : Fin 2) (k : Nat) : Dbg :=
    let b := d.db.get n
    match k with
    | 0x00 => { d with db := d.db.set n { b with addr := w } }
    | 0x08 => { d with db := d.db.set n { b with mask := w } }
    | 0x10 => { d with db := d.db.set n { b with asid := w } }
    | 0x18 => { d with db := d.db.set n { b with ctl := w } }
    | 0x20 => { d with db := d.db.set n { b with val := w } }
    | 0x24 => { d with db := d.db.set n { b with valHi := w } }
    | _ => d
  match off / 0x100 with
  | 0x11 => ib 0 (off % 0x100)
  | 0x12 => ib 1 (off % 0x100)
  | 0x13 => ib 2 (off % 0x100)
  | 0x14 => ib 3 (off % 0x100)
  | 0x21 => db 0 (off % 0x100)
  | 0x22 => db 1 (off % 0x100)
  | _ => d

/-! ## The producer and consumer table (R974) -/

/-- The bits of a register that a consumer reads old after an `mtc0` (R974, and for counting under `Status` R927); 0
where the rules do not pair them. -/
def consumerMask : Consumer → CpReg → Word
  | .readReg, _ => 0xFFFFFFFF
  | .copUse, .status => 0xF4020000
  | .eret, .status => 0x00000006
  | .eret, .epc => 0xFFFFFFFF
  | .eret, .errorEPC => 0xFFFFFFFF
  | .eret, .depc => 0xFFFFFFFF
  | .interrupt, .status => 0x0000FF07
  | .interrupt, .cause => 0x40000300
  | .data, .status => 0x0200001E
  | .data, .entryHi => 0x000000FF
  | .data, .config => 0x7E000007
  | .data, .watchLo _ => 0xFFFFFFFF
  | .data, .watchHi _ => 0xFFFFFFF8
  | .data, .debug => 0x10000000
  | .fetch, .status => 0x0000001E
  | .fetch, .entryHi => 0x000000FF
  | .fetch, .config => 0x7E000007
  | .fetch, .watchLo _ => 0xFFFFFFFF
  | .fetch, .watchHi _ => 0xFFFFFFF8
  | .fetch, .debug => 0x00000100
  | .vector, .ebase => 0xFFFFFFFF
  | .vector, .intCtl => 0x000003E0
  | .vector, .cause => 0x00800000
  | .vector, .srsCtl => 0x0000F000
  | .vector, .srsMap => 0xFFFFFFFF
  | .shadow, .srsCtl => 0x000003C0
  | .tlbOp, .entryHi => 0xFFFFFFFF
  | .tlbOp, .entryLo0 => 0xFFFFFFFF
  | .tlbOp, .entryLo1 => 0xFFFFFFFF
  | .tlbOp, .pageMask => 0xFFFFFFFF
  | .tlbOp, .index => 0xFFFFFFFF
  | .tlbOp, .wired => 0xFFFFFFFF
  | .cacheOp, .tagLo0 => 0xFFFFFFFF
  | .cacheOp, .tagLo1 => 0xFFFFFFFF
  | .cacheOp, .dataLo0 => 0xFFFFFFFF
  | .cacheOp, .dataLo1 => 0xFFFFFFFF
  | .cacheOp, .dataHi0 => 0xFFFFFFFF
  | .cacheOp, .errCtl => 0xFFFFFFFF
  | .rdhwr, .hwrena => 0xFFFFFFFF
  | .count, .cause => 0x08000000
  | .count, .count => 0xFFFFFFFF
  | .count, .compare => 0xFFFFFFFF
  | .perf, .perfCtl0 => 0xFFFFFFFF
  | .perf, .perfCtl1 => 0xFFFFFFFF
  | .perf, .status => 0x0000001E
  | .trace, .traceControl => 0xFFFFFFFF
  | .trace, .traceControl2 => 0xFFFFFFFF
  | .trace, .userTraceData => 0xFFFFFFFF
  | .trace, .traceIBPC => 0xFFFFFFFF
  | .trace, .traceDBPC => 0xFFFFFFFF
  | _, _ => 0

/-- What consumer `c` may see old of register `r` after producer `p` (R974): the consumers of `mtc0` are `consumerMask`'s;
`tlbr`, `tlbp` and Index Load Tag reach only the `mfc0` that reads their result (`ErrCtl` is not in that row), `ei` and
`di` only an interrupt. A consumer not in the table is not affected. -/
def producerMask : Producer → Consumer → CpReg → Word
  | .mtc0, c, r => consumerMask c r
  | .timerClear, c, r => consumerMask c r &&& 0x40000000
  | .readBack, .readReg, .errCtl => 0
  | .readBack, .readReg, _ => 0xFFFFFFFF
  | .irqEnable, .interrupt, .status => 0x00000001
  | _, _, _ => 0

/-- The bits the table lets consumer `c` see old (R974), of those that were written: an execution consumer while `exec`,
fetch while `fetch`; of a TLB entry, an I-cache line or a breakpoint register all or nothing. -/
def Hazard.mask (h : Hazard) (c : Consumer) : Word :=
  if (if c = .fetch then h.fetch else h.exec) then
    match h.old with
    | .reg p r wrote _ => producerMask p c r &&& wrote
    | .tlb _ _ => if c = .data || c = .fetch then 0xFFFFFFFF else 0
    | .iline _ _ _ _ => if c = .fetch then 0xFFFFFFFF else 0
    | .drseg _ _ => if c = .data || c = .fetch then 0xFFFFFFFF else 0
  else 0

/-- The state with the old value of a hazard in the bits `m` of its target. -/
def Hazard.restore (h : Hazard) (m : Word) (s : State) : State :=
  match h.old with
  | .reg _ r _ old => { s with cp0 := s.cp0.put r (merge (s.cp0.get r) old m) }
  | .tlb i old => { s with tlb := s.tlb.set i old }
  | .iline _ slot old bytes =>
    { s with icache := { s.icache with
        tags := sparseSet .zero s.icache.tags slot old
        data := Memory.writeBytes s.icache.data (slot * bytes.length) bytes } }
  | .drseg a old => { s with dbg := s.dbg.drsegPut (a.toNat % 0x100000) old }

/-- `dst` with the part of an I-cache line that a producer wrote as it stands in `src`; `n` is the length of a line. -/
def LinePart.keep (p : LinePart) (slot n : Nat) (src dst : Cache) : Cache :=
  let data := fun a k => Memory.writeBytes dst.data a (Memory.readBytes src.data a k)
  match p with
  | .tag => { dst with tags := sparseSet .zero dst.tags slot (sparseGet .zero src.tags slot) }
  | .lock =>
    let old := sparseGet .zero dst.tags slot
    { dst with tags := sparseSet .zero dst.tags slot { old with l := (sparseGet .zero src.tags slot).l } }
  | .dword off => { dst with data := data (slot * n + off) 8 }
  | .line =>
    { dst with
      tags := sparseSet .zero dst.tags slot (sparseGet .zero src.tags slot)
      data := data (slot * n) n }

/-- `dst` with what a producer wrote as it stands in `src`: exactly the bits it wrote, and no others (R970). -/
def HazardOld.keep (d : HazardOld) (src dst : State) : State :=
  match d with
  | .reg _ r wrote _ => { dst with cp0 := dst.cp0.put r (merge (dst.cp0.get r) (src.cp0.get r) wrote) }
  | .tlb i _ => { dst with tlb := dst.tlb.set i (src.tlb.get i) }
  | .iline part slot _ bytes => { dst with icache := part.keep slot bytes.length src.icache dst.icache }
  | .drseg a _ =>
    match src.dbg.drsegGet (a.toNat % 0x100000) with
    | some w => { dst with dbg := dst.dbg.drsegPut (a.toNat % 0x100000) w }
    | none => dst

/-- `dst` with what each producer in `done` wrote as it stands in `src`. -/
def keepAll (done : List HazardOld) (src dst : State) : State := done.foldl (fun t d => d.keep src t) dst

/-- Go through the hazards, newest first: the opaque choice at draw number `n` says, for each hazard that consumer `c` may
see, whether it sees the old value, independently of the others; what a newer producer wrote and left new, or does not
show this consumer, stays new (R970, D28). -/
def viewHazards (c : Consumer) (n : Nat) : Nat → List HazardOld → List Hazard → State → State
  | _, _, [], s => s
  | k, done, h :: t, s =>
    let m := h.mask c
    if m ≠ 0 ∧ Config.hazardOld n c k = true then viewHazards c n (k + 1) done t (keepAll done s (h.restore m s))
    else viewHazards c n (k + 1) (h.old :: done) t s

/-- The state as consumer `c` sees it: the state itself when no hazard is pending (R970). -/
def State.view (c : Consumer) (s : State) : State := viewHazards c s.freeCtr 0 [] s.hazards s

/-- A producer records what it changed (R970). -/
def State.pushHazard (s : State) (old : HazardOld) : State :=
  { s with hazards := ⟨old, true, true⟩ :: s.hazards }

/-- The execution hazard barrier (R973): hazards of fetch stay pending. -/
def clearExecHazards (l : List Hazard) : List Hazard := l.map (fun h => { h with exec := false })

/-- Producer `p` writes the bits `wrote` of CP0 register `r`, which then holds `w`; the old value is recorded for the
consumers of R974. -/
def State.setCp (s : State) (p : Producer) (r : CpReg) (wrote w : Word) : State :=
  { s with cp0 := s.cp0.put r w, hazards := ⟨.reg p r wrote (s.cp0.get r), true, true⟩ :: s.hazards }

end Sys2Proof.Machine
end

