-- ==== Sys2Proof/Machine/Operands.lean ====
section
/-! DEFINITION. Operand forms: general registers of the current and of a named set (spec/10_state.md R30 to R34),
immediates and addresses (R500, R451), floating point registers under `Status[FR]` (R46, R47). -/

namespace Sys2Proof.Machine

/-! ## General registers -/

/-- Where register `r` of set `set` stands in the register file (R30). -/
def gprIndex (set : BitVec 4) (r : Reg) : BitVec 9 := set ++ r

/-- `xs[set][r]` (R30); register 0 of every set reads 0 (R31). -/
def State.readSet (s : State) (set : BitVec 4) (r : Reg) : Word :=
  if r = 0 then 0 else s.gpr[(gprIndex set r).toNat]'(gprIndex set r).isLt

/-- `xs[set][r] <- v` (R30); a write to register 0 is discarded (R31). -/
def State.writeSet (s : State) (set : BitVec 4) (r : Reg) (v : Word) : State :=
  if r = 0 then s else { s with gpr := s.gpr.set (gprIndex set r).toNat v (gprIndex set r).isLt }

/-- The set instructions use: `SRSCtl[CSS]`; with one set always set 0 (R30). -/
def State.curSet (s : State) : BitVec 4 := if s.cfg.numShadowSets ≤ 1 then 0 else s.css

/-- The set `rdpgpr` and `wrpgpr` reach (R30, R582): `SRSCtl[PSS]`, subject to the hazard of R974. -/
def State.prevSet (s : State) : BitVec 4 := if s.cfg.numShadowSets ≤ 1 then 0 else (s.view .shadow).pss

/-- `x[r]`: a register of the current set. -/
def State.readGpr (s : State) (r : Reg) : Word := s.readSet s.curSet r

/-- `x[r] <- v`. -/
def State.writeGpr (s : State) (r : Reg) (v : Word) : State := s.writeSet s.curSet r v

/-! ## Addresses -/

/-- `x[base] + sext_32(offset)` modulo 2^32 (R500). -/
def State.effAddr (s : State) (base : Reg) (off : BitVec 16) : Word := s.readGpr base + sext16 off

/-- `x[base] + x[index]` (R675). -/
def State.indexedAddr (s : State) (base index : Reg) : Word := s.readGpr base + s.readGpr index

/-- The target of a conditional branch: `pc + 4 + 4 * sext(offset)` (R451). -/
def branchTarget (pc : Word) (off : BitVec 16) : Word := pc + 4 + (sext16 off <<< 2)

/-- The target of `j`, `jal`: the 256 Mbyte region of the delay slot (R451). -/
def jumpTarget (pc : Word) (target : BitVec 26) : Word := ((pc + 4) &&& 0xF0000000#32) ||| (target ++ 0#2).setWidth 32

/-! ## Floating point registers (R45 to R47) -/

/-- The FP register model in force, `Status[FR]` as the FP instruction sees it (R46, R974). -/
def State.frUse (s : State) : Bool := (s.view .copUse).fr

/-- A single-format operand: the low 32 bits of the register in both models (R46). -/
def State.readFprW (s : State) (r : Reg) : Word := (s.fpr.get r.toFin).setWidth 32

/-- The other register of a pair under `FR = 0` (R46). -/
def pairHigh (r : Reg) : Reg := r ||| 1#5

/-- A 64-bit operand: the whole register with `FR = 1`, the pair with `FR = 0` (R46). -/
def State.readFprD (s : State) (r : Reg) : DWord :=
  if s.frUse then s.fpr.get r.toFin else s.readFprW (pairHigh r) ++ s.readFprW r

/-- Replace the low half of an FP register (R621). -/
def State.setFprLow (s : State) (r : Reg) (v : Word) : State :=
  { s with fpr := s.fpr.set r.toNat ((s.fpr.get r.toFin).extractLsb' 32 32 ++ v) r.isLt }

/-- `Write32` (R621): with `FR = 1` the upper half becomes free (R47; log 9). -/
def State.writeFprW (s : State) (r : Reg) (v : Word) : State :=
  if s.frUse then { s with fpr := s.fpr.set r.toNat (Config.free32 s.freeCtr (.fprHigh r.toNat) ++ v) r.isLt }
  else s.setFprLow r v

/-- `Write64` (R621): the register with `FR = 1`, the two low halves of the pair with `FR = 0`. -/
def State.writeFprD (s : State) (r : Reg) (v : DWord) : State :=
  if s.frUse then { s with fpr := s.fpr.set r.toNat v r.isLt }
  else (s.setFprLow r (v.setWidth 32)).setFprLow (pairHigh r) (v.extractLsb' 32 32)

/-- Whether `r` may be named in a 64-bit format: any register with `FR = 1`, an even one with `FR = 0` (R46, U21). -/
def State.dRegOk (s : State) (r : Reg) : Bool := s.frUse || !r.getLsbD 0

end Sys2Proof.Machine
end

