-- ==== Sys2Proof/Machine/Ops.lean ====
section
/-! DEFINITION. The shared operations of the machine: what a computation inside an instruction can answer (`Res`), the
advance of the pc (spec/42_branch_jump.md R452), coprocessor usability (R592, R783), taking an exception
(spec/60_exceptions.md R800 to R808), debug exceptions (spec/61_debug.md R882, R885), NMI and reset
(spec/70_reset_and_hazards.md R961, R963), and the returns (R575, R576). -/

namespace Sys2Proof.Machine

/-- The outcome of one step. -/
abbrev Out := Host.Outcome State Fault Refusal

/-! ## Exceptions (R785) -/

/-- Every exception an instruction or a boundary can raise, with its own information. -/
inductive Exc where
  | int
  | tlbMod (va : Word)
  | tlbRefill (store : Bool) (va : Word)
  | tlbInvalid (store : Bool) (va : Word)
  | addrError (store : Bool) (va : Word)
  | ibe
  | dbe
  | sys
  | bp
  | ri
  | cpu (n : BitVec 2)
  | ov
  | tr
  | fpe
  | is1
  | ceu
  | c2e
  | watch
  | mcheck
  | cacheError
  /-- `sdbbp` (R562). -/
  | sdbbp
  /-- A debug exception with its cause bits of `Debug` (R883). -/
  | debug (causes : Word)
deriving DecidableEq, Repr

/-- `Cause[ExcCode]` and, in debug mode, `Debug[DExcCode]` (R785; 30 for a cache error, 9 for `sdbbp`: R885, R886). -/
def Exc.code : Exc → BitVec 5
  | .int => 0
  | .tlbMod _ => 1
  | .tlbRefill store _ => if store then 3 else 2
  | .tlbInvalid store _ => if store then 3 else 2
  | .addrError store _ => if store then 5 else 4
  | .ibe => 6
  | .dbe => 7
  | .sys => 8
  | .bp => 9
  | .ri => 10
  | .cpu _ => 11
  | .ov => 12
  | .tr => 13
  | .fpe => 15
  | .is1 => 16
  | .ceu => 17
  | .c2e => 18
  | .watch => 23
  | .mcheck => 24
  | .cacheError => 30
  | .sdbbp => 9
  | .debug _ => 0

/-- The address `BadVAddr` receives (R787, R788, R90). -/
def Exc.badVAddr : Exc → Option Word
  | .tlbMod va => some va
  | .tlbRefill _ va => some va
  | .tlbInvalid _ va => some va
  | .addrError _ va => some va
  | _ => none

/-- Whether `Context` and `EntryHi` receive the address too (R213). -/
def Exc.isTlb : Exc → Bool
  | .tlbMod _ => true
  | .tlbRefill _ _ => true
  | .tlbInvalid _ _ => true
  | _ => false

/-! ## What a computation inside an instruction answers -/

/-- A value with the state after it, an exception raised in a state, a refusal or a fault. -/
inductive Res (α : Type) where
  | ok (a : α) (s : State)
  | exc (e : Exc) (s : State)
  /-- The core waits at this instruction: it stands at the same pc after the step (R891). -/
  | wait (s : State)
  | ref (r : Refusal)
  | flt (f : Fault)

/-- Continue where a value came. -/
def Res.andThen {α β : Type} (r : Res α) (k : α → State → Res β) : Res β :=
  match r with
  | .ok a s => k a s
  | .exc e s => .exc e s
  | .wait s => .wait s
  | .ref q => .ref q
  | .flt f => .flt f

/-! ## Environment choices (log 7) -/

/-- The next environment choice; 0 when none is left. -/
def State.choice (s : State) : Nat := s.choices.headD 0

/-- The state after a choice was read. -/
def State.dropChoice (s : State) : State := { s with choices := s.choices.tail }

/-! ## The pc (R36, R452) -/

/-- The hazards left after the instruction at `pc`: none when a delay slot of `jr.hb`, `jalr.hb` completes (R972). -/
def State.hazardsAfter (s : State) : List Hazard :=
  match s.slot with
  | .jump true => []
  | _ => s.hazards

/-- The instruction completes: `pc <- npc`, `npc <- npc + 4` (R36, R452). Sequential execution past `0xFFFFFFFC` is
refused (D14); leaving a delay slot there by a jump is not sequential. -/
def State.advance (s : State) : Out :=
  match s.slot with
  | .jump _ =>
    .next { s with pc := s.npc, npc := s.npc + 4, slot := .none, hazards := s.hazardsAfter }
  | _ =>
    if s.pc = 0xFFFFFFFC#32 then .refused .pcWrap
    else .next { s with pc := s.npc, npc := s.npc + 4, slot := .none }

/-- A branch or jump completes: the delay slot runs next; `npc` is the target if control is transferred (R452). -/
def State.enterSlot (s : State) (taken : Option (Word × Bool)) : Out :=
  if s.pc = 0xFFFFFFFC#32 then .refused .pcWrap
  else
    match taken with
    | some (t, hb) => .next { s with pc := s.npc, npc := t, slot := .jump hb }
    | none => .next { s with pc := s.npc, npc := s.npc + 4, slot := .fallThrough }

/-- A branch likely not taken: its delay slot is skipped (R453). -/
def State.skipSlot (s : State) : Out :=
  if s.pc = 0xFFFFFFFC#32 ∨ s.pc = 0xFFFFFFF8#32 then .refused .pcWrap
  else .next { s with pc := s.npc + 4, npc := s.npc + 8 }

/-! ## Coprocessor usability (R592, R783) -/

/-- `CP0usable` (R592). -/
def State.cp0Usable (s : State) : Bool := s.dm || s.ksu = 0 || s.exl || s.erl || (s.view .copUse).cu0

/-- `CP1usable` (R783). -/
def State.cp1Usable (s : State) : Bool := s.cfg.hasFPU && (s.view .copUse).cu1

/-- `CP2usable` (R783). -/
def State.cp2Usable (s : State) : Bool := s.cfg.hasCP2 && (s.view .copUse).cu2

/-! ## Taking an exception -/

/-- The restart address: the branch's for an instruction in a delay slot (R801). -/
def State.restart (s : State) : Word := if s.slot = .none then s.pc else s.pc - 4

/-- Whether the instruction at `pc` is in a delay slot: what `Cause[BD]`, `Debug[DBD]` record (R106, R130). -/
def State.inDelaySlot (s : State) : Bool := s.slot ≠ .none

/-- What every entry does besides its own registers: the gather buffer is flushed (R244), an `sc` to come is
unpredictable (R251), hazards are cleared (R970), the pc goes to the entry point. -/
def State.enterAt (s : State) (vec : Word) : State :=
  { s.flushGather with
    pc := vec, npc := vec + 4, slot := .none, sleeping := false, llTouched := true, hazards := [],
    excCount := s.excCount + 1 }

/-- The eight interrupt requests in compatibility and VI mode (R815): the lines, the timer, the counters. -/
def State.pciPending (s : State) : Bool :=
  (s.cfg.numPerfCounters ≥ 1 && s.cp0.perfCtl0.getLsbD 4 && s.cp0.perfCnt0.getLsbD 31) ||
  (s.cfg.numPerfCounters ≥ 2 && s.cp0.perfCtl1.getLsbD 4 && s.cp0.perfCnt1.getLsbD 31)

/-- `Cause[IP7-0]` outside EIC mode (R108, R815). -/
def State.ip (s : State) : Byte :=
  (s.inputs.hwInt ++ s.cp0.cause.extractLsb' 8 2)
    ||| (if s.ti then 1#8 <<< s.cfg.ipti.toNat else 0)
    ||| (if s.pciPending then 1#8 <<< s.cfg.ippci.toNat else 0)

/-- The highest bit set of the pending, unmasked requests: the vector number of VI mode (R813). -/
def viVector (p : Byte) : Nat :=
  if p.getLsbD 7 then 7 else if p.getLsbD 6 then 6 else if p.getLsbD 5 then 5 else if p.getLsbD 4 then 4
  else if p.getLsbD 3 then 3 else if p.getLsbD 2 then 2 else if p.getLsbD 1 then 1 else 0

/-- Vector offset and new register set of an interrupt (R805, R812 to R814), or the refusal of a spacing that does not
work (U16). -/
def State.intVector (s : State) : Except Refusal (Word × BitVec 4) :=
  let v := s.view .vector
  let vs : BitVec 5 := v.cp0.intCtl.extractLsb' 5 5
  if !v.iv then .ok (0x180, v.ess)
  else if s.bev || vs = 0 then .ok (0x200, v.ess)
  else if vs ≠ 1 ∧ vs ≠ 2 ∧ vs ≠ 4 ∧ vs ≠ 8 ∧ vs ≠ 16 then .error .vectorSpacing
  else if s.cfg.eicPresent then
    .ok (0x200 + BitVec.ofNat 32 (s.inputs.eicRIPL.toNat * vs.toNat * 32), s.inputs.eicSS)
  else
    let w := s.view .interrupt
    let n := viVector (w.ip &&& w.im)
    .ok (0x200 + BitVec.ofNat 32 (n * vs.toNat * 32), v.cp0.srsMap.extractLsb' (4 * n) 4)

/-- Vector offset and new register set (R805): with `EXL` set the offset is `0x180` and no set is chosen. -/
def State.vectorOf (s : State) (e : Exc) : Except Refusal (Word × Option (BitVec 4)) :=
  if s.exl then .ok (0x180, none)
  else
    match e with
    | .tlbRefill _ _ => .ok (0x000, some (s.view .vector).ess)
    | .int => (s.intVector).map (fun p => (p.1, some p.2))
    | _ => .ok (0x180, some (s.view .vector).ess)

/-- `SRSCtl` after the switch to set `n`: `PSS <- CSS`, `CSS <- n` (R802). -/
def switchSet (w : Word) (n : BitVec 4) : Word :=
  merge w ((w.extractLsb' 0 4 ++ 0#2 ++ n : BitVec 10).setWidth 32) 0x000003CF

/-- `Cause` after entry (R800): `BD` when `EXL` was 0, `ExcCode`, `CE`, and in EIC wiring `RIPL` (R814). -/
def State.causeAfter (s : State) (e : Exc) : Word :=
  let c := if s.exl then s.cp0.cause else putBit s.cp0.cause 31 s.inDelaySlot
  let c := merge c (e.code.setWidth 32 <<< 2) 0x0000007C
  let ce : BitVec 2 := match e with
    | .cpu n => n
    | _ => (Config.free32 s.freeCtr .causeCE).setWidth 2
  let c := merge c (ce.setWidth 32 <<< 28) 0x30000000
  if s.cfg.eicPresent then
    let ripl : BitVec 6 := if e = .int then s.inputs.eicRIPL else (Config.free32 s.freeCtr .causeRIPL).setWidth 6
    merge c (ripl.setWidth 32 <<< 10) 0x0000FC00
  else c

/-- `SRSCtl` after entry (R802, R814). With an external controller fitted `EICSS` takes its set number at every
interrupt, in compatibility mode too, which the table leaves open (DESIGN CHOICE, log 34). -/
def State.srsCtlAfter (s : State) (e : Exc) (set : Option (BitVec 4)) : Word :=
  let w := match set with
    | some n => if s.cfg.numShadowSets > 1 && !s.bev then switchSet s.cp0.srsCtl n else s.cp0.srsCtl
    | none => s.cp0.srsCtl
  if s.cfg.eicPresent && e = .int then merge w (s.inputs.eicSS.setWidth 32 <<< 18) 0x003C0000 else w

/-- The exception's own registers (R213, R788, R215): `BadVAddr`, `Context[BadVPN2]`, `EntryHi[VPN2]`. -/
def Cp0.recordAddress (c : Cp0) (e : Exc) : Cp0 :=
  match e.badVAddr with
  | none => c
  | some va =>
    if e.isTlb then
      { c with
        badVAddr := va
        context := merge c.context (va >>> 9) 0x007FFFF0
        entryHi := merge c.entryHi va 0xFFFFE000 }
    else { c with badVAddr := va }

/-- CP0 after general entry (R800). -/
def State.cp0After (s : State) (e : Exc) (set : Option (BitVec 4)) : Cp0 :=
  { s.cp0.recordAddress e with
    epc := if s.exl then s.cp0.epc else s.restart
    cause := s.causeAfter e
    srsCtl := s.srsCtlAfter e set
    status := s.cp0.status ||| (if e = .mcheck then 0x00200002 else 0x00000002) }

/-- The entry point (R806, R808): ROM entry points with `BEV`, otherwise the offset is ORed into `EBase`. -/
def State.entryPoint (s : State) (off : Word) : Word :=
  if s.bev then 0xBFC00200 + off else ((s.view .vector).cp0.ebase &&& 0xFFFFF000) ||| off

/-- General exception entry outside debug mode (R800). -/
def State.takeGeneral (s : State) (e : Exc) : Out :=
  match s.vectorOf e with
  | .error r => .refused r
  | .ok (off, set) =>
    match set with
    | some n =>
      if s.cfg.numShadowSets > 1 ∧ !s.bev ∧ n.toNat ≥ s.cfg.numShadowSets then .refused .shadowSetRange
      else .next { s.enterAt (s.entryPoint off) with cp0 := s.cp0After e set }
    | none => .next { s.enterAt (s.entryPoint off) with cp0 := s.cp0After e set }

/-- Cache Error entry (R803). -/
def State.takeCacheError (s : State) : Out :=
  let vec : Word :=
    if s.bev then 0xBFC00300
    else (0xA0000000 ||| ((s.view .vector).cp0.ebase &&& 0x1FFFF000)) ||| 0x100
  .next { s.enterAt vec with
    cp0 := { s.cp0 with
      errorEPC := s.restart
      cacheErr := Config.free32 s.freeCtr .cacheErr
      status := s.cp0.status ||| 0x00000004 } }

/-- The debug entry point (R882). -/
def State.debugVector (s : State) : Word := if s.probTrap then 0xFF200200 else 0xBFC00480

/-- The cause bit of an imprecise break: `DDBSImpr`, `DDBLImpr` (R904). -/
def PendBreak.cause (b : PendBreak) : Word := if b.store then 0x00080000 else 0x00040000

/-- The cause bits of the pending imprecise breaks, which an entry for another reason takes along (R904). -/
def State.pendBreakBits (s : State) : Word := s.dbg.pendBreaks.foldl (fun w b => w ||| b.cause) 0

/-- `Debug` after a debug exception from non-debug mode (R882). -/
def State.debugAfter (s : State) (causes : Word) : Word :=
  let d := merge s.cp0.debug (causes ||| s.pendBreakBits) 0x000C003F
  let d := putBit d 31 s.inDelaySlot
  let d := putBit d 26 s.sleeping
  let d := putBit d 27 (s.sleeping || s.inputs.reducedPower)
  let d := merge d (Config.free32 s.freeCtr .dExcCode) 0x00007C00
  d ||| 0x40100000

/-- Debug exception entry from non-debug mode (R882). -/
def State.takeDebug (s : State) (causes : Word) : Out :=
  .next { s.enterAt s.debugVector with
    cp0 := { s.cp0 with depc := s.restart, debug := s.debugAfter causes }
    dbg := { s.dbg with
      pendBreaks := []
      ejtagControl := if causes.getLsbD 5 then s.dbg.ejtagControl &&& 0xFFFFEFFF else s.dbg.ejtagControl } }

/-- A nested debug exception (R885): `DEPC`, `Debug[DBD]`, `DExcCode` and the cause bits only. -/
def State.takeNested (s : State) (e : Exc) : Out :=
  let d := merge s.cp0.debug (e.code.setWidth 32 <<< 10) 0x000C7C3F
  .next { s.enterAt s.debugVector with
    cp0 := { s.cp0 with depc := s.restart, debug := putBit d 31 s.inDelaySlot } }

/-- Taking an exception: the one operation every instruction and every boundary uses (R785, R800, R882, R885). -/
def State.raise (s : State) (e : Exc) : Out :=
  if s.dm then s.takeNested e
  else
    match e with
    | .debug causes => s.takeDebug causes
    | .sdbbp => s.takeDebug 0x00000002
    | .cacheError => s.takeCacheError
    | e => s.takeGeneral e

/-- An instruction that does not transfer control ends: the pc advances, or the exception is taken. -/
def Res.finish {α : Type} (r : Res α) : Out :=
  match r with
  | .ok _ s => s.advance
  | .exc e s => s.raise e
  | .wait s => .next s
  | .ref q => .refused q
  | .flt f => .fault f

/-! ## NMI (R963) and reset (R961) -/

/-- NMI entry (R963). -/
def State.takeNmi (s : State) : Out :=
  .next { s.enterAt 0xBFC00000 with
    llTouched := s.llTouched
    cp0 := { s.cp0 with
      errorEPC := s.restart
      status := merge s.cp0.status 0x00480004 0x00780004 }
    dbg := { s.dbg with dcr := s.dbg.dcr &&& 0xFFFFFFFB } }

/-- Reset (R961, R962): everything but the memories outside the core, the environment and the EJTAG boot indication
goes to its reset value (log 1); the inputs keep theirs (R962). -/
def State.doReset (s : State) : State :=
  let r := State.resetWith s.cfg
  { r with
    mem := s.mem
    ispram := { r.ispram with cells := s.ispram.cells }
    dspram := { r.dspram with cells := s.dspram.cells }
    dbg := { Dbg.reset s.dbg.bootArmed with
      probeReplies := s.dbg.probeReplies, probeAnswers := s.dbg.probeAnswers
      probeTrace := s.dbg.probeTrace }
    inputs := s.inputs
    excCount := s.excCount
    freeCtr := s.freeCtr
    env := s.env
    choices := s.choices }

/-! ## Returns (R575, R576) -/

/-- A return to `t`: no delay slot, every hazard cleared; an odd address is refused (R470, D34). -/
def State.returnTo (s : State) (t : Word) : Out :=
  if t.getLsbD 0 then .refused .mips16
  else .next { s with pc := t, npc := t + 4, slot := .none, hazards := [] }

/-- The return from exception (R575, R825). A deferred bus error that waited for a handler's return comes next (R886). -/
def State.doEret (s : State) : Out :=
  let v := s.view .eret
  if v.erl then
    State.returnTo
      { s with llBit := false, dbeHeld := false, cp0 := { s.cp0 with status := s.cp0.status &&& 0xFFFFFFFB } }
      v.cp0.errorEPC
  else
    if s.cfg.numShadowSets > 1 ∧ !s.bev ∧ s.pss.toNat ≥ s.cfg.numShadowSets then .refused .shadowSetRange
    else
      State.returnTo
        { s with
          llBit := false
          dbeHeld := false
          cp0 := { s.cp0 with
            status := s.cp0.status &&& 0xFFFFFFFD
            srsCtl :=
              if s.cfg.numShadowSets > 1 && !s.bev then merge s.cp0.srsCtl (s.pss.setWidth 32) 0x0000000F
              else s.cp0.srsCtl } }
        v.cp0.epc

/-- The return from debug mode (R576, R887): `DM`, `IEXI` cleared, the single-step count starts (R884), what was
deferred comes next (R886). -/
def State.doDeret (s : State) : Out :=
  State.returnTo
    { s with
      dbeHeld := false
      cp0 := { s.cp0 with debug := s.cp0.debug &&& 0xBFEFFFFF }
      dbg := { s.dbg with stepCount := 0 } }
    (s.view .eret).cp0.depc

end Sys2Proof.Machine
end

