-- ==== Sys2Proof/Machine/Translate.lean ====
section
/-! DEFINITION. Address translation (spec/20_memory.md R200 to R215): segments, modes, fixed mapping, the TLB; and the
TLB entry formats of the staging registers (spec/44_system.md R585 to R588). -/

namespace Sys2Proof.Machine

/-- The three kinds of access (R210). -/
inductive AccKind where
  | fetch
  | load
  | store
deriving DecidableEq, Repr

/-- The consumer class of an access in the hazard table (R974). -/
def AccKind.consumer : AccKind → Consumer
  | .fetch => .fetch
  | .load => .data
  | .store => .data

/-- Whether the kind is a store: which code an address exception has (R202, R213). -/
def AccKind.isStore : AccKind → Bool
  | .store => true
  | _ => false

/-! ## Segments (R200, R202) -/

/-- kuseg: `0x00000000` to `0x7FFFFFFF`. -/
def inKuseg (va : Word) : Bool := !va.getLsbD 31

/-- kseg0: `0x80000000` to `0x9FFFFFFF`. -/
def inKseg0 (va : Word) : Bool := va.extractLsb' 29 3 = 4#3

/-- kseg1: `0xA0000000` to `0xBFFFFFFF`. -/
def inKseg1 (va : Word) : Bool := va.extractLsb' 29 3 = 5#3

/-- kseg2 (sseg): `0xC0000000` to `0xDFFFFFFF`. -/
def inKseg2 (va : Word) : Bool := va.extractLsb' 29 3 = 6#3

/-- dseg: `0xFF200000` to `0xFF3FFFFF` (R203). -/
def inDseg (va : Word) : Bool := va.extractLsb' 21 11 = 0x7F9#11

/-- Which segments a mode may access (R202). -/
def mayAccess (m : Mode) (va : Word) : Bool :=
  match m with
  | .debug => true
  | .kernel => true
  | .supervisor => inKuseg va || inKseg2 va
  | .user => inKuseg va

/-! ## The TLB (R87, R211, R212) -/

/-- The nine legal page masks (R87). -/
def legalMask (m : BitVec 16) : Bool :=
  m = 0x0000 || m = 0x0003 || m = 0x000F || m = 0x003F || m = 0x00FF || m = 0x03FF || m = 0x0FFF || m = 0x3FFF
    || m = 0xFFFF

/-- The number of address bits inside one page: the even/odd select bit (R87). -/
def pageShift (m : BitVec 16) : Nat :=
  if m = 0x0003 then 14 else if m = 0x000F then 16 else if m = 0x003F then 18 else if m = 0x00FF then 20
  else if m = 0x03FF then 22 else if m = 0x0FFF then 24 else if m = 0x3FFF then 26 else if m = 0xFFFF then 28 else 12

/-- Whether an entry matches a virtual page pair under an address space (R212). -/
def TlbEntry.covers (e : TlbEntry) (vpn2 : BitVec 19) (asid : Byte) : Bool :=
  (vpn2 &&& ~~~(e.mask.setWidth 19)) = (e.vpn2 &&& ~~~(e.mask.setWidth 19)) && (e.g || e.asid = asid)

/-- The entries below `n` that match (R212). -/
def tlbMatches (tlb : Vector TlbEntry 64) (n : Nat) (vpn2 : BitVec 19) (asid : Byte) : List (Fin 64) :=
  (List.finRange 64).filter (fun i => decide (i.val < n) && (tlb.get i).covers vpn2 asid)

/-- The page of the pair an address selects (R212). -/
def TlbEntry.page (e : TlbEntry) (va : Word) : TlbPage := if va.getLsbD (pageShift e.mask) then e.page1 else e.page0

/-- The physical address: `PFN` above the page size, the virtual address below (R212). -/
def TlbEntry.physical (e : TlbEntry) (p : TlbPage) (va : Word) : Word :=
  let low : Word := (1#32 <<< pageShift e.mask) - 1
  ((p.pfn ++ 0#12) &&& ~~~low) ||| (va &&& low)

/-- The TLB lookup (R212, R213). -/
def State.tlbLookup (s : State) (v : State) (k : AccKind) (va : Word) : Res (Word × BitVec 3) :=
  match tlbMatches v.tlb s.cfg.tlbEntries (va.extractLsb' 13 19) v.asid with
  | [] => .exc (.tlbRefill k.isStore va) s
  | [i] =>
    let e := v.tlb.get i
    let p := e.page va
    if !p.v then .exc (.tlbInvalid k.isStore va) s
    else if k = .store && !p.d then .exc (.tlbMod va) s
    else .ok (e.physical p va, p.c) s
  | _ => .ref .multipleTlbMatch

/-- Where an access outside dseg goes: physical address and cacheability (R210). -/
def State.translate (s : State) (k : AccKind) (va : Word) : Res (Word × BitVec 3) :=
  let v := s.view k.consumer
  match v.mode? with
  | none => .ref .reservedMode
  | some m =>
    if !mayAccess m va then .exc (.addrError k.isStore va) s
    else if inKseg0 va then .ok (va &&& 0x1FFFFFFF, v.cp0.config.extractLsb' 0 3) s
    else if inKseg1 va then .ok (va &&& 0x1FFFFFFF, 2) s
    else if inKuseg va && v.erl then .ok (va, 2) s
    else
      match s.cfg.mmu with
      | .fmt =>
        if inKuseg va then .ok (va + 0x40000000, v.cp0.config.extractLsb' 25 3) s
        else .ok (va, v.cp0.config.extractLsb' 28 3) s
      | .tlb => s.tlbLookup v k va

/-- The parts of dseg (R203, R890). -/
inductive Dseg where
  | dmseg
  | drseg
deriving DecidableEq, Repr

/-- Whether an access goes to dseg (R203, R891, R894): debug mode, `LSNM` clear or a fetch; dmseg only while the probe
has set `ProbEn`. -/
def State.dsegOf (s : State) (k : AccKind) (va : Word) : Option Dseg :=
  if s.dm && inDseg va && !((s.view k.consumer).lsnm && k ≠ .fetch) then
    if va.getLsbD 20 then some .drseg
    else if s.probEn then some .dmseg else none
  else none

/-! ## TLB writes and reads (R585, R586) -/

/-- One page from an `EntryLo` word (R85). -/
def pageOf (w : Word) : TlbPage := ⟨w.extractLsb' 6 20, w.extractLsb' 3 3, w.getLsbD 2, w.getLsbD 1⟩

/-- The entry the staging registers describe (R586). -/
def stagedEntry (c : Cp0) : TlbEntry where
  vpn2 := c.entryHi.extractLsb' 13 19
  asid := c.entryHi.extractLsb' 0 8
  g := c.entryLo0.getLsbD 0 && c.entryLo1.getLsbD 0
  mask := c.pageMask.extractLsb' 13 16
  page0 := pageOf c.entryLo0
  page1 := pageOf c.entryLo1

/-- An `EntryLo` word from a page and the entry's `G` (R585). -/
def entryLoOf (p : TlbPage) (g : Bool) : Word :=
  (p.pfn ++ p.c ++ BitVec.ofBool p.d ++ BitVec.ofBool p.v ++ BitVec.ofBool g).setWidth 32

/-- Whether two entries overlap: equal `VPN2` under the union of the masks, and `G` or equal `ASID` (R215). -/
def TlbEntry.overlaps (a b : TlbEntry) : Bool :=
  let m : BitVec 19 := ~~~((a.mask ||| b.mask).setWidth 19)
  (a.vpn2 &&& m) = (b.vpn2 &&& m) && (a.g || b.g || a.asid = b.asid)

/-- Whether an entry has a valid page (R215). -/
def TlbEntry.anyValid (e : TlbEntry) : Bool := e.page0.v || e.page1.v

/-- Whether writing `new` at `i` would create a duplicate of valid entries (R215, D41). -/
def machineCheckCond (tlb : Vector TlbEntry 64) (n : Nat) (new : TlbEntry) (i : Fin 64) : Bool :=
  new.anyValid &&
    (List.finRange 64).any (fun j => decide (j.val < n) && decide (j ≠ i) && (tlb.get j).anyValid && (tlb.get j).overlaps new)

end Sys2Proof.Machine
end

