-- ==== Sys2Proof/Machine/Cache.lean ====
section
/-! DEFINITION. The primary caches with explicit contents (spec/20_memory.md R255, R260 to R265), uncached physical
accesses and bus errors (R246), the scratchpads (R270 to R272), the operations of `cache`, `synci` and `pref`
(spec/43_load_store.md R515, R516, R519 to R521). -/

namespace Sys2Proof.Machine

/-! ## Shape (R121) -/

/-- Bytes of a line: `2 * 2^L`; 0 means no cache (R121). -/
def lineBytes (cfg : Cfg) (d : Bool) : Nat :=
  let l := (if d then cfg.dcLine else cfg.icLine).toNat
  if l = 0 then 0 else 2 * 2 ^ l

/-- Sets of a way: `64 * 2^S` (R121). -/
def numSets (cfg : Cfg) (d : Bool) : Nat := 64 * 2 ^ (if d then cfg.dcSets else cfg.icSets).toNat

/-- Ways: `A + 1` (R121). -/
def numWays (cfg : Cfg) (d : Bool) : Nat := (if d then cfg.dcWays else cfg.icWays).toNat + 1

/-- The set an access indexes: by virtual address, by physical address in an alias-free D-cache (R260, R264). -/
def setIndex (cfg : Cfg) (d : Bool) (va pa : Word) : Nat :=
  (if d && cfg.dAliasFree then pa else va).toNat / lineBytes cfg d % numSets cfg d

/-- The slot of a way and set. -/
def slotOf (cfg : Cfg) (d : Bool) (way set : Nat) : Nat := way * numSets cfg d + set

/-- The cache of a side. -/
def State.cache (s : State) (d : Bool) : Cache := if d then s.dcache else s.icache

/-- Replace the cache of a side. -/
def State.setCache (s : State) (d : Bool) (c : Cache) : State :=
  if d then { s with dcache := c } else { s with icache := c }

/-- The tag of a slot. -/
def Cache.tag (c : Cache) (slot : Nat) : CacheTag := sparseGet .zero c.tags slot

/-- Replace the tag of a slot: hardware computes its parity bits (R142). -/
def Cache.setTag (c : Cache) (slot : Nat) (t : CacheTag) : Cache :=
  { c with
    tags := sparseSet .zero c.tags slot t
    tagP := sparseSet none c.tagP slot none
    dirtyP := sparseSet none c.dirtyP slot none }

/-- Hardware computes the parity of `n` words from key `k` (R140). -/
def clearParity (l : List (Nat × Option (BitVec 9))) (k : Nat) : Nat → List (Nat × Option (BitVec 9))
  | 0 => l
  | n + 1 => sparseSet none (clearParity l k n) (k + n) none

/-- Bytes of a slot's line from an offset. -/
def Cache.bytes (c : Cache) (line slot off n : Nat) : List Byte := Memory.readBytes c.data (slot * line + off) n

/-- Write bytes into a slot's line at an offset; hardware computes their parity. -/
def Cache.setBytes (c : Cache) (line slot off : Nat) (bs : List Byte) : Cache :=
  let a := slot * line + off
  { c with
    data := Memory.writeBytes c.data a bs
    dataP := clearParity c.dataP (a / 4) ((a % 4 + bs.length + 3) / 4) }

/-- The LRU bits of a set after an access used it: hardware moves them by a rule the spec does not give (R260). -/
def Cache.used (c : Cache) (set : Nat) : Cache := { c with lru := sparseSet none c.lru set none }

/-- An access used the set of a slot. -/
def State.useSlot (s : State) (d : Bool) (slot : Nat) : State :=
  s.setCache d ((s.cache d).used (slot % numSets s.cfg d))

/-- The physical address of a slot's line: its tag above bit 12, the set below (R63). -/
def lineAddr (cfg : Cfg) (d : Bool) (slot : Nat) (t : CacheTag) : Nat :=
  t.ptag.toNat * 4096 + slot % numSets cfg d * lineBytes cfg d % 4096

/-- The slot of a valid line holding `pa` among the ways below `n` (R521). Where two valid ways of the set hold the tag, as
Index Store Tag can leave them, R521 does not say which is the line: the lowest way is (DESIGN CHOICE, log 58). -/
def findWay (c : Cache) (cfg : Cfg) (d : Bool) (set : Nat) (ptag : BitVec 20) : Nat → Option Nat
  | 0 => none
  | n + 1 =>
    match findWay c cfg d set ptag n with
    | some w => some w
    | none =>
      let t := c.tag (slotOf cfg d n set)
      if t.v && t.ptag = ptag then some (slotOf cfg d n set) else none

/-- The slot a virtual and physical address hit in cache `c`, if any (R521). -/
def Cache.lookup (c : Cache) (cfg : Cfg) (d : Bool) (va pa : Word) : Option Nat :=
  findWay c cfg d (setIndex cfg d va pa) (pa.extractLsb' 12 20) (numWays cfg d)

/-! ## Cacheability (R207) -/

/-- Cached codes: 0 and 3. -/
def ccaCached (c : BitVec 3) : Bool := c = 0 || c = 3

/-- Reserved codes: 1, 4, 5, 6 (D33). -/
def ccaReserved (c : BitVec 3) : Bool := c = 1 || c = 4 || c = 5 || c = 6

/-! ## Writeback, eviction, refill -/

/-- Write a valid dirty D-cache line back to memory; it becomes clean (R260, R521). The bytes of a line that stands in a
device range (made so by Index Store Tag or hint 30) are dropped without a fault (DESIGN CHOICE, log 16). -/
def State.writebackSlot (s : State) (slot : Nat) : State :=
  let t := s.dcache.tag slot
  if t.v && t.d then
    let line := lineBytes s.cfg true
    { s with
      mem := physWrite s.cfg.physMap s.mem (lineAddr s.cfg true slot t) (s.dcache.bytes line slot 0 line)
      dcache := s.dcache.setTag slot { t with d := false } }
  else s

/-- Make a line invalid and unlocked, without writeback (R521). -/
def State.invalidateSlot (s : State) (d : Bool) (slot : Nat) : State :=
  (s.setCache d ((s.cache d).setTag slot { (s.cache d).tag slot with v := false, d := false, l := false })).useSlot d slot

/-- An external read of `n` bytes at a physical address (R246, R276): the bytes, or none where the bus answers with an
error (the environment's flag, which may stand for any read, of a device too, or nothing stands there). A device's other
answer is not given: a fault. -/
def State.busRead (s : State) (fetch : Bool) (pa n : Nat) : Res (Option (List Byte)) :=
  if fetch && s.inputs.failFetch then .ok none { s with inputs := { s.inputs with failFetch := false } }
  else if !fetch && s.inputs.failData then .ok none { s with inputs := { s.inputs with failData := false } }
  else if touchesDevice s.cfg.physMap pa n then .flt (.deviceAccess (BitVec.ofNat 32 pa))
  else if touchesNothing s.cfg.physMap pa n then .ok none s
  else .ok (some (Memory.readBytes s.mem pa n)) s

/-- The ways a refill may use: not locked, and allowed by the hint (R260, R262, R516). -/
def refillWays (s : State) (d : Bool) (set : Nat) (allowed : Nat → Bool) : List Nat :=
  (List.range (numWays s.cfg d)).filter
    (fun w => allowed w && !((s.cache d).tag (slotOf s.cfg d w set)).l)

/-- The way the environment picks among the allowed ones (R260; log 7, 32); none where all are locked. -/
def State.victim (s : State) (d : Bool) (set : Nat) (allowed : Nat → Bool) : Option Nat :=
  let ws := refillWays s d set allowed
  ws[s.choice % ws.length]?

/-- Put a line into the cache: the victim is written back if dirty (R260). Answers the slot. -/
def State.installLine (s : State) (d : Bool) (va pa : Word) (way : Nat) (bs : List Byte) (dirty : Bool) : Nat × State :=
  let slot := slotOf s.cfg d way (setIndex s.cfg d va pa)
  let s1 := if d then s.writebackSlot slot else s
  let c := (s1.cache d).setBytes (lineBytes s.cfg d) slot 0 bs
  (slot, (s1.setCache d (c.setTag slot ⟨pa.extractLsb' 12 20, true, dirty, false⟩)).useSlot d slot)

/-- Start of the line holding a physical address. -/
def lineBase (cfg : Cfg) (d : Bool) (pa : Word) : Nat := pa.toNat - pa.toNat % lineBytes cfg d

/-- The size of a gather block: a D-cache line (R244). Without a D-cache the spec gives no size, and the model takes one
word (DESIGN CHOICE, log 22). -/
def gatherLine (cfg : Cfg) : Nat := if lineBytes cfg true = 0 then 4 else lineBytes cfg true

/-- Flush the gather buffer where it holds the line of a physical address (R241, R244). -/
def State.flushLine (s : State) (pa : Word) : State :=
  match s.gather with
  | some g => if g.line = pa.toNat - pa.toNat % gatherLine s.cfg then s.flushGather else s
  | none => s

/-- Refill the line of an absent address (R260): the slot, or none where the bus answered with an error. A line of the
data side is read after the gather buffer's words for it went out (R244; for a store, `pref` and `cache` log 22). -/
def State.refill (s : State) (d fetch : Bool) (va pa : Word) (allowed : Nat → Bool) : Res (Option Nat) :=
  match s.victim d (setIndex s.cfg d va pa) allowed with
  | none => .ref .setAllLocked
  | some way =>
    let s0 := if d then s.flushLine pa else s
    (s0.dropChoice.busRead fetch (lineBase s.cfg d pa) (lineBytes s.cfg d)).andThen fun bs s1 =>
      match bs with
      | none => .ok none s1
      | some bs => let r := s1.installLine d va pa way bs false; .ok (some r.1) r.2

/-- The slot of an address, refilled where absent. -/
def State.ensureLine (s : State) (d fetch : Bool) (va pa : Word) : Res (Option Nat) :=
  match (s.cache d).lookup s.cfg d va pa with
  | some slot => .ok (some slot) (s.useSlot d slot)
  | none => s.refill d fetch va pa (fun _ => true)

/-! ## Scratchpads (R270, R271) -/

/-- The offset of a physical address inside an enabled scratchpad. -/
def Spram.offset (sp : Spram) (fitted : Bool) (pa : Word) : Option Nat :=
  let base := (sp.tag0.extractLsb' 12 20).toNat * 4096
  let size := (sp.tag1.extractLsb' 12 20).toNat * 4096
  if fitted && sp.tag0.getLsbD 7 && base ≤ pa.toNat && pa.toNat < base + size then some (pa.toNat - base) else none

/-! ## Data bus errors (R246, D21) -/

/-- A data read was answered with an error: a bus error becomes pending, at a boundary the environment picks. -/
def State.noteDBE (s : State) : State := { s.dropChoice with pendDBE := s.pendDBE ++ [s.choice] }

/-- The free bytes a data break compares where the read failed (R246, R902; log 20). -/
def State.freeBytes (s : State) (k : Nat) : Nat → List Byte
  | 0 => []
  | n + 1 => Config.freeByte s.freeCtr (.busErrorByte k) :: State.freeBytes s (k + 1) n

/-! ## One data access inside an aligned word (R230, R235, R241, R260) -/

/-- Read `n` bytes: scratchpad, cache or bus, as the physical address and the code say; none where the read failed,
with the bus error pending (R246). A load flushes the gather buffer where it holds the line, through whatever code it
comes (R244). An address inside both scratchpads is the DSPRAM's (DESIGN CHOICE, log 45). -/
def State.readPart (s : State) (va pa : Word) (cca : BitVec 3) (n : Nat) : Res (Option (List Byte)) :=
  match s.dspram.offset s.cfg.hasDSPRAM pa with
  | some off => .ok (some (Memory.readBytes s.dspram.cells off n)) s
  | none =>
    match s.ispram.offset s.cfg.hasISPRAM pa with
    | some _ => .ref .spramCrossSide
    | none =>
      if ccaCached cca && lineBytes s.cfg true ≠ 0 then
        ((s.flushLine pa).ensureLine true false va pa).andThen fun slot s1 =>
          match slot with
          | some slot =>
            .ok (some (s1.dcache.bytes (lineBytes s.cfg true) slot (pa.toNat % lineBytes s.cfg true) n)) s1
          | none => .ok none s1.noteDBE
      else
        ((s.flushLine pa).busRead false pa.toNat n).andThen fun bs s1 =>
          match bs with
          | some bs => .ok (some bs) s1
          | none => .ok none s1.noteDBE

/-- The bytes of a gather buffer in a map by address. -/
def gatherPut (cells : List Host.Cell) (a : Nat) : List Byte → List Host.Cell
  | [] => cells
  | b :: t => gatherPut (sparsePut cells a b) (a + 1) t

/-- An uncached accelerated word store (R244): into the buffer; another line flushes first; the last word flushes
after. -/
def State.gatherStore (s : State) (pa : Nat) (bs : List Byte) : State :=
  let line := pa - pa % gatherLine s.cfg
  let s1 := match s.gather with
    | some g => if g.line = line then s else s.flushGather
    | none => s
  let cells := match s1.gather with
    | some g => g.cells
    | none => []
  let s2 : State := { s1 with gather := some ⟨line, gatherPut cells pa bs⟩ }
  if pa % gatherLine s.cfg + bs.length = gatherLine s.cfg then s2.flushGather else s2

/-- Write bytes: scratchpad, cache or bus (R230, R260, R244); `whole` for the stores that write whole words, the only
ones an uncached accelerated address takes (U24). Inside an enabled DSPRAM a store of any width writes it, whatever the
code, and whether or not the ISPRAM has the address too: R270 is taken over U24 and U30 (DESIGN CHOICE, log 45). A
write-back store whose line could not be refilled writes memory (DESIGN CHOICE, log 18). A code-0 store that misses and
allocates no line completes to memory also where every way of the set is locked: R262 and U36 do not say whether that is
the miss they refuse (DESIGN CHOICE, log 31). -/
def State.writePart (s : State) (va pa : Word) (cca : BitVec 3) (whole : Bool) (bs : List Byte) : Res Unit :=
  match s.dspram.offset s.cfg.hasDSPRAM pa with
  | some off => .ok () { s with dspram := { s.dspram with cells := Memory.writeBytes s.dspram.cells off bs } }
  | none =>
    match s.ispram.offset s.cfg.hasISPRAM pa with
    | some _ => .ref .spramCrossSide
    | none =>
      let line := lineBytes s.cfg true
      if cca = 3 && line ≠ 0 then
        (s.ensureLine true false va pa).andThen fun slot s1 =>
          match slot with
          | some slot =>
            let c := s1.dcache.setBytes line slot (pa.toNat % line) bs
            .ok () { s1 with dcache := c.setTag slot { c.tag slot with d := true } }
          | none => .ok () { s1.noteDBE with mem := physWrite s.cfg.physMap s1.mem pa.toNat bs }
      else if touchesDevice s.cfg.physMap pa.toNat bs.length then .flt (.deviceAccess pa)
      else if cca = 7 then
        if whole then .ok () (s.gatherStore pa.toNat bs) else .ref .narrowAccelerated
      else
        let s0 := s.flushLine pa
        let s1 : State := { s0 with mem := physWrite s.cfg.physMap s0.mem pa.toNat bs }
        if cca = 0 && line ≠ 0 then
          match s1.dcache.lookup s.cfg true va pa with
          | some slot =>
            .ok () (State.useSlot { s1 with dcache := s1.dcache.setBytes line slot (pa.toNat % line) bs } true slot)
          | none =>
            if s1.choice = 1 then
              (s1.dropChoice.refill true false va pa (fun _ => true)).andThen fun slot s2 =>
                match slot with
                | some _ => .ok () s2
                | none => .ok () s2.noteDBE
            else .ok () s1.dropChoice
        else .ok () s1

/-! ## Fetch of a word through the instruction side (R237, R255) -/

/-- The four bytes of an instruction; none where the read failed (R246). Fetch sees the lines of the I-cache as they
are or, while a hazard of R974 is pending, as they were: tag and bytes. Where it sees the old absence of a line that
`cache` has put there, the line comes from memory and the cache keeps what it holds (DESIGN CHOICE, log 30). An address
inside both scratchpads is the ISPRAM's (DESIGN CHOICE, log 45). -/
def State.fetchPart (s : State) (va pa : Word) (cca : BitVec 3) : Res (Option (List Byte)) :=
  if ccaReserved cca then .ref .reservedCacheability
  else
    match s.ispram.offset s.cfg.hasISPRAM pa with
    | some off => .ok (some (Memory.readBytes s.ispram.cells off 4)) s
    | none =>
      match s.dspram.offset s.cfg.hasDSPRAM pa with
      | some _ => .ref .spramCrossSide
      | none =>
        let line := lineBytes s.cfg false
        if ccaCached cca && line ≠ 0 then
          let seen := (s.view .fetch).icache
          match seen.lookup s.cfg false va pa with
          | some slot => .ok (some (seen.bytes line slot (pa.toNat % line) 4)) (s.useSlot false slot)
          | none =>
            if (s.icache.lookup s.cfg false va pa).isSome then
              (s.busRead true (lineBase s.cfg false pa) line).andThen fun bs s1 =>
                .ok (bs.map (fun l => (l.drop (pa.toNat % line)).take 4)) s1
            else
              (s.refill false true va pa (fun _ => true)).andThen fun slot s1 =>
                match slot with
                | some slot => .ok (some (s1.icache.bytes line slot (pa.toNat % line) 4)) s1
                | none => .ok none s1
        else s.busRead true pa.toNat 4

/-! ## `synci`, `pref`, `cache` (R515, R516, R519 to R521) -/

/-- What stands in an I-cache slot, its tag and its line's bytes, before the part `p` of it is written. -/
def State.ilineOld (s : State) (p : LinePart) (slot : Nat) : HazardOld :=
  let line := lineBytes s.cfg false
  .iline p slot (s.icache.tag slot) (s.icache.bytes line slot 0 line)

/-- Record an I-cache line of which the part `p` changes, for later fetches (R974). -/
def State.pushILine (s : State) (p : LinePart) (slot : Nat) : State := s.pushHazard (s.ilineOld p slot)

/-- `synci` on a translated address: D-cache writeback, I-cache invalidate of the line; nothing where uncached (R519). -/
def State.synciLine (s : State) (va pa : Word) (cca : BitVec 3) : State :=
  if cca = 2 || cca = 7 then s
  else
    let s1 := if lineBytes s.cfg true = 0 then s else
      match s.dcache.lookup s.cfg true va pa with
      | some slot => s.writebackSlot slot
      | none => s
    if lineBytes s.cfg false = 0 then s1
    else
      match s1.icache.lookup s.cfg false va pa with
      | some slot => ((s1.pushILine .tag slot).setCache false
          (s1.icache.setTag slot { s1.icache.tag slot with v := false })).useSlot false slot
      | none => s1

/-- A prefetch refill: nothing where the line is present, the ways are locked, or the read fails (R515, R516). -/
def State.prefetchLine (s : State) (va pa : Word) (allowed : Nat → Bool) : Res Unit :=
  match s.dcache.lookup s.cfg true va pa with
  | some slot => .ok () (s.useSlot true slot)
  | none =>
    match s.victim true (setIndex s.cfg true va pa) allowed with
    | none => .ok () s
    | some _ => (s.refill true false va pa allowed).andThen fun _ s1 => .ok () s1

/-- Hint 30: an absent line is created with zeros, dirty (R516). -/
def State.prepareForStore (s : State) (va pa : Word) : State :=
  match s.dcache.lookup s.cfg true va pa with
  | some _ => s
  | none =>
    match s.victim true (setIndex s.cfg true va pa) (fun _ => true) with
    | none => s
    | some way => (s.dropChoice.installLine true va pa way (List.replicate (lineBytes s.cfg true) 0) true).2

/-- Hint 25: write back and remove the line (R516). -/
def State.nudge (s : State) (va pa : Word) : State :=
  match s.dcache.lookup s.cfg true va pa with
  | some slot => (s.writebackSlot slot).invalidateSlot true slot
  | none => s

/-- The hints of R516; every other one is a no-op (U28). -/
def knownHint (hint : Reg) : Bool :=
  hint = 0 || hint = 1 || hint = 4 || hint = 5 || hint = 6 || hint = 7 || hint = 25 || hint = 30

/-- The effect of a hint of R516 at a translated address (R515): the nudge (25) acts whatever the code; the others do
nothing where the address is uncached, nor where its code is reserved (DESIGN CHOICE, log 32). -/
def State.prefetch (s : State) (hint : Reg) (va pa : Word) (cca : BitVec 3) : Res Unit :=
  if (s.dspram.offset s.cfg.hasDSPRAM pa).isSome || (s.ispram.offset s.cfg.hasISPRAM pa).isSome then .ok () s
  else if hint = 25 then
    let s1 := if lineBytes s.cfg true = 0 then s else s.nudge va pa
    .ok () (if cca = 7 then s1.flushLine pa else s1)
  else if !ccaCached cca || lineBytes s.cfg true = 0 then .ok () s
  else if hint = 0 || hint = 1 then s.prefetchLine va pa (fun _ => true)
  else if hint = 4 || hint = 5 then s.prefetchLine va pa (fun w => w = 0)
  else if hint = 6 || hint = 7 then s.prefetchLine va pa (fun w => w ≠ 0)
  else .ok () (s.prepareForStore va pa)

/-- The slot an index operation names: set and way from the virtual address (R521). -/
def indexSlot (cfg : Cfg) (d : Bool) (va : Word) : Nat :=
  let line := lineBytes cfg d
  slotOf cfg d (va.toNat / (line * numSets cfg d) % numWays cfg d) (va.toNat / line % numSets cfg d)

/-- `TagLo` from a line's tag and its parity bit (R142); bits 11 and 10, not described, and a parity bit that hardware
computed are free (log 30). -/
def State.tagWord (s : State) (t : CacheTag) (p : Option Bool) (d : Bool) : Word :=
  let x := Config.free32 s.freeCtr .tagBits
  (t.ptag ++ x.extractLsb' 10 2 ++ 0#2 ++ BitVec.ofBool t.v ++ BitVec.ofBool (d && t.d) ++ BitVec.ofBool t.l ++ 0#5)
    ||| bitAt 0 (p.getD (x.getLsbD 0))

/-- A line's tag from `TagLo` (R142, R521). -/
def tagOfWord (w : Word) (d : Bool) : CacheTag :=
  ⟨w.extractLsb' 12 20, w.getLsbD 7, d && w.getLsbD 6, w.getLsbD 5⟩

/-- A doubleword from two instruction words, in the order of R147. -/
def pairBytes (big : Bool) (hi lo : Word) : List Byte := natToBytes big 8 (hi ++ lo : DWord).toNat

/-- The key of the data parity that an index operation at `va` reads or writes: a word of the D-cache, a doubleword of
the I-cache (R521). -/
def parityKey (cfg : Cfg) (d : Bool) (va : Word) : Nat :=
  let line := lineBytes cfg d
  (indexSlot cfg d va * line + (if d then va.toNat % line / 4 * 4 else va.toNat % line / 8 * 8)) / 4

/-- The bits of `ErrCtl` that Index Load Tag writes: `PD` of the D-cache, `PI` and `PCI` of the I-cache (R140). -/
def parityBits (cfg : Cfg) (d : Bool) : Word := if !cfg.cacheParity then 0 else if d then 0xF else 0x7FFF0

/-- `ErrCtl` after Index Load Tag read data parity `p` (R140): `PD` of the D-cache, `PI` of the I-cache with a free
precode, where parity is fitted (log 30). -/
def State.parityRead (s : State) (d : Bool) (p : Option (BitVec 9)) : Word :=
  let x := Config.free32 s.freeCtr .dataParity
  let v := p.getD (x.setWidth 9)
  if !s.cfg.cacheParity then s.cp0.errCtl
  else if d then merge s.cp0.errCtl (v.setWidth 32) 0xF
  else merge s.cp0.errCtl (((v.setWidth 32) <<< 4) ||| (x &&& 0x7E000)) 0x7FFF0

/-- Index Load Tag of a cache (R521, R140): the tag, the addressed data and its parity into the staging registers. -/
def State.indexLoadTag (s : State) (d : Bool) (va : Word) : State :=
  let line := lineBytes s.cfg d
  let slot := indexSlot s.cfg d va
  let c := s.cache d
  let tw := s.tagWord (c.tag slot) (sparseGet none c.tagP slot) d
  let s1 := s.setCp .readBack .errCtl (parityBits s.cfg d) (s.parityRead d (sparseGet none c.dataP (parityKey s.cfg d va)))
  if d then
    let w := bytesToNat s.cfg.bigEndian (s.dcache.bytes line slot (va.toNat % line / 4 * 4) 4)
    (s1.setCp .readBack .tagLo1 allOnes tw).setCp .readBack .dataLo1 allOnes (BitVec.ofNat 32 w)
  else
    let w : DWord := BitVec.ofNat 64 (bytesToNat s.cfg.bigEndian (s.icache.bytes line slot (va.toNat % line / 8 * 8) 8))
    ((s1.setCp .readBack .tagLo0 allOnes tw).setCp .readBack .dataLo0 allOnes (w.setWidth 32)).setCp .readBack .dataHi0 allOnes
      (w.extractLsb' 32 32)

/-! ### The way-select RAM (R143) -/

/-- The way-select RAM of the set of `va` as `TagLo` shows it: `WSDP` and `WSD` of the D-cache, `WSLRU`; what hardware
computed and the undescribed bits are free (log 30). Which of the four bits is which way the spec does not say: way `n`
is bit `16 + n` of `WSD` and bit `20 + n` of `WSDP` (DESIGN CHOICE, log 30). -/
def State.waySelectWord (s : State) (d : Bool) (va : Word) : Word :=
  let x := Config.free32 s.freeCtr .waySelect
  let c := s.cache d
  let slot := fun w => slotOf s.cfg d w (indexSlot s.cfg d va % numSets s.cfg d)
  let dirty := fun w => bitAt (16 + w) ((c.tag (slot w)).d) |||
    bitAt (20 + w) ((sparseGet none c.dirtyP (slot w)).getD (x.getLsbD (20 + w)))
  let ways := if d then dirty 0 ||| dirty 1 ||| dirty 2 ||| dirty 3 else x &&& 0x00FF0000
  let lru := (sparseGet none c.lru (indexSlot s.cfg d va % numSets s.cfg d)).getD (x.extractLsb' 10 6)
  (x &&& 0xFF0000E1) ||| ways ||| (lru.setWidth 32 <<< 10)

/-- Index Load Tag of the way-select RAM (R140, R143); what the data registers get is free (log 30). -/
def State.waySelectLoad (s : State) (d : Bool) (va : Word) : State :=
  let lo := Config.free32 s.freeCtr .waySelectLow
  if d then (s.setCp .readBack .tagLo1 allOnes (s.waySelectWord d va)).setCp .readBack .dataLo1 allOnes lo
  else ((s.setCp .readBack .tagLo0 allOnes (s.waySelectWord d va)).setCp .readBack .dataLo0 allOnes lo).setCp .readBack .dataHi0 allOnes
    (Config.free32 s.freeCtr .waySelectHigh)

/-- Write the dirty bit of a slot in the way-select RAM, with parity bit `p` (none: hardware computes it). -/
def Cache.setDirty (c : Cache) (slot : Nat) (b : Bool) (p : Option Bool) : Cache :=
  { c with
    tags := sparseSet .zero c.tags slot { c.tag slot with d := b }
    dirtyP := sparseSet none c.dirtyP slot p }

/-- Write the dirty bits of the ways below `n` of a set from a way-select word (R143; the places of a way's
bits: log 30): with their parity bits where `force` is set. -/
def Cache.setDirtyWays (c : Cache) (cfg : Cfg) (set : Nat) (w : Word) (force : Bool) : Nat → Cache
  | 0 => c
  | n + 1 => (Cache.setDirtyWays c cfg set w force n).setDirty (slotOf cfg true n set) (w.getLsbD (16 + n))
      (if force then some (w.getLsbD (20 + n)) else none)

/-- Index Store Tag of the way-select RAM (R140, R143): the dirty bits of the D-cache and the LRU bits of the set. -/
def State.waySelectStore (s : State) (d : Bool) (va w : Word) (force : Bool) : State :=
  let set := indexSlot s.cfg d va % numSets s.cfg d
  let c := s.cache d
  let c1 := if d then c.setDirtyWays s.cfg set w force (min (numWays s.cfg true) 4) else c
  s.setCache d { c1 with lru := sparseSet none c1.lru set (some (w.extractLsb' 10 6)) }

/-- Force the parity bit of a tag (R140, `ErrCtl[PO]`). -/
def Cache.forceTagP (c : Cache) (slot : Nat) (force b : Bool) : Cache :=
  if force then { c with tagP := sparseSet none c.tagP slot (some b) } else c

/-- Force the parity of a word or doubleword of data (R140, `ErrCtl[PO]`). -/
def Cache.forceDataP (c : Cache) (key : Nat) (force : Bool) (p : BitVec 9) : Cache :=
  if force then { c with dataP := sparseSet none c.dataP key (some p) } else c

/-- Index Load Tag of a scratchpad (R144, R521): tag 0 or 1 by address bit 3, zero where none is fitted. -/
def State.spramLoadTag (s : State) (d : Bool) (va : Word) : State :=
  let sp := if d then s.dspram else s.ispram
  let fitted := if d then s.cfg.hasDSPRAM else s.cfg.hasISPRAM
  let w := if !fitted then 0 else if va.getLsbD 3 then sp.tag1 else sp.tag0
  s.setCp .readBack (if d then .tagLo1 else .tagLo0) allOnes w

/-- Index Store Tag of a scratchpad (R271): only where the build allows it, and nothing where none is fitted (DESIGN
CHOICE, log 57). -/
def State.spramStoreTag (s : State) (d : Bool) (va w : Word) : State :=
  let fitted := if d then s.cfg.hasDSPRAM else s.cfg.hasISPRAM
  if !fitted || !s.cfg.spramWritableTags then s
  else
    let sp := if d then s.dspram else s.ispram
    let sp' : Spram :=
      if va.getLsbD 3 then { sp with tag1 := w &&& 0xFFFFF000 } else { sp with tag0 := w &&& 0xFFFFF080 }
    if d then { s with dspram := sp' } else { s with ispram := sp' }

/-- Index Store Data of ISPRAM (R272): eight bytes, at the offset modulo its size (R521). Of an ISPRAM whose size tag is 0
that offset has no value, and of a core without one no rule speaks: nothing is stored (DESIGN CHOICE, log 57). -/
def State.spramStoreData (s : State) (va : Word) (bs : List Byte) : State :=
  let size := (s.ispram.tag1.extractLsb' 12 20).toNat * 4096
  if !s.cfg.hasISPRAM || size = 0 then s
  else
    let cells := Memory.writeBytes s.ispram.cells (va.toNat / 8 * 8 % size) bs
    { s with ispram := { s.ispram with cells := cells } }

/-- Set the lock bit of a slot where `lock` asks for it (R262). -/
def State.lockSlot (s : State) (d lock : Bool) (slot : Nat) : State :=
  if lock then s.setCache d ((s.cache d).setTag slot { (s.cache d).tag slot with l := true }) else s

/-- Fill and Fetch-and-Lock (R521): the line is fetched from memory if absent, whatever the code of its address and also
where the address lies inside an enabled scratchpad (DESIGN CHOICE, log 30); `lock` sets its lock bit. What stood in an
I-cache slot is recorded for later fetches (R974). The read is a data read on the instruction side too: R520 says Bus
Error of these operations and not which, and the model makes it an imprecise data bus error, with no line put into the
cache and none locked (DESIGN CHOICE, log 18). -/
def State.fillLine (s : State) (d lock : Bool) (va pa : Word) : Res Unit :=
  if lineBytes s.cfg d = 0 then .ok () s
  else
    match (s.cache d).lookup s.cfg d va pa with
    | some slot => .ok () (((if d || !lock then s else s.pushILine .lock slot).useSlot d slot).lockSlot d lock slot)
    | none =>
      (s.refill d false va pa (fun _ => true)).andThen fun slot s1 =>
        match slot with
        | none => .ok () s1.noteDBE
        | some slot => .ok () ((if d then s1 else s1.pushHazard (s.ilineOld .line slot)).lockSlot d lock slot)

/-- The operations on a cache line by index (R521), with the staging registers as `cache` sees them (R974). In the test
modes of R140: `WST` (bit 29) makes the tag operations act on the way-select RAM, `PO` (bit 30) forces the parity bits,
`PCO` (bit 27) is refused where an I-cache store would use it; where `WST` and `SPR` (bit 28) are both set the tag
operations follow either (log 30). -/
def State.indexOp (s : State) (d : Bool) (op : BitVec 3) (va : Word) : Res Unit :=
  let v := s.view .cacheOp
  let err := v.cp0.errCtl
  let po := err.getLsbD 30
  let tagOp := op = 1 || op = 2
  let spr := err.getLsbD 28 && !(tagOp && err.getLsbD 29 && Config.freeBool s.freeCtr .testMode)
  if err.getLsbD 27 && !d && (op = 2 || op = 3) then .ref .cacheTestMode
  else if spr then
    match op with
    | 1 => .ok () (s.spramLoadTag d va)
    | 2 => .ok () (s.spramStoreTag d va (if d then v.cp0.tagLo1 else v.cp0.tagLo0))
    | 3 => if d then .ok () s
           else .ok () (s.spramStoreData va (pairBytes s.cfg.bigEndian v.cp0.dataHi0 v.cp0.dataLo0))
    | _ => .ok () s
  else if lineBytes s.cfg d = 0 then .ok () s
  else
    let line := lineBytes s.cfg d
    let slot := indexSlot s.cfg d va
    let tagLo := if d then v.cp0.tagLo1 else v.cp0.tagLo0
    match op with
    | 0 => .ok () ((if d then s.writebackSlot slot else s.pushILine .tag slot).invalidateSlot d slot)
    | 1 => .ok () (if err.getLsbD 29 then s.waySelectLoad d va else s.indexLoadTag d va)
    | 2 =>
      if err.getLsbD 29 then .ok () (s.waySelectStore d va tagLo po)
      else .ok () (((if d then s else s.pushILine .tag slot).setCache d
        (((s.cache d).setTag slot (tagOfWord tagLo d)).forceTagP slot po (tagLo.getLsbD 0))).useSlot d slot)
    | 3 =>
      let c :=
        if d then
          (s.dcache.setBytes line slot (va.toNat % line / 4 * 4)
            (natToBytes s.cfg.bigEndian 4 v.cp0.dataLo1.toNat)).forceDataP (parityKey s.cfg d va) po
              ((err.extractLsb' 0 4).setWidth 9)
        else
          (s.icache.setBytes line slot (va.toNat % line / 8 * 8)
            (pairBytes s.cfg.bigEndian v.cp0.dataHi0 v.cp0.dataLo0)).forceDataP (parityKey s.cfg d va) po
              (err.extractLsb' 4 9)
      .ok () (((if d then s else s.pushILine (.dword (va.toNat % line / 8 * 8)) slot).setCache d c).useSlot d slot)
    | _ => .ok () s

/-- The operations on the line an address hits (R521). -/
def State.hitOp (s : State) (d : Bool) (op : BitVec 3) (va pa : Word) : State :=
  if lineBytes s.cfg d = 0 then s
  else
    match (s.cache d).lookup s.cfg d va pa with
    | none => s
    | some slot =>
      match op with
      | 4 => (if d then s else s.pushILine .tag slot).invalidateSlot d slot
      | 5 => (s.writebackSlot slot).invalidateSlot true slot
      | 6 => (s.writebackSlot slot).useSlot true slot
      | _ => s

/-- The operations that are no-ops: those on the secondary and tertiary caches, and the reserved code (R521, D39). -/
def cacheNoOp (op : Reg) : Bool := op.getLsbD 1 || op = 0x18

/-- The `cache` instruction at a translated address (R520, R521): bit 0 of `op` selects the primary cache. It takes no
account of the code of the address, cached, uncached or reserved (DESIGN CHOICE, log 30). -/
def State.cacheOp (s : State) (op : Reg) (va pa : Word) : Res Unit :=
  let d := op.getLsbD 0
  let k : BitVec 3 := op.extractLsb' 2 3
  match k with
  | 0 => s.indexOp d 0 va
  | 1 => s.indexOp d 1 va
  | 2 => s.indexOp d 2 va
  | 3 => s.indexOp d 3 va
  | 4 => .ok () (s.hitOp d 4 va pa)
  | 5 => if d then .ok () (s.hitOp true 5 va pa) else s.fillLine false false va pa
  | 6 => if d then .ok () (s.hitOp true 6 va pa) else .ok () s
  | _ => s.fillLine d true va pa

end Sys2Proof.Machine
end

