-- ==== Sys2Proof/Machine/Debug.lean ====
section
/-! DEFINITION. Hardware breakpoints (spec/61_debug.md R901 to R904), CP0 watchpoints (R920 to R922), trace triggers
(R916), and the dseg region: dmseg (R891) and drseg (R892 to R900). -/

namespace Sys2Proof.Machine

/-! ## Trace triggers (R134, R916) -/

/-- The effect of the triggers of one cycle, in the step with draw number `now` (R916): an 'on' wins over any 'off';
codes 2 and 6 trace this instruction alone. What the spec leaves open is a DESIGN CHOICE (log 46): an 'arm' wins over a
'disarm' of the same cycle, and codes 4, 5, 6 test `armed` as it was before the cycle. -/
def Dbg.applyTriggers (d : Dbg) (now : Nat) (codes : List (BitVec 3)) : Dbg :=
  let on := codes.any (fun c => c = 1 || (c = 5 && d.armed))
  let off := codes.any (fun c => c = 0 || (c = 4 && d.armed))
  { d with
    tracing := if on then true else if off then false else d.tracing
    triggered := d.triggered || !codes.isEmpty
    armed := if codes.any (fun c => c = 3) then true else if codes.any (fun c => c = 7) then false else d.armed
    traceOnce := if codes.any (fun c => c = 2 || (c = 6 && d.armed)) then some now else d.traceOnce }

/-- Whether a breakpoint is a trace trigger (R916). -/
def Dbg.anyTrigger (d : Dbg) : Bool :=
  (List.finRange 4).any (fun i => (d.ib.get i).ctl.getLsbD 2) || (List.finRange 2).any (fun i => (d.db.get i).ctl.getLsbD 2)

/-- Whether trace is on for instructions, before the mode and ASID test (R916): as the triggers left it, and before any
trigger fired where no breakpoint is one (log 40). -/
def Dbg.tracingNow (d : Dbg) : Bool := if d.triggered then d.tracing else !d.anyTrigger

/-- `ModeOK` of R916 for the five mode bits, as its formula stands: in debug mode with `EXL` or `ERL` set `E` is enough,
where R880 asks for `D` (DESIGN CHOICE, log 40). -/
def State.modeOk (s : State) (t : ProbeTrace) : Bool :=
  (s.mode? = some .debug && t.d) || ((s.exl || s.erl) && t.e) || (s.mode? = some .kernel && t.k)
    || (s.mode? = some .supervisor && t.s) || (s.mode? = some .user && t.u)

/-- The fields of `TraceControl` that R916 reads (R131). -/
def traceFields (w : Word) : ProbeTrace where
  on := w.getLsbD 0
  d := w.getLsbD 25
  e := w.getLsbD 24
  k := w.getLsbD 23
  s := w.getLsbD 22
  u := w.getLsbD 21
  g := w.getLsbD 4
  asid := w.extractLsb' 5 8

/-- `Enabled` of R916: software's control with `TraceControl[TS]`, else the probe's, which compares the whole ASID. -/
def State.traceEnabled (s : State) : Bool :=
  let w := (s.view .trace).cp0.traceControl
  let soft := w.getLsbD 31
  let t := if soft then traceFields w else s.dbg.probeTrace
  let m : Byte := if soft then w.extractLsb' 13 8 else 0xFF
  s.cfg.hasTrace && t.on && s.modeOk t && (t.g || ((t.asid ^^^ s.currentAsid) &&& m) = 0)

/-- Whether the instruction of a step from `s` to `s1` is traced (R916): what a trace port would show. No step reads it. -/
def State.traced (s s1 : State) : Bool :=
  s.traceEnabled && (s1.dbg.tracingNow || s1.dbg.traceOnce = some s1.freeCtr)

/-! ## What breakpoints and watchpoints compare (R974) -/

/-- The byte order of the data access of an instruction (R500), as the access sees `Status` (R974). -/
def State.bigAccess (s : State) : Bool := (s.view .data).bigData

/-- The state a breakpoint or watchpoint compares an access of consumer `c` with: the watch and breakpoint registers as
`c` sees them (R974), everything else, the ASID and `Status` too, as it is, since the table names no other consumer. -/
def State.matchView (c : Consumer) (s : State) : State :=
  let v := s.view c
  { s with cp0 := { s.cp0 with watchLo := v.cp0.watchLo, watchHi := v.cp0.watchHi }, dbg := v.dbg }

/-! ## Instruction breakpoints (R901) -/

/-- Whether a breakpoint's ASID part passes (R901, R902). -/
def asidPasses (cfg : Cfg) (ctl asidReg : Word) (asid : Byte) : Bool :=
  !(cfg.mmu = .tlb && ctl.getLsbD 23) || asidReg.setWidth 8 = asid

/-- `IMatch(n, pc)` (R901), over the registers as fetch sees them. -/
def State.iMatch (v : State) (n : Fin 4) (pc : Word) : Bool :=
  let b := v.dbg.ib.get n
  v.cfg.hasIBreak && !v.dm && b.ctl.getLsbD 0 && ((pc ^^^ b.addr) &&& ~~~b.mask) = 0
    && asidPasses v.cfg b.ctl b.asid v.currentAsid

/-- The three-bit trigger field of breakpoint `n` (R134, R135). -/
def bpcField (w : Word) (n : Nat) : BitVec 3 := w.extractLsb' (3 * n) 3

/-- Instruction breakpoints on a fetch (R901, R903): none, or the state with status bits and triggers recorded. -/
def State.checkIBreak (s : State) (pc : Word) : Option State :=
  let v := s.matchView .fetch
  let ms := (List.finRange 4).filter (fun n : Fin 4 => v.iMatch n pc)
  if ms = [] then none
  else
    let d := { s.dbg with ibs := ms.foldl (fun (w : BitVec 4) (n : Fin 4) => w ||| (1#4 <<< n.val)) s.dbg.ibs }
    let bpc := (s.view .trace).cp0.traceIBPC
    let codes :=
      if bpc.getLsbD 28 then
        (ms.filter (fun n => (v.dbg.ib.get n).ctl.getLsbD 2)).map (fun n : Fin 4 => bpcField bpc n.val)
      else []
    some { s with dbg := d.applyTriggers s.freeCtr codes }

/-! ## Data breakpoints (R902, R904) -/

/-- The byte lane of an address in the doubleword (R902). -/
def laneOf (big : Bool) (a : Nat) : Nat := if big then 7 - a % 8 else a % 8

/-- The lanes of `n` bytes from `a` (R902). -/
def lanesOf (big : Bool) (a n : Nat) : List Nat := (List.range n).map (fun i => laneOf big (a + i))

/-- `DBCn[BLM]`. -/
def DBreak.blm (b : DBreak) : Byte := b.ctl.extractLsb' 4 8

/-- `DAddrMatch(n)` (R902) of an access in byte order `big`. -/
def State.dAddrMatch (v : State) (big : Bool) (n : Fin 2) (store : Bool) (va : Word) (size : Nat) : Bool :=
  let b := v.dbg.db.get n
  v.cfg.hasDBreak && !v.dm && b.ctl.getLsbD 0 && ((va ^^^ b.addr) &&& ~~~b.mask) = 0
    && asidPasses v.cfg b.ctl b.asid v.currentAsid
    && !(b.ctl.getLsbD (if store then 13 else 12))
    && (lanesOf big va.toNat size).any (fun l => !b.ctl.getLsbD (14 + l))

/-- `DValueMatch(n, d)` (R902): every compared lane is carried by the access and holds the value. -/
def DBreak.valueMatch (b : DBreak) (big : Bool) (a : Nat) (bs : List Byte) : Bool :=
  (List.range 8).all (fun l =>
    b.blm.getLsbD l ||
      ((List.range bs.length).any (fun i =>
        laneOf big (a + i) = l && bs[i]? = some ((b.valHi ++ b.val : DWord).extractLsb' (8 * l) 8))))

/-- Record matched data breakpoints: status bits and triggers (R903, R916). -/
def State.recordDBreak (s : State) (ms : List (Fin 2)) : State :=
  let d := { s.dbg with dbs := ms.foldl (fun (w : BitVec 2) (n : Fin 2) => w ||| (1#2 <<< n.val)) s.dbg.dbs }
  let bpc := (s.view .trace).cp0.traceDBPC
  let codes :=
    if bpc.getLsbD 28 then
      (ms.filter (fun n => ((s.matchView .data).dbg.db.get n).ctl.getLsbD 2)).map (fun n : Fin 2 => bpcField bpc n.val)
    else []
  { s with dbg := d.applyTriggers s.freeCtr codes }

/-- Precise data breaks of an access (R902): address-only breakpoints. -/
def State.preciseBreaks (s : State) (store : Bool) (va : Word) (size : Nat) : List (Fin 2) :=
  let v := s.matchView .data
  (List.finRange 2).filter (fun n => v.dAddrMatch s.bigAccess n store va size && (v.dbg.db.get n).blm = 0xFF)

/-- Value breaks of an access whose bytes are known (R902, R904). -/
def State.valueBreaks (s : State) (store : Bool) (va : Word) (bs : List Byte) : List (Fin 2) :=
  let v := s.matchView .data
  (List.finRange 2).filter (fun n =>
    v.dAddrMatch s.bigAccess n store va bs.length && (v.dbg.db.get n).blm ≠ 0xFF
      && (v.dbg.db.get n).valueMatch s.bigAccess va.toNat bs)

/-- After an access: a matching value break becomes pending beside those that already are, at a boundary the environment
picks in the window (R904; log 7, 20). `s` is the state before the access, `s1` the state after. -/
def State.noteValueBreak (s s1 : State) (store : Bool) (dest : LoadDest) (va : Word) (bs : List Byte) : State :=
  match s.valueBreaks store va bs with
  | [] => s1
  | ms =>
    let s2 := s1.recordDBreak ms
    let left := s2.choice % (s2.cfg.impreciseBreakWindow + 1)
    { s2.dropChoice with dbg := { s2.dbg with pendBreaks := s2.dbg.pendBreaks ++ [⟨store, dest, left⟩] } }

/-! ## Watchpoints (R921, R922) -/

/-- Address and ASID part of a watch match (R921). -/
def State.watchAddr (v : State) (i : Fin 4) (va : Word) : Bool :=
  let lo := v.cp0.watchLo.get i
  let hi := v.cp0.watchHi.get i
  ((va ^^^ lo) &&& ~~~(hi &&& 0x00000FF8) &&& 0xFFFFFFF8) = 0 && (hi.getLsbD 30 || hi.extractLsb' 16 8 = v.currentAsid)

/-- `WMatch(i, va, k)` (R921) of an access with bytes in the doublewords of the addresses `vas`: bit 2 of `WatchLo`
enables fetches, bit 1 loads, bit 0 stores. -/
def State.wMatch (v : State) (i : Fin 4) (kind : Nat) (vas : List Word) : Bool :=
  !v.dm && (v.cp0.watchLo.get i).getLsbD kind && vas.any (fun va => v.watchAddr i va)

/-- Set bit `kind` of `WatchHi i` where pair `i` matched. -/
def State.markWatch (v s : State) (i : Fin 4) (kind : Nat) (vas : List Word) : State :=
  if v.wMatch i kind vas then
    { s with cp0 := { s.cp0 with watchHi := s.cp0.watchHi.set i (s.cp0.watchHi.get i ||| bitAt kind true) } }
  else s

/-- The watchpoint check of an access by the pairs `i`, `j`: on a match the Watch exception, or with `EXL` or `ERL` set
the deferral in `Cause[WP]` (R921, R922). -/
def State.checkWatch (s : State) (c : Consumer) (i j : Fin 4) (kind : Nat) (vas : List Word) : Res Unit :=
  let v := s.matchView c
  if v.wMatch i kind vas || v.wMatch j kind vas then
    let s1 := v.markWatch (v.markWatch s i kind vas) j kind vas
    if s.exl || s.erl then .ok () { s1 with cp0 := { s1.cp0 with cause := s1.cp0.cause ||| 0x00400000 } }
    else .exc .watch s1
  else .ok () s

/-! ## dmseg: served by the probe (R891) -/

/-- `Psz` (R907). -/
def pszOf (n : Nat) : BitVec 2 := if n = 1 then 0 else if n = 2 then 1 else if n = 4 then 2 else 3

/-- The registers of a dmseg transfer: `PrAcc` is 0 again once the probe has served it (R891, R907). -/
def State.probeTransfer (s : State) (store : Bool) (va : Word) (n : Nat) (data : Word) : State :=
  { s with dbg := { s.dbg with
      ejtagControl := merge s.dbg.ejtagControl
        (((pszOf n).setWidth 32 <<< 29) ||| bitAt 19 store) 0x600C0000
      ejtagAddress := va
      ejtagData := data } }

/-- A dmseg access the probe has not answered yet: transfer `k` stands requested with `PrAcc` set (R891). -/
def State.probeRequest (s : State) (store : Bool) (va : Word) (k n : Nat) (data : Word) : State :=
  let s1 := s.probeTransfer store va n data
  { s1 with dbg := { s1.dbg with ejtagControl := s1.dbg.ejtagControl ||| bitAt 18 true, asked := k } }

/-- The word the probe left in `EJTAG_DATA` when it completed transfer `k` of the instruction in progress (R891). -/
def Dbg.servedWord (d : Dbg) (k : Nat) : Option Word := (d.served.find? (fun p => p.1 = k)).map (fun p => p.2)

/-- `n` bytes at an address out of a word in its byte lanes. -/
def lanesOut (big : Bool) (va : Word) (n : Nat) (w : Word) : List Byte :=
  ((natToBytes big 4 w.toNat).drop (va.toNat % 4)).take n

/-- A read from dmseg (R891), transfer `k` of its instruction: the core waits until the probe clears `PrAcc`, then reads
`EJTAG_DATA`; or, where the probe answers at once, its next word or a free one. -/
def State.dmsegRead (s : State) (va : Word) (k n : Nat) : Res (List Byte) :=
  match s.dbg.servedWord k with
  | some w => .ok (lanesOut s.cfg.bigEndian va n w) s
  | none =>
    if !s.dbg.probeAnswers then .wait (s.probeRequest false va k n s.dbg.ejtagData)
    else
      let w := s.dbg.probeReplies.headD (Config.free32 s.freeCtr (.probeWord k))
      let s1 := s.probeTransfer false va n w
      .ok (lanesOut s.cfg.bigEndian va n w) { s1 with dbg := { s1.dbg with probeReplies := s.dbg.probeReplies.tail } }

/-- A write to dmseg (R891), transfer `k` of its instruction: the store data in its byte lanes of `EJTAG_DATA`; the core
waits until the probe clears `PrAcc`. -/
def State.dmsegWrite (s : State) (va : Word) (k : Nat) (bs : List Byte) : Res Unit :=
  let old := natToBytes s.cfg.bigEndian 4 s.dbg.ejtagData.toNat
  let off := va.toNat % 4
  let w := BitVec.ofNat 32 (bytesToNat s.cfg.bigEndian (old.take off ++ bs ++ old.drop (off + bs.length)))
  match s.dbg.servedWord k with
  | some _ => .ok () s
  | none =>
    if !s.dbg.probeAnswers then .wait (s.probeRequest true va k bs.length w)
    else .ok () (s.probeTransfer true va bs.length w)

/-! ## drseg: the debug unit's registers (R892 to R900) -/

/-- `DCR` as read (R895). -/
def State.dcrRead (s : State) : Word :=
  s.dbg.dcr ||| bitAt 29 s.cfg.bigEndian ||| bitAt 17 s.cfg.hasDBreak ||| bitAt 16 s.cfg.hasIBreak
    ||| bitAt 9 s.cfg.pcSampling ||| bitAt 0 s.probEn

/-- The register at a drseg offset, if there is one and it is fitted (R892). -/
def State.drsegRead (s : State) (off : Nat) : Option Word :=
  if off = 0 then some s.dcrRead
  else if off = 0x1000 then
    if s.cfg.hasIBreak then some (bitAt 30 (s.cfg.mmu = .tlb) ||| 0x04000000 ||| s.dbg.ibs.setWidth 32) else none
  else if off = 0x2000 then
    if s.cfg.hasDBreak then some (bitAt 30 (s.cfg.mmu = .tlb) ||| 0x02000000 ||| s.dbg.dbs.setWidth 32) else none
  else if off < 0x2000 && !s.cfg.hasIBreak then none
  else if off ≥ 0x2000 && !s.cfg.hasDBreak then none
  else s.dbg.drsegGet off

/-- The writable bits of a breakpoint register (R898 to R900). On a fixed-mapping core `ASIDuse` of `DBCn` reads 0, as
R898 says of `IBCn` (DESIGN CHOICE, log 52). -/
def drsegMask (cfg : Cfg) (off : Nat) : Word :=
  let k := off % 0x100
  if k = 0x10 then 0x000000FF
  else if k = 0x18 then
    (if off < 0x2000 then 0x00000005 else 0x003FFFF5) ||| bitAt 23 (cfg.mmu = .tlb)
  else 0xFFFFFFFF

/-- A store to a drseg register (R892 to R900); breakpoint registers are subject to the hazard of R974. -/
def State.drsegWrite (s : State) (va : Word) (w : Word) : Option State :=
  let off := va.toNat % 0x100000
  match s.drsegRead off with
  | none => none
  | some _ =>
    if off = 0 then some { s with dbg := { s.dbg with dcr := merge s.dbg.dcr w 0x000001DA } }
    else if off = 0x1000 then some { s with dbg := { s.dbg with ibs := s.dbg.ibs &&& w.setWidth 4 } }
    else if off = 0x2000 then some { s with dbg := { s.dbg with dbs := s.dbg.dbs &&& w.setWidth 2 } }
    else
      match s.dbg.drsegGet off with
      | none => none
      | some old => some ({ s with dbg := s.dbg.drsegPut off (w &&& drsegMask s.cfg off) }.pushHazard (.drseg va old))

/-- A load from dseg (R890 to R892): transfer `k` of its instruction. -/
def State.dsegLoad (s : State) (r : Dseg) (va : Word) (k n : Nat) : Res (List Byte) :=
  match r with
  | .dmseg => s.dmsegRead va k n
  | .drseg =>
    if n ≠ 4 then .ref .drsegAccess
    else
      match s.drsegRead (va.toNat % 0x100000) with
      | none => .ref .drsegAccess
      | some w => .ok (natToBytes s.cfg.bigEndian 4 w.toNat) s

/-- A store to dseg (R890 to R892): transfer `k` of its instruction. -/
def State.dsegStore (s : State) (r : Dseg) (va : Word) (k : Nat) (bs : List Byte) : Res Unit :=
  match r with
  | .dmseg => s.dmsegWrite va k bs
  | .drseg =>
    if bs.length ≠ 4 then .ref .drsegAccess
    else
      match s.drsegWrite va (BitVec.ofNat 32 (bytesToNat s.cfg.bigEndian bs)) with
      | none => .ref .drsegAccess
      | some s1 => .ok () s1

end Sys2Proof.Machine
end

