-- ==== Sys2Proof/Machine/Access.lean ====
section
/-! DEFINITION. A load or store of an instruction as a whole (spec/43_load_store.md R500, spec/20_memory.md R236):
breakpoints and watchpoints, alignment, translation, the access; and the fetch of an instruction word (R237). -/

namespace Sys2Proof.Machine

/-- One data access: the address the instruction computed, the first byte accessed, how many bytes (R500, R902). -/
structure DataAccess where
  va : Word
  first : Word
  size : Nat
  /-- The natural size the address must be a multiple of (R234). -/
  align : Nat
  /-- An access of `ll` or `sc`: refused where uncached (U35). -/
  linked : Bool := false

/-- An access of `n` bytes at a naturally aligned address (R234). -/
def naturalAccess (va : Word) (n : Nat) : DataAccess := ⟨va, va, n, n, false⟩

/-- The first and the last byte of an access: one in each doubleword it touches (R921), also where it is misaligned. -/
def DataAccess.ends (a : DataAccess) : List Word := [a.first, a.first + BitVec.ofNat 32 (a.size - 1)]

/-- The checks before the access is performed, in the order of R236: precise data break, watch, alignment. `broken` is
false where a data break does not apply (a failing `sc`, R902). -/
def State.dataChecks (s : State) (store broken : Bool) (a : DataAccess) : Res Unit :=
  let ms := if broken then s.preciseBreaks store a.first a.size else []
  if ms ≠ [] then .exc (.debug (if store then 0x00000008 else 0x00000004)) (s.recordDBreak ms)
  else
    (s.checkWatch .data 2 3 (if store then 0 else 1) a.ends).andThen fun _ s1 =>
      if a.va.toNat % a.align ≠ 0 then .exc (.addrError store a.va) s1 else .ok () s1

/-- Read the bytes of an access: one part inside a word, or two words for a 64-bit access, the lower address first
(R235, D42; log 21); none where a read failed (R246). -/
def State.readParts (s : State) (va pa : Word) (cca : BitVec 3) (n : Nat) : Res (Option (List Byte)) :=
  if n = 8 then
    (s.readPart va pa cca 4).andThen fun b0 s1 =>
      (s1.readPart (va + 4) (pa + 4) cca 4).andThen fun b1 s2 =>
        .ok (b0.bind (fun l => b1.map (fun m => l ++ m))) s2
  else s.readPart va pa cca n

/-- Write the bytes of an access, as `readParts`. -/
def State.writeParts (s : State) (va pa : Word) (cca : BitVec 3) (whole : Bool) (bs : List Byte) : Res Unit :=
  if bs.length = 8 then
    (s.writePart va pa cca whole (bs.take 4)).andThen fun _ s1 =>
      s1.writePart (va + 4) (pa + 4) cca whole (bs.drop 4)
  else s.writePart va pa cca whole bs

/-- The same for dseg; the fetch is transfer 0 of an instruction, the parts of its data access are 1 and 2. -/
def State.dsegReadParts (s : State) (r : Dseg) (va : Word) (n : Nat) : Res (List Byte) :=
  if n = 8 && r = .dmseg then
    (s.dsegLoad r va 1 4).andThen fun b0 s1 =>
      (s1.dsegLoad r (va + 4) 2 4).andThen fun b1 s2 => .ok (b0 ++ b1) s2
  else s.dsegLoad r va 1 n

/-- The same for dseg. -/
def State.dsegWriteParts (s : State) (r : Dseg) (va : Word) (bs : List Byte) : Res Unit :=
  if bs.length = 8 && r = .dmseg then
    (s.dsegStore r va 1 (bs.take 4)).andThen fun _ s1 => s1.dsegStore r (va + 4) 2 (bs.drop 4)
  else s.dsegStore r va 1 bs

/-- A data translation may only be used where the code has a meaning (R207, D33), by `ll` and `sc` where it is cached
(U35). -/
def State.translateData (s : State) (k : AccKind) (linked : Bool) (va : Word) : Res (Word × BitVec 3) :=
  (s.translate k va).andThen fun p s1 =>
    if ccaReserved p.2 then .ref .reservedCacheability
    else if linked && !ccaCached p.2 then .ref .llscUncached
    else .ok p s1

/-- Where a data access goes once its checks passed: dseg, or a physical address and a cacheability code. -/
inductive Place where
  | dseg (r : Dseg)
  | phys (pa : Word) (cca : BitVec 3)

/-- The place of a data access (R203, R210); `ll` and `sc` to dseg are uncached (U35). -/
def State.placeOf (s : State) (k : AccKind) (a : DataAccess) : Res Place :=
  match s.dsegOf k a.first with
  | some r => if a.linked then .ref .llscUncached else .ok (.dseg r) s
  | none => (s.translateData k a.linked a.va).andThen fun p s1 => .ok (.phys (p.1 - a.va + a.first) p.2) s1

/-- The bytes of a load, from the lowest address up (R500 steps 1 to 4), or none where the bus answered its read with an
error (R246). `dest` is what it loads (R904). -/
def State.loadBytes (s : State) (a : DataAccess) (dest : LoadDest) : Res (Option (List Byte)) :=
  (s.dataChecks false true a).andThen fun _ s1 =>
    ((s1.placeOf .load a).andThen fun p s2 =>
      match p with
      | .dseg r => (s2.dsegReadParts r a.first a.size).andThen fun bs s3 => .ok (some bs) s3
      | .phys pa cca => s2.readParts a.first pa cca a.size).andThen fun bs s3 =>
      .ok bs (s.noteValueBreak { s3 with llTouched := true } false dest a.first (bs.getD (s.freeBytes 0 a.size)))

/-- What a word of the destination register of a load holds after a failed read (R246, D21). -/
def State.failedLoad (s : State) (high : Bool) : Word := Config.free32 s.freeCtr (.failedLoad high)

/-- Perform a store of the given bytes, from the lowest address up (R500 steps 1 to 4). -/
def State.storeBytes (s : State) (a : DataAccess) (whole : Bool) (bs : List Byte) : Res Unit :=
  (s.dataChecks true true a).andThen fun _ s1 =>
    ((s1.placeOf .store a).andThen fun p s2 =>
      match p with
      | .dseg r => s2.dsegWriteParts r a.first bs
      | .phys pa cca => s2.writeParts a.first pa cca whole bs).andThen fun _ s3 =>
      .ok () (s.noteValueBreak { s3 with llTouched := true } true .none a.first bs)

/-- `MemRead(va, n)` as a number (R230); none where the read failed (R246). -/
def State.memRead (s : State) (va : Word) (n : Nat) (dest : LoadDest) : Res (Option Nat) :=
  (s.loadBytes (naturalAccess va n) dest).andThen fun bs s1 => .ok (bs.map (bytesToNat s.bigAccess)) s1

/-- `MemWrite(va, n, v)` (R230). -/
def State.memWrite (s : State) (va : Word) (n : Nat) (v : Nat) : Res Unit :=
  s.storeBytes (naturalAccess va n) (n % 4 = 0) (natToBytes s.bigAccess n v)

/-! ## Fetch (R237, R246) -/

/-- A cache error of a fetch comes before the fetch reads anything (item 13 of R820). -/
def State.cacheErrorFirst {α : Type} (s : State) (k : Res α) : Res α :=
  if s.pendCacheErr then .exc .cacheError { s with pendCacheErr := false } else k

/-- The instruction word at an address, after the checks of items 9 to 14 of R820. Of a fetch from drseg R892 says
nothing, as it names only word loads and stores, and the model refuses it (DESIGN CHOICE, log 53). -/
def State.fetchWord (s : State) (pc : Word) : Res Word :=
  match s.checkIBreak pc with
  | some s1 => .exc (.debug 0x00000010) s1
  | none =>
    (s.checkWatch .fetch 0 1 2 [pc]).andThen fun _ s1 =>
      if pc.toNat % 4 ≠ 0 then .exc (.addrError false pc) s1
      else
        match s1.dsegOf .fetch pc with
        | some .dmseg =>
          (s1.cacheErrorFirst (s1.dmsegRead pc 0 4)).andThen fun bs s2 =>
            .ok (BitVec.ofNat 32 (bytesToNat s.cfg.bigEndian bs)) s2
        | some .drseg => s1.cacheErrorFirst (.ref .drsegAccess)
        | none =>
          (s1.translate .fetch pc).andThen fun p s2 =>
            (s2.cacheErrorFirst (s2.fetchPart pc p.1 p.2)).andThen fun bs s3 =>
              match bs with
              | some bs => .ok (BitVec.ofNat 32 (bytesToNat s.cfg.bigEndian bs)) s3
              | none => .exc .ibe s3

end Sys2Proof.Machine
end

