-- ==== Sys2Proof/Machine/Cp0.lean ====
section
/-! DEFINITION. Reading and writing the CP0 registers, field by field (spec/11_cp0_registers.md R80 to R150,
spec/44_system.md R578, R579). -/

namespace Sys2Proof.Machine

/-- The register a number and a select name (R81); none for the pairs R150 says are no registers. -/
def cpRegOf (rd : Reg) (sel : BitVec 3) : Option CpReg :=
  match rd.toNat, sel.toNat with
  | 0, 0 => some .index
  | 1, 0 => some .random
  | 2, 0 => some .entryLo0
  | 3, 0 => some .entryLo1
  | 4, 0 => some .context
  | 5, 0 => some .pageMask
  | 6, 0 => some .wired
  | 7, 0 => some .hwrena
  | 8, 0 => some .badVAddr
  | 9, 0 => some .count
  | 10, 0 => some .entryHi
  | 11, 0 => some .compare
  | 12, 0 => some .status
  | 12, 1 => some .intCtl
  | 12, 2 => some .srsCtl
  | 12, 3 => some .srsMap
  | 13, 0 => some .cause
  | 14, 0 => some .epc
  | 15, 0 => some .prid
  | 15, 1 => some .ebase
  | 16, 0 => some .config
  | 16, 1 => some .config1
  | 16, 2 => some .config2
  | 16, 3 => some .config3
  | 16, 7 => some .config7
  | 18, 0 => some (.watchLo 0)
  | 18, 1 => some (.watchLo 1)
  | 18, 2 => some (.watchLo 2)
  | 18, 3 => some (.watchLo 3)
  | 19, 0 => some (.watchHi 0)
  | 19, 1 => some (.watchHi 1)
  | 19, 2 => some (.watchHi 2)
  | 19, 3 => some (.watchHi 3)
  | 23, 0 => some .debug
  | 23, 1 => some .traceControl
  | 23, 2 => some .traceControl2
  | 23, 3 => some .userTraceData
  | 23, 4 => some .traceIBPC
  | 23, 5 => some .traceDBPC
  | 24, 0 => some .depc
  | 25, 0 => some .perfCtl0
  | 25, 1 => some .perfCnt0
  | 25, 2 => some .perfCtl1
  | 25, 3 => some .perfCnt1
  | 26, 0 => some .errCtl
  | 27, 0 => some .cacheErr
  | 28, 0 => some .tagLo0
  | 28, 1 => some .dataLo0
  | 28, 2 => some .tagLo1
  | 28, 3 => some .dataLo1
  | 28, 4 => some .tagLo2
  | 28, 5 => some .dataLo2
  | 29, 0 => some .dataHi0
  | 30, 0 => some .errorEPC
  | 31, 0 => some .desave
  | _, _ => none

/-- Whether the core as configured has a register (R150): the TLB, trace, breakpoint and counter registers may be
absent. -/
def cpPresent (cfg : Cfg) : CpReg → Bool
  | .index => cfg.mmu = .tlb
  | .random => cfg.mmu = .tlb
  | .entryLo0 => cfg.mmu = .tlb
  | .entryLo1 => cfg.mmu = .tlb
  | .context => cfg.mmu = .tlb
  | .pageMask => cfg.mmu = .tlb
  | .wired => cfg.mmu = .tlb
  | .entryHi => cfg.mmu = .tlb
  | .srsMap => cfg.numShadowSets > 1
  | .traceControl => cfg.hasTrace
  | .traceControl2 => cfg.hasTrace
  | .userTraceData => cfg.hasTrace
  | .traceIBPC => cfg.hasTrace && (cfg.hasIBreak || cfg.hasDBreak)
  | .traceDBPC => cfg.hasTrace && (cfg.hasIBreak || cfg.hasDBreak)
  | .perfCtl0 => cfg.numPerfCounters ≥ 1
  | .perfCnt0 => cfg.numPerfCounters ≥ 1
  | .perfCtl1 => cfg.numPerfCounters ≥ 2
  | .perfCnt1 => cfg.numPerfCounters ≥ 2
  | _ => true

/-- The bits of `Index`, `Wired`: `ceil(log2 N)` of them (R83). -/
def indexMask (n : Nat) : Word :=
  if n ≤ 1 then 0 else if n ≤ 2 then 1 else if n ≤ 4 then 3 else if n ≤ 8 then 7 else if n ≤ 16 then 15
  else if n ≤ 32 then 31 else 63

/-- The bits of a register that `mtc0` writes plainly (the R/W fields of each field table). R142 and R143 give the bits of
`TagLo` they do not describe no access: bits 11:10, and in way-select mode 31:24, 7:5 and 0, are stored as R/W fields
(DESIGN CHOICE, log 55). -/
def cpWriteMask (cfg : Cfg) : CpReg → Word
  | .index => indexMask cfg.tlbEntries
  | .entryLo0 => 0x03FFFFFF
  | .entryLo1 => 0x03FFFFFF
  | .context => 0xFF800000
  | .pageMask => 0x1FFFE000
  | .wired => indexMask cfg.tlbEntries
  | .hwrena => 0x0000000F
  | .count => 0xFFFFFFFF
  | .entryHi => 0xFFFFE0FF
  | .compare => 0xFFFFFFFF
  | .status => if cfg.hasFPU then 0x7E42FF1F else 0x7A42FF1F
  | .intCtl => 0x000003E0
  | .srsCtl => 0x0000F3C0
  | .srsMap => 0xFFFFFFFF
  | .cause => 0x08800300
  | .epc => 0xFFFFFFFF
  | .ebase => 0x3FFFF000
  | .config => if cfg.mmu = .fmt then 0x7E040007 else 0x00040007
  | .config7 => 0x0000011F
  | .watchLo i => if i.val < 2 then 0xFFFFFFFC else 0xFFFFFFFB
  | .watchHi _ => 0x40FF0FF8
  | .debug => 0x12100100
  | .traceControl => 0xDFFFFFFF
  | .traceControl2 => 0x00000F80
  | .userTraceData => 0xFFFFFFFF
  | .traceIBPC => 0x10000FFF
  | .traceDBPC => 0x1000003F
  | .depc => 0xFFFFFFFF
  | .perfCtl0 => 0x000007FF
  | .perfCtl1 => 0x000007FF
  | .perfCnt0 => 0xFFFFFFFF
  | .perfCnt1 => 0xFFFFFFFF
  | .errCtl => if cfg.cacheParity then 0xF807FFFF else 0x7807FFFF
  | .tagLo0 => 0xFFFFFCE1
  | .tagLo1 => 0xFFFFFCE1
  | .tagLo2 => 0xFFFFFFFF
  | .dataLo0 => 0xFFFFFFFF
  | .dataLo1 => 0xFFFFFFFF
  | .dataLo2 => 0xFFFFFFFF
  | .dataHi0 => 0xFFFFFFFF
  | .errorEPC => 0xFFFFFFFF
  | .desave => 0xFFFFFFFF
  | .random => 0
  | .badVAddr => 0
  | .prid => 0
  | .config1 => 0
  | .config2 => 0
  | .config3 => 0
  | .cacheErr => 0

/-- The bits software can only clear by writing 0: `Status[TS]`, `Status[NMI]`, `Cause[WP]` (R97, R107). -/
def cpClearMask : CpReg → Word
  | .status => 0x00280000
  | .cause => 0x00400000
  | _ => 0

/-- The bits software clears by writing 1: the match bits of `WatchHi` (R127). -/
def cpOneClearMask : CpReg → Word
  | .watchHi _ => 0x00000007
  | _ => 0

/-- The stored word after `mtc0` of `w` (R82, R579): R/W fields take `w`, the others keep their value. -/
def cpNewWord (cfg : Cfg) (r : CpReg) (old w : Word) : Word :=
  (merge old w (cpWriteMask cfg r)) &&& ~~~(cpClearMask r &&& ~~~w) &&& ~~~(cpOneClearMask r &&& w)

/-- The bits `mtc0` of `w` writes (R82): the R/W fields, and of the others those that this value clears. -/
def cpWrote (cfg : Cfg) (r : CpReg) (w : Word) : Word :=
  cpWriteMask cfg r ||| (cpClearMask r &&& ~~~w) ||| (cpOneClearMask r &&& w)

/-- The constant bits of a register that the configuration fixes (R102, R103, R118 to R124, R132, R134, R137). -/
def cpConst (cfg : Cfg) : CpReg → Word
  | .intCtl => (cfg.ipti ++ cfg.ippci ++ 0#26 : Word)
  | .srsCtl => BitVec.ofNat 32 (cfg.numShadowSets - 1) <<< 26
  | .prid => cfg.pridOptions ++ cfg.pridCompany ++ 0x93#8 ++ cfg.pridRevision
  | .ebase => 0x80000000 ||| cfg.cpuNum.setWidth 32
  | .config =>
    0x80000400 ||| bitAt 24 cfg.hasISPRAM ||| bitAt 23 cfg.hasDSPRAM ||| bitAt 22 cfg.hasCorExtend
      ||| bitAt 21 cfg.simpleBE ||| bitAt 16 cfg.burstMode ||| bitAt 15 cfg.bigEndian
      ||| (if cfg.mmu = .tlb then 0x00000080 else 0x00000180)
  | .config1 =>
    0x8000000E ||| (BitVec.ofNat 32 (if cfg.mmu = .tlb then cfg.tlbEntries - 1 else 0) <<< 25)
      ||| (cfg.icSets.setWidth 32 <<< 22) ||| (cfg.icLine.setWidth 32 <<< 19) ||| (cfg.icWays.setWidth 32 <<< 16)
      ||| (cfg.dcSets.setWidth 32 <<< 13) ||| (cfg.dcLine.setWidth 32 <<< 10) ||| (cfg.dcWays.setWidth 32 <<< 7)
      ||| bitAt 6 cfg.hasCP2 ||| bitAt 4 (cfg.numPerfCounters > 0) ||| bitAt 0 cfg.hasFPU
  | .config2 => 0x80000000
  | .config3 => 0x00000020 ||| bitAt 6 cfg.eicPresent ||| bitAt 0 cfg.hasTrace
  | .config7 => bitAt 17 cfg.fpuHalfRate ||| bitAt 16 cfg.dAliasFree
  | .traceControl2 =>
    (cfg.traceValidModes.setWidth 32 <<< 5) ||| bitAt 4 cfg.traceTBI ||| bitAt 3 cfg.traceTBU
      ||| cfg.traceSyP.setWidth 32
  | .traceIBPC => bitAt 27 cfg.traceATE
  | .perfCtl0 => bitAt 31 (cfg.numPerfCounters ≥ 2)
  | _ => 0

/-- A value in the range of `Random`: `Wired` to `TLBEntries - 1` (R84, D30); the stored value where the range is
empty (log 11). -/
def State.drawRandom (s : State) (wired : Nat) : Nat :=
  let n := s.cfg.tlbEntries
  if wired < n then wired + Config.freeNat s.freeCtr .random % (n - wired) else s.cp0.random.toNat

/-- `Wired[Wired]`. -/
def wiredNat (w : Word) : Nat := w.toNat % 64

/-- `Cause` as read: the stored fields, `PCI`, and the requests `IP7-2` of R815 or the stored `RIPL` (R105 to R108). -/
def State.causeRead (s : State) (stored : Word) : Word :=
  let c := putBit stored 26 s.pciPending
  if s.cfg.eicPresent then c else merge c (s.ip.setWidth 32 <<< 8) 0x0000FC00

/-- `CP0Read` of a register (R578), as `mfc0` sees it (R974). -/
def State.cpRead (s : State) (r : CpReg) : Word :=
  if !cpPresent s.cfg r then 0
  else
    let w := (s.view .readReg).cp0.get r ||| cpConst s.cfg r
    match r with
    | .random => BitVec.ofNat 32 (s.drawRandom (wiredNat s.cp0.wired))
    | .cause => s.causeRead w
    | .cacheErr => Config.free32 s.freeCtr .cacheErr
    | _ => w

/-- The trace modes a unit has (R132). -/
def traceModesAllowed (v : BitVec 2) : Word := if v = 0 then 0x00000080 else if v = 1 then 0x00000380 else 0x00000F80

/-- Whether a write must be refused (U14, U18, U19, U41). -/
def State.cpWriteRefused (s : State) (r : CpReg) (w : Word) : Option Refusal :=
  match r with
  | .status => if w.getLsbD 17 && !s.cfg.hasCorExtend then some .ceeWithoutCorExtend else none
  | .cause => if w.getLsbD 22 && !s.wp then some .watchPendingSet else none
  | .traceControl2 =>
    if (w &&& 0x00000F80 &&& ~~~(traceModesAllowed s.cfg.traceValidModes)) ≠ 0 then some .traceMode else none
  | .debug => if s.dm then none else some .debugRegisterWrite
  | .depc => if s.dm then none else some .debugRegisterWrite
  | .desave => if s.dm then none else some .debugRegisterWrite
  | _ => none

/-- The side effects of a write (R579): `Compare` clears `Cause[TI]`, `Wired` resets `Random`. -/
def State.cpSideEffect (s : State) (r : CpReg) : State :=
  match r with
  | .compare => s.setCp .timerClear .cause 0x40000000 (s.cp0.cause &&& 0xBFFFFFFF)
  | .wired => { s with cp0 := { s.cp0 with random := BitVec.ofNat 32 (s.cfg.tlbEntries - 1) } }
  | _ => s

/-- `CP0Write` (R579): absent registers ignore the write. -/
def State.cpWrite (s : State) (r : CpReg) (w : Word) : Res Unit :=
  if !cpPresent s.cfg r then .ok () s
  else
    match s.cpWriteRefused r w with
    | some q => .ref q
    | none => .ok () ((s.setCp .mtc0 r (cpWrote s.cfg r w) (cpNewWord s.cfg r (s.cp0.get r) w)).cpSideEffect r)

end Sys2Proof.Machine
end

