-- ==== Sys2Proof/Machine/Alu.lean ====
section
/-! DEFINITION. Integer arithmetic, logic, shifts, conditional moves, bit fields (spec/40_alu.md R340 to R377). -/

namespace Sys2Proof.Machine

/-- Whether an exact sum or difference does not fit in 32 signed bits (R341, R342, R345). -/
def outOfRange (t : Int) : Bool := t < -2147483648 || 2147483647 < t

/-- Write a result and go on. -/
def State.put (s : State) (r : Reg) (v : Word) : Out := (s.writeGpr r v).advance

/-- Write a result unless the exact value overflows, which raises Integer Overflow (R341). -/
def State.putTrapping (s : State) (r : Reg) (exact : Int) (v : Word) : Out :=
  if outOfRange exact then s.raise .ov else s.put r v

/-- The number of leading bits equal to `b` among the `n` low bits of `w`, from bit `n - 1` down (R371, R372). -/
def countLeading (b : Bool) (w : Word) : Nat → Nat
  | 0 => 0
  | n + 1 => if w.getLsbD n = b then countLeading b w n + 1 else 0

/-- The word with the low `n + 1` bits 1 (R373). -/
def lowOnes (n : Nat) : Word := BitVec.ofNat 32 (2 ^ (n + 1) - 1)

/-- `x[rt][31:msb+1] :: x[rs][msb-lsb:0] :: x[rt][lsb-1:0]` (R374). -/
def insertField (old v : Word) (msb lsb : Nat) : Word := merge old (v <<< lsb) (lowOnes (msb - lsb) <<< lsb)

/-- Bytes swapped inside each halfword (R377). -/
def swapHalfBytes (w : Word) : Word :=
  w.extractLsb' 16 8 ++ w.extractLsb' 24 8 ++ w.extractLsb' 0 8 ++ w.extractLsb' 8 8

/-- `add rd, rs, rt` (R341). -/
def execAdd (rs : Reg) (rt : Reg) (rd : Reg) (s : State) : Out :=
  s.putTrapping rd ((s.readGpr rs).toInt + (s.readGpr rt).toInt) (s.readGpr rs + s.readGpr rt)

/-- `addi rt, rs, imm` (R342). -/
def execAddi (rs : Reg) (rt : Reg) (imm : BitVec 16) (s : State) : Out :=
  s.putTrapping rt ((s.readGpr rs).toInt + (sext16 imm).toInt) (s.readGpr rs + sext16 imm)

/-- `addiu rt, rs, imm` (R343). -/
def execAddiu (rs : Reg) (rt : Reg) (imm : BitVec 16) (s : State) : Out :=
  s.put rt (s.readGpr rs + sext16 imm)

/-- `addu rd, rs, rt` (R344). -/
def execAddu (rs : Reg) (rt : Reg) (rd : Reg) (s : State) : Out :=
  s.put rd (s.readGpr rs + s.readGpr rt)

/-- `sub rd, rs, rt` (R345). -/
def execSub (rs : Reg) (rt : Reg) (rd : Reg) (s : State) : Out :=
  s.putTrapping rd ((s.readGpr rs).toInt - (s.readGpr rt).toInt) (s.readGpr rs - s.readGpr rt)

/-- `subu rd, rs, rt` (R346). -/
def execSubu (rs : Reg) (rt : Reg) (rd : Reg) (s : State) : Out :=
  s.put rd (s.readGpr rs - s.readGpr rt)

/-- `and rd, rs, rt` (R347). -/
def execAnd (rs : Reg) (rt : Reg) (rd : Reg) (s : State) : Out :=
  s.put rd (s.readGpr rs &&& s.readGpr rt)

/-- `andi rt, rs, imm` (R348). -/
def execAndi (rs : Reg) (rt : Reg) (imm : BitVec 16) (s : State) : Out :=
  s.put rt (s.readGpr rs &&& zext16 imm)

/-- `or rd, rs, rt` (R349). -/
def execOr (rs : Reg) (rt : Reg) (rd : Reg) (s : State) : Out :=
  s.put rd (s.readGpr rs ||| s.readGpr rt)

/-- `ori rt, rs, imm` (R350). -/
def execOri (rs : Reg) (rt : Reg) (imm : BitVec 16) (s : State) : Out :=
  s.put rt (s.readGpr rs ||| zext16 imm)

/-- `xor rd, rs, rt` (R351). -/
def execXor (rs : Reg) (rt : Reg) (rd : Reg) (s : State) : Out :=
  s.put rd (s.readGpr rs ^^^ s.readGpr rt)

/-- `xori rt, rs, imm` (R352). -/
def execXori (rs : Reg) (rt : Reg) (imm : BitVec 16) (s : State) : Out :=
  s.put rt (s.readGpr rs ^^^ zext16 imm)

/-- `nor rd, rs, rt` (R353). -/
def execNor (rs : Reg) (rt : Reg) (rd : Reg) (s : State) : Out :=
  s.put rd (~~~(s.readGpr rs ||| s.readGpr rt))

/-- `lui rt, imm` (R354). -/
def execLui (rt : Reg) (imm : BitVec 16) (s : State) : Out :=
  s.put rt (imm ++ 0#16)

/-- `slt rd, rs, rt` (R355). -/
def execSlt (rs : Reg) (rt : Reg) (rd : Reg) (s : State) : Out :=
  s.put rd (boolWord ((s.readGpr rs).slt (s.readGpr rt)))

/-- `slti rt, rs, imm` (R356). -/
def execSlti (rs : Reg) (rt : Reg) (imm : BitVec 16) (s : State) : Out :=
  s.put rt (boolWord ((s.readGpr rs).slt (sext16 imm)))

/-- `sltu rd, rs, rt` (R357). -/
def execSltu (rs : Reg) (rt : Reg) (rd : Reg) (s : State) : Out :=
  s.put rd (boolWord ((s.readGpr rs).ult (s.readGpr rt)))

/-- `sltiu rt, rs, imm` (R358). -/
def execSltiu (rs : Reg) (rt : Reg) (imm : BitVec 16) (s : State) : Out :=
  s.put rt (boolWord ((s.readGpr rs).ult (sext16 imm)))

/-- `sll rd, rt, sa` (R359). -/
def execSll (rt : Reg) (rd : Reg) (sa : Reg) (s : State) : Out :=
  s.put rd (s.readGpr rt <<< sa.toNat)

/-- `srl rd, rt, sa` (R360). -/
def execSrl (rt : Reg) (rd : Reg) (sa : Reg) (s : State) : Out :=
  s.put rd (s.readGpr rt >>> sa.toNat)

/-- `sra rd, rt, sa` (R361). -/
def execSra (rt : Reg) (rd : Reg) (sa : Reg) (s : State) : Out :=
  s.put rd ((s.readGpr rt).sshiftRight sa.toNat)

/-- `sllv rd, rt, rs` (R362). -/
def execSllv (rs : Reg) (rt : Reg) (rd : Reg) (s : State) : Out :=
  s.put rd (s.readGpr rt <<< ((s.readGpr rs).toNat % 32))

/-- `srlv rd, rt, rs` (R363). -/
def execSrlv (rs : Reg) (rt : Reg) (rd : Reg) (s : State) : Out :=
  s.put rd (s.readGpr rt >>> ((s.readGpr rs).toNat % 32))

/-- `srav rd, rt, rs` (R364). -/
def execSrav (rs : Reg) (rt : Reg) (rd : Reg) (s : State) : Out :=
  s.put rd ((s.readGpr rt).sshiftRight ((s.readGpr rs).toNat % 32))

/-- `rotr rd, rt, sa` (R365). -/
def execRotr (rt : Reg) (rd : Reg) (sa : Reg) (s : State) : Out :=
  s.put rd ((s.readGpr rt).rotateRight sa.toNat)

/-- `rotrv rd, rt, rs` (R366). -/
def execRotrv (rs : Reg) (rt : Reg) (rd : Reg) (s : State) : Out :=
  s.put rd ((s.readGpr rt).rotateRight ((s.readGpr rs).toNat % 32))

/-- `movz rd, rs, rt` (R367). -/
def execMovz (rs : Reg) (rt : Reg) (rd : Reg) (s : State) : Out :=
  if s.readGpr rt = 0 then s.put rd (s.readGpr rs) else s.advance

/-- `movn rd, rs, rt` (R368). -/
def execMovn (rs : Reg) (rt : Reg) (rd : Reg) (s : State) : Out :=
  if s.readGpr rt ≠ 0 then s.put rd (s.readGpr rs) else s.advance

/-- `movf rd, rs, cc` (R369). -/
def execMovf (rs : Reg) (cc : BitVec 3) (rd : Reg) (s : State) : Out :=
  if !s.cp1Usable then s.raise (.cpu 1)
  else if s.fcc cc then s.advance else s.put rd (s.readGpr rs)

/-- `movt rd, rs, cc` (R370). -/
def execMovt (rs : Reg) (cc : BitVec 3) (rd : Reg) (s : State) : Out :=
  if !s.cp1Usable then s.raise (.cpu 1)
  else if s.fcc cc then s.put rd (s.readGpr rs) else s.advance

/-- `clz rd, rs` (R371); `rt` other than `rd` is refused (U39). -/
def execClz (rs : Reg) (rt : Reg) (rd : Reg) (s : State) : Out :=
  if rt ≠ rd then .refused .unpredictableOperands
  else s.put rd (BitVec.ofNat 32 (countLeading false (s.readGpr rs) 32))

/-- `clo rd, rs` (R372); `rt` other than `rd` is refused (U39). -/
def execClo (rs : Reg) (rt : Reg) (rd : Reg) (s : State) : Out :=
  if rt ≠ rd then .refused .unpredictableOperands
  else s.put rd (BitVec.ofNat 32 (countLeading true (s.readGpr rs) 32))

/-- `ext rt, rs, pos, size` (R373); a field outside the word is refused (U4). -/
def execExt (rs : Reg) (rt : Reg) (msb : Reg) (lsb : Reg) (s : State) : Out :=
  if lsb.toNat + msb.toNat > 31 then .refused .unpredictableOperands
  else s.put rt ((s.readGpr rs >>> lsb.toNat) &&& lowOnes msb.toNat)

/-- `ins rt, rs, pos, size` (R374); `lsb` above `msb` is refused (U4). -/
def execIns (rs : Reg) (rt : Reg) (msb : Reg) (lsb : Reg) (s : State) : Out :=
  if lsb.toNat > msb.toNat then .refused .unpredictableOperands
  else s.put rt (insertField (s.readGpr rt) (s.readGpr rs) msb.toNat lsb.toNat)

/-- `seb rd, rt` (R375). -/
def execSeb (rt : Reg) (rd : Reg) (s : State) : Out :=
  s.put rd (((s.readGpr rt).setWidth 8).signExtend 32)

/-- `seh rd, rt` (R376). -/
def execSeh (rt : Reg) (rd : Reg) (s : State) : Out :=
  s.put rd (((s.readGpr rt).setWidth 16).signExtend 32)

/-- `wsbh rd, rt` (R377). -/
def execWsbh (rt : Reg) (rd : Reg) (s : State) : Out :=
  s.put rd (swapHalfBytes (s.readGpr rt))

end Sys2Proof.Machine
end

