-- ==== Sys2Proof/Machine/MulDiv.lean ====
section
/-! DEFINITION. Integer multiply, multiply-accumulate and divide (spec/41_muldiv.md R420 to R435). -/

namespace Sys2Proof.Machine

/-- Write `HI :: LO` and go on (R420). -/
def State.putAcc (s : State) (p : DWord) : Out :=
  State.advance { s with hi := p.extractLsb' 32 32, lo := p.setWidth 32 }

/-- The accumulator `HI :: LO`. -/
def State.acc (s : State) : DWord := s.hi ++ s.lo

/-- The signed 64-bit product (R421). -/
def mulSigned (a b : Word) : DWord := a.signExtend 64 * b.signExtend 64

/-- The unsigned 64-bit product (R422). -/
def mulUnsigned (a b : Word) : DWord := a.setWidth 64 * b.setWidth 64

/-- `HI` and `LO` with free values: after `mul` (R435, U6). -/
def State.freeAfterMul (s : State) : State :=
  { s with hi := Config.free32 s.freeCtr .mulHi, lo := Config.free32 s.freeCtr .mulLo }

/-- `HI` and `LO` with free values: after a division by zero (R435, D8). -/
def State.freeAfterDiv (s : State) : State :=
  { s with hi := Config.free32 s.freeCtr .divHi, lo := Config.free32 s.freeCtr .divLo }

/-- `mult rs, rt` (R421). -/
def execMult (rs : Reg) (rt : Reg) (s : State) : Out :=
  s.putAcc (mulSigned (s.readGpr rs) (s.readGpr rt))

/-- `multu rs, rt` (R422). -/
def execMultu (rs : Reg) (rt : Reg) (s : State) : Out :=
  s.putAcc (mulUnsigned (s.readGpr rs) (s.readGpr rt))

/-- `mul rd, rs, rt` (R429). -/
def execMul (rs : Reg) (rt : Reg) (rd : Reg) (s : State) : Out :=
  s.freeAfterMul.put rd (s.readGpr rs * s.readGpr rt)

/-- `madd rs, rt` (R425). -/
def execMadd (rs : Reg) (rt : Reg) (s : State) : Out :=
  s.putAcc (s.acc + mulSigned (s.readGpr rs) (s.readGpr rt))

/-- `maddu rs, rt` (R426). -/
def execMaddu (rs : Reg) (rt : Reg) (s : State) : Out :=
  s.putAcc (s.acc + mulUnsigned (s.readGpr rs) (s.readGpr rt))

/-- `msub rs, rt` (R427). -/
def execMsub (rs : Reg) (rt : Reg) (s : State) : Out :=
  s.putAcc (s.acc - mulSigned (s.readGpr rs) (s.readGpr rt))

/-- `msubu rs, rt` (R428). -/
def execMsubu (rs : Reg) (rt : Reg) (s : State) : Out :=
  s.putAcc (s.acc - mulUnsigned (s.readGpr rs) (s.readGpr rt))

/-- `div $0, rs, rt` (R423); the quotient of `0x80000000` by -1 wraps (D9). -/
def execDiv (rs : Reg) (rt : Reg) (s : State) : Out :=
  if s.readGpr rt = 0 then s.freeAfterDiv.advance
  else
    State.advance { s with
      lo := BitVec.ofInt 32 ((s.readGpr rs).toInt.tdiv (s.readGpr rt).toInt)
      hi := BitVec.ofInt 32 ((s.readGpr rs).toInt.tmod (s.readGpr rt).toInt) }

/-- `divu $0, rs, rt` (R424). -/
def execDivu (rs : Reg) (rt : Reg) (s : State) : Out :=
  if s.readGpr rt = 0 then s.freeAfterDiv.advance
  else State.advance { s with lo := s.readGpr rs / s.readGpr rt, hi := s.readGpr rs % s.readGpr rt }

/-- `mfhi rd` (R430). -/
def execMfhi (rd : Reg) (s : State) : Out :=
  s.put rd s.hi

/-- `mflo rd` (R431). -/
def execMflo (rd : Reg) (s : State) : Out :=
  s.put rd s.lo

/-- `mthi rs` (R432). -/
def execMthi (rs : Reg) (s : State) : Out :=
  State.advance { s with hi := s.readGpr rs }

/-- `mtlo rs` (R433). -/
def execMtlo (rs : Reg) (s : State) : Out :=
  State.advance { s with lo := s.readGpr rs }

end Sys2Proof.Machine
end

