-- ==== Sys2Proof/Machine/Branch.lean ====
section
/-! DEFINITION. Branches and jumps (spec/42_branch_jump.md R450 to R482). -/

namespace Sys2Proof.Machine

/-- An ordinary conditional branch: the delay slot runs in any case (R452); refused in a delay slot (R454). -/
def State.branch (s : State) (cond : Bool) (off : BitVec 16) : Out :=
  if s.inDelaySlot then .refused .branchInDelaySlot
  else s.enterSlot (if cond then some (branchTarget s.pc off, false) else none)

/-- A branch likely: not taken, the delay slot is skipped (R453). -/
def State.branchLikely (s : State) (cond : Bool) (off : BitVec 16) : Out :=
  if s.inDelaySlot then .refused .branchInDelaySlot
  else if cond then s.enterSlot (some (branchTarget s.pc off, false)) else s.skipSlot

/-- A jump to `t`; `hb` for the hazard barrier forms (R452, R477). -/
def State.jump (s : State) (t : Word) (hb : Bool) : Out :=
  if s.inDelaySlot then .refused .branchInDelaySlot else s.enterSlot (some (t, hb))

/-- A jump to a register's address: an odd one would set the ISA mode and is refused (R470). -/
def State.jumpReg (s : State) (t : Word) (hb : Bool) : Out :=
  if s.inDelaySlot then .refused .branchInDelaySlot
  else if t.getLsbD 0 then .refused .mips16
  else s.enterSlot (some (t, hb))

/-- The state with the return address `pc + 8` in `r` (R451). -/
def State.link (s : State) (r : Reg) : State := s.writeGpr r (s.pc + 8)

/-- Less than or equal to zero (R458). -/
def lez (w : Word) : Bool := w.getLsbD 31 || w = 0

/-- Greater than zero (R459). -/
def gtz (w : Word) : Bool := !w.getLsbD 31 && w ≠ 0

/-- `beq rs, rt, offset` (R456). -/
def execBeq (rs : Reg) (rt : Reg) (imm : BitVec 16) (s : State) : Out :=
  s.branch (s.readGpr rs = s.readGpr rt) imm

/-- `bne rs, rt, offset` (R457). -/
def execBne (rs : Reg) (rt : Reg) (imm : BitVec 16) (s : State) : Out :=
  s.branch (s.readGpr rs ≠ s.readGpr rt) imm

/-- `blez rs, offset` (R458). -/
def execBlez (rs : Reg) (imm : BitVec 16) (s : State) : Out :=
  s.branch (lez (s.readGpr rs)) imm

/-- `bgtz rs, offset` (R459). -/
def execBgtz (rs : Reg) (imm : BitVec 16) (s : State) : Out :=
  s.branch (gtz (s.readGpr rs)) imm

/-- `bltz rs, offset` (R460). -/
def execBltz (rs : Reg) (imm : BitVec 16) (s : State) : Out :=
  s.branch ((s.readGpr rs).getLsbD 31) imm

/-- `bgez rs, offset` (R461). -/
def execBgez (rs : Reg) (imm : BitVec 16) (s : State) : Out :=
  s.branch (!(s.readGpr rs).getLsbD 31) imm

/-- `bltzal rs, offset` (R462); `rs = 31` is refused (U3). -/
def execBltzal (rs : Reg) (imm : BitVec 16) (s : State) : Out :=
  if rs = 31 then .refused .unpredictableOperands
  else (s.link 31).branch ((s.readGpr rs).getLsbD 31) imm

/-- `bgezal rs, offset` (R463); `rs = 31` is refused (U3). -/
def execBgezal (rs : Reg) (imm : BitVec 16) (s : State) : Out :=
  if rs = 31 then .refused .unpredictableOperands
  else (s.link 31).branch (!(s.readGpr rs).getLsbD 31) imm

/-- `beql rs, rt, offset` (R464). -/
def execBeql (rs : Reg) (rt : Reg) (imm : BitVec 16) (s : State) : Out :=
  s.branchLikely (s.readGpr rs = s.readGpr rt) imm

/-- `bnel rs, rt, offset` (R465). -/
def execBnel (rs : Reg) (rt : Reg) (imm : BitVec 16) (s : State) : Out :=
  s.branchLikely (s.readGpr rs ≠ s.readGpr rt) imm

/-- `blezl rs, offset` (R466). -/
def execBlezl (rs : Reg) (imm : BitVec 16) (s : State) : Out :=
  s.branchLikely (lez (s.readGpr rs)) imm

/-- `bgtzl rs, offset` (R467). -/
def execBgtzl (rs : Reg) (imm : BitVec 16) (s : State) : Out :=
  s.branchLikely (gtz (s.readGpr rs)) imm

/-- `bltzl rs, offset` (R468). -/
def execBltzl (rs : Reg) (imm : BitVec 16) (s : State) : Out :=
  s.branchLikely ((s.readGpr rs).getLsbD 31) imm

/-- `bgezl rs, offset` (R469). -/
def execBgezl (rs : Reg) (imm : BitVec 16) (s : State) : Out :=
  s.branchLikely (!(s.readGpr rs).getLsbD 31) imm

/-- `bltzall rs, offset` (R471); `rs = 31` is refused (U3). -/
def execBltzall (rs : Reg) (imm : BitVec 16) (s : State) : Out :=
  if rs = 31 then .refused .unpredictableOperands
  else (s.link 31).branchLikely ((s.readGpr rs).getLsbD 31) imm

/-- `bgezall rs, offset` (R472); `rs = 31` is refused (U3). -/
def execBgezall (rs : Reg) (imm : BitVec 16) (s : State) : Out :=
  if rs = 31 then .refused .unpredictableOperands
  else (s.link 31).branchLikely (!(s.readGpr rs).getLsbD 31) imm

/-- `j target` (R473). -/
def execJ (target : BitVec 26) (s : State) : Out :=
  s.jump (jumpTarget s.pc target) false

/-- `jal target` (R474). -/
def execJal (target : BitVec 26) (s : State) : Out :=
  (s.link 31).jump (jumpTarget s.pc target) false

/-- `jr rs` (R475). -/
def execJr (rs : Reg) (s : State) : Out :=
  s.jumpReg (s.readGpr rs) false

/-- `jalr rd, rs` (R476); `rd = rs` is refused (U3). -/
def execJalr (rs : Reg) (rd : Reg) (s : State) : Out :=
  if rs = rd then .refused .unpredictableOperands
  else (s.link rd).jumpReg (s.readGpr rs) false

/-- `jr.hb rs` (R477). -/
def execJrHb (rs : Reg) (s : State) : Out :=
  s.jumpReg (s.readGpr rs) true

/-- `jalr.hb rd, rs` (R478); `rd = rs` is refused (U3). -/
def execJalrHb (rs : Reg) (rd : Reg) (s : State) : Out :=
  if rs = rd then .refused .unpredictableOperands
  else (s.link rd).jumpReg (s.readGpr rs) true

/-- `jalx target` (R480): enters MIPS16e, which the model refuses (D34). -/
def execJalx (_target : BitVec 26) (_s : State) : Out :=
  .refused .mips16

end Sys2Proof.Machine
end

