-- ==== Sys2Proof/Machine/LoadStore.lean ====
section
/-! DEFINITION. Loads, stores, prefetch, `sync`, `synci` and `cache` (spec/43_load_store.md R500 to R521). -/

namespace Sys2Proof.Machine

/-- What a load into a general register of the current set loads (R904); register 0 holds no loaded value. -/
def State.gprDest (s : State) (rt : Reg) : LoadDest := if rt = 0 then .none else .gpr s.curSet rt

/-- A load into a general register: the bytes as a number, then `f` of it (R500); after a failed read a free word
(R246). -/
def State.loadGpr (s : State) (rt : Reg) (va : Word) (n : Nat) (f : Nat → Word) : Out :=
  ((s.memRead va n (s.gprDest rt)).andThen fun v s1 =>
    .ok () (s1.writeGpr rt ((v.map f).getD (s.failedLoad false)))).finish

/-- How many low bytes of the register `lwl`, `swl` leave alone: `k` of R506, R511. -/
def leftSkip (big : Bool) (va : Word) : Nat := if big then va.toNat % 4 else 3 - va.toNat % 4

/-- `k` of R507, R512. -/
def rightSkip (big : Bool) (va : Word) : Nat := if big then 3 - va.toNat % 4 else va.toNat % 4

/-- The access of `lwl`, `swl`: from the address up to the word's end (big-endian) or from the word's start up to the
address (R506, R511). -/
def leftAccess (big : Bool) (va : Word) : DataAccess :=
  ⟨va, if big then va else va &&& 0xFFFFFFFC, 4 - leftSkip big va, 1, false⟩

/-- The access of `lwr`, `swr` (R507, R512). -/
def rightAccess (big : Bool) (va : Word) : DataAccess :=
  ⟨va, if big then va &&& 0xFFFFFFFC else va, 4 - rightSkip big va, 1, false⟩

/-- `w[31-8k:0] :: x[8k-1:0]` where `part` is the accessed part of the word (R506). -/
def mergeLeft (x part : Word) (k : Nat) : Word := merge x (part <<< (8 * k)) (~~~0#32 <<< (8 * k))

/-- `x[31:32-8k] :: w[31:8k]` (R507). -/
def mergeRight (x part : Word) (k : Nat) : Word := merge x part (~~~0#32 >>> (8 * k))

/-- The reservation block of a physical address (R513, D17). -/
def llBlockOf (cfg : Cfg) (pa : Word) : Word := (pa >>> cfg.llGranuleLog2) <<< cfg.llGranuleLog2

/-- The physical address a translation gives, if it gives one. -/
def State.physOf (s : State) (k : AccKind) (va : Word) : Option Word :=
  match s.translate k va with
  | .ok p _ => some p.1
  | _ => none

/-- Whether an `sc` to `va` stores (R514): no without the link bit; free where the reservation is not certain (U5, D37;
log 9). -/
def State.scStores (s : State) (va : Word) : Bool :=
  s.llBit &&
    (if s.llTouched || (s.physOf .store va).map (llBlockOf s.cfg) ≠ some s.llBlock then
      Config.freeBool s.freeCtr .scOutcome
    else true)

/-- The access of `ll`, `sc`. -/
def linkedAccess (va : Word) : DataAccess := ⟨va, va, 4, 4, true⟩

/-- The checks of an `sc` that does not store: as a store, without data breaks (R514, R902). -/
def State.scFails (s : State) (va : Word) : Res Unit :=
  (s.dataChecks true false (linkedAccess va)).andThen fun _ s1 =>
    (s1.placeOf .store (linkedAccess va)).andThen fun _ s2 => .ok () s2

/-- A prefetch of `va` (R515): whatever would raise does nothing, and so does a hint that is not listed (U28). -/
def State.prefetchAt (s : State) (hint : Reg) (va : Word) : Res Unit :=
  let s0 : State := { s with llTouched := true }
  if !knownHint hint || (s.dsegOf .load va).isSome then .ok () s0
  else
    match s.translate .load va with
    | .ok p _ => s0.prefetch hint va p.1 p.2
    | .exc _ _ => .ok () s0
    | .wait s1 => .wait s1
    | .ref r => .ref r
    | .flt f => .flt f

/-- `lb rt, offset(base)` (R501). -/
def execLb (base : Reg) (rt : Reg) (imm : BitVec 16) (s : State) : Out :=
  s.loadGpr rt (s.effAddr base imm) 1 (fun v => (BitVec.ofNat 8 v).signExtend 32)

/-- `lbu rt, offset(base)` (R502). -/
def execLbu (base : Reg) (rt : Reg) (imm : BitVec 16) (s : State) : Out :=
  s.loadGpr rt (s.effAddr base imm) 1 (fun v => (BitVec.ofNat 8 v).setWidth 32)

/-- `lh rt, offset(base)` (R503). -/
def execLh (base : Reg) (rt : Reg) (imm : BitVec 16) (s : State) : Out :=
  s.loadGpr rt (s.effAddr base imm) 2 (fun v => (BitVec.ofNat 16 v).signExtend 32)

/-- `lhu rt, offset(base)` (R504). -/
def execLhu (base : Reg) (rt : Reg) (imm : BitVec 16) (s : State) : Out :=
  s.loadGpr rt (s.effAddr base imm) 2 (fun v => (BitVec.ofNat 16 v).setWidth 32)

/-- `lw rt, offset(base)` (R505). -/
def execLw (base : Reg) (rt : Reg) (imm : BitVec 16) (s : State) : Out :=
  s.loadGpr rt (s.effAddr base imm) 4 (fun v => BitVec.ofNat 32 v)

/-- `lwl rt, offset(base)` (R506). -/
def execLwl (base : Reg) (rt : Reg) (imm : BitVec 16) (s : State) : Out :=
  let va := s.effAddr base imm
  let big := s.bigAccess
  let f := fun bs => mergeLeft (s.readGpr rt) (BitVec.ofNat 32 (bytesToNat big bs)) (leftSkip big va)
  ((s.loadBytes (leftAccess big va) (s.gprDest rt)).andThen fun bs s1 =>
    .ok () (s1.writeGpr rt ((bs.map f).getD (s.failedLoad false)))).finish

/-- `lwr rt, offset(base)` (R507). -/
def execLwr (base : Reg) (rt : Reg) (imm : BitVec 16) (s : State) : Out :=
  let va := s.effAddr base imm
  let big := s.bigAccess
  let f := fun bs => mergeRight (s.readGpr rt) (BitVec.ofNat 32 (bytesToNat big bs)) (rightSkip big va)
  ((s.loadBytes (rightAccess big va) (s.gprDest rt)).andThen fun bs s1 =>
    .ok () (s1.writeGpr rt ((bs.map f).getD (s.failedLoad false)))).finish

/-- `sb rt, offset(base)` (R508). -/
def execSb (base : Reg) (rt : Reg) (imm : BitVec 16) (s : State) : Out :=
  (s.memWrite (s.effAddr base imm) 1 (s.readGpr rt).toNat).finish

/-- `sh rt, offset(base)` (R509). -/
def execSh (base : Reg) (rt : Reg) (imm : BitVec 16) (s : State) : Out :=
  (s.memWrite (s.effAddr base imm) 2 (s.readGpr rt).toNat).finish

/-- `sw rt, offset(base)` (R510). -/
def execSw (base : Reg) (rt : Reg) (imm : BitVec 16) (s : State) : Out :=
  (s.memWrite (s.effAddr base imm) 4 (s.readGpr rt).toNat).finish

/-- `swl rt, offset(base)` (R511). -/
def execSwl (base : Reg) (rt : Reg) (imm : BitVec 16) (s : State) : Out :=
  let va := s.effAddr base imm
  let big := s.bigAccess
  let k := leftSkip big va
  (s.storeBytes (leftAccess big va) false
    (natToBytes big (4 - k) (s.readGpr rt >>> (8 * k)).toNat)).finish

/-- `swr rt, offset(base)` (R512). -/
def execSwr (base : Reg) (rt : Reg) (imm : BitVec 16) (s : State) : Out :=
  let va := s.effAddr base imm
  let big := s.bigAccess
  (s.storeBytes (rightAccess big va) false
    (natToBytes big (4 - rightSkip big va) (s.readGpr rt).toNat)).finish

/-- `ll rt, offset(base)` (R513). -/
def execLl (base : Reg) (rt : Reg) (imm : BitVec 16) (s : State) : Out :=
  let va := s.effAddr base imm
  ((s.loadBytes (linkedAccess va) (s.gprDest rt)).andThen fun bs s1 =>
    let s2 := s1.writeGpr rt
      ((bs.map (fun l => BitVec.ofNat 32 (bytesToNat s.bigAccess l))).getD (s.failedLoad false))
    .ok () { s2 with
      llBit := true
      llBlock := llBlockOf s.cfg ((s.physOf .load va).getD 0)
      llTouched := false }).finish

/-- `sc rt, offset(base)` (R514). -/
def execSc (base : Reg) (rt : Reg) (imm : BitVec 16) (s : State) : Out :=
  let va := s.effAddr base imm
  if s.scStores va then
    ((s.storeBytes (linkedAccess va) true (natToBytes s.bigAccess 4 (s.readGpr rt).toNat)).andThen fun _ s1 =>
      .ok () ({ s1 with llBit := false }.writeGpr rt 1)).finish
  else
    ((s.scFails va).andThen fun _ s1 => .ok () ({ s1 with llBit := false }.writeGpr rt 0)).finish

/-- `pref hint, offset(base)` (R515). -/
def execPref (base : Reg) (hint : Reg) (imm : BitVec 16) (s : State) : Out :=
  (s.prefetchAt hint (s.effAddr base imm)).finish

/-- `sync` (R518): the gather buffer is flushed (R244); `stype` is ignored (U31). -/
def execSync (_stype : Reg) (s : State) : Out :=
  s.flushGather.advance

/-- `synci offset(base)` (R519). -/
def execSynci (base : Reg) (imm : BitVec 16) (s : State) : Out :=
  let va := s.effAddr base imm
  if (s.dsegOf .load va).isSome then s.advance
  else
    ((s.translate .load va).andThen fun p s1 => .ok () (s1.synciLine va p.1 p.2)).finish

/-- `cache op, offset(base)` (R520). At a dseg address in debug mode, which has no physical address (R210), the operation
runs with the physical address equal to the virtual one (DESIGN CHOICE, log 32). -/
def execCache (base : Reg) (op : Reg) (imm : BitVec 16) (s : State) : Out :=
  let va := s.effAddr base imm
  let s0 : State := { s with llTouched := true }
  if !s.cp0Usable then s.raise (.cpu 0)
  else if cacheNoOp op then s0.advance
  else if (s.dsegOf .load va).isSome then (s0.cacheOp op va va).finish
  else
    ((s.translate .load va).andThen fun p _ => s0.cacheOp op va p.1).finish

end Sys2Proof.Machine
end

