-- ==== Sys2Proof/Machine/System.lean ====
section
/-! DEFINITION. System calls, traps, returns, `wait`, the CP0 moves, shadow registers, hardware registers, the TLB
instructions, no-operations and `ehb` (spec/44_system.md R560 to R593). -/

namespace Sys2Proof.Machine

/-- A privileged instruction: Coprocessor Unusable first where CP0 is not usable (R592). -/
def State.privileged (s : State) (k : Out) : Out := if s.cp0Usable then k else s.raise (.cpu 0)

/-- A conditional trap (R563). -/
def State.trapIf (s : State) (c : Bool) : Out := if c then s.raise .tr else s.advance

/-- A TLB instruction: privileged, reserved on a fixed-mapping core (R217). -/
def State.tlbInstr (s : State) (k : Out) : Out :=
  s.privileged (if s.cfg.mmu = .fmt then s.raise .ri else k)

/-- A debug interrupt is requested: the pin or the probe's bit (R905). The pin is a level, so that one still asserted
after `deret` is a new request (DESIGN CHOICE, log 54). -/
def State.dintPending (s : State) : Bool := (s.cfg.dintSup && s.inputs.dint) || s.ejtagBrk

/-- Compatibility mode (R812). -/
def State.compatMode (s : State) : Bool := s.bev || !s.iv || s.cp0.intCtl.extractLsb' 5 5 = 0

/-- Whether a request of a kind that `wait` watches stands (R577 (a)): the unmasked ones, or in EIC mode the level of the
controller. In compatibility mode with a controller fitted, where IP7-2 are the stored level (R812), the unmasked
software requests and the presented level (DESIGN CHOICE, log 34). -/
def State.wakeRequest (s : State) : Bool :=
  if s.cfg.eicPresent then s.inputs.eicRIPL ≠ 0 || (s.compatMode && (s.ip &&& s.im &&& 0x03) ≠ 0)
  else (s.ip &&& s.im) ≠ 0

/-- Whether something wakes the core from `wait` (R577, D16). A pending NMI wakes it whatever `DCR[NMIE]` and debug mode
say, and a debug interrupt that debug mode ignores (R880) does not (DESIGN CHOICE, log 47). -/
def State.wakes (s : State) : Bool := s.wakeRequest || s.dcrNmip || (!s.dm && s.dintPending)

/-- `SYNCI_Step`: the smaller line size of the caches there are (R593, D19); a parameter of a core that has none. -/
def synciStepOf (cfg : Cfg) : Word :=
  let i := lineBytes cfg false
  let d := lineBytes cfg true
  if i = 0 && d = 0 then cfg.synciStep
  else BitVec.ofNat 32 (if i = 0 then d else if d = 0 then i else min i d)

/-- `HWR(n)` for `n` below 4 (R593). -/
def State.hwr (s : State) (n : Reg) : Word :=
  if n = 0 then s.cfg.cpuNum.setWidth 32
  else if n = 1 then synciStepOf s.cfg
  else if n = 2 then s.cp0.count
  else s.cfg.ccRes

/-- `TLBWrite(i)` (R586): the illegal mask is refused, a duplicate of valid entries sets `Status[TS]` and is a Machine
Check (R215). -/
def State.tlbWrite (s : State) (i : Nat) : Out :=
  let c := (s.view .tlbOp).cp0
  let new := stagedEntry c
  if h : i < 64 then
    if !legalMask new.mask then .refused .illegalPageMask
    else if machineCheckCond s.tlb s.cfg.tlbEntries new ⟨i, h⟩ then
      State.raise { s with cp0 := { s.cp0 with status := s.cp0.status ||| 0x00200000 } } .mcheck
    else State.advance ({ s with tlb := s.tlb.set i new }.pushHazard (.tlb ⟨i, h⟩ (s.tlb.get ⟨i, h⟩)))
  else .refused .tlbIndexRange

/-- The entry `Index` names (R83), as a TLB instruction sees it. -/
def State.tlbIndex (s : State) : Nat := ((s.view .tlbOp).cp0.index &&& indexMask s.cfg.tlbEntries).toNat

/-- The staging registers a TLB read fills (R585). -/
def State.tlbReadInto (s : State) (e : TlbEntry) : State :=
  (((s.setCp .readBack .pageMask allOnes (e.mask.setWidth 32 <<< 13)).setCp .readBack .entryHi allOnes
    (e.vpn2 ++ 0#5 ++ e.asid)).setCp .readBack .entryLo0 allOnes (entryLoOf e.page0 e.g)).setCp .readBack .entryLo1
    allOnes (entryLoOf e.page1 e.g)

/-- The previous register set may be used (U13). -/
def State.prevSetOk (s : State) : Bool := s.cfg.numShadowSets ≤ 1 || s.prevSet.toNat < s.cfg.numShadowSets

/-- `syscall code` (R560). -/
def execSyscall (_code : BitVec 20) (s : State) : Out :=
  s.raise .sys

/-- `break code` (R561). -/
def execBreak (_code : BitVec 20) (s : State) : Out :=
  s.raise .bp

/-- `sdbbp code` (R562). -/
def execSdbbp (_code : BitVec 20) (s : State) : Out :=
  s.raise .sdbbp

/-- `tge rs, rt` (R563). -/
def execTge (rs : Reg) (rt : Reg) (_code : BitVec 10) (s : State) : Out :=
  s.trapIf (!(s.readGpr rs).slt (s.readGpr rt))

/-- `tgeu rs, rt` (R564). -/
def execTgeu (rs : Reg) (rt : Reg) (_code : BitVec 10) (s : State) : Out :=
  s.trapIf (!(s.readGpr rs).ult (s.readGpr rt))

/-- `tlt rs, rt` (R565). -/
def execTlt (rs : Reg) (rt : Reg) (_code : BitVec 10) (s : State) : Out :=
  s.trapIf ((s.readGpr rs).slt (s.readGpr rt))

/-- `tltu rs, rt` (R566). -/
def execTltu (rs : Reg) (rt : Reg) (_code : BitVec 10) (s : State) : Out :=
  s.trapIf ((s.readGpr rs).ult (s.readGpr rt))

/-- `teq rs, rt` (R567). -/
def execTeq (rs : Reg) (rt : Reg) (_code : BitVec 10) (s : State) : Out :=
  s.trapIf (s.readGpr rs = s.readGpr rt)

/-- `tne rs, rt` (R568). -/
def execTne (rs : Reg) (rt : Reg) (_code : BitVec 10) (s : State) : Out :=
  s.trapIf (s.readGpr rs ≠ s.readGpr rt)

/-- `tgei rs, immediate` (R569). -/
def execTgei (rs : Reg) (imm : BitVec 16) (s : State) : Out :=
  s.trapIf (!(s.readGpr rs).slt (sext16 imm))

/-- `tgeiu rs, immediate` (R570). -/
def execTgeiu (rs : Reg) (imm : BitVec 16) (s : State) : Out :=
  s.trapIf (!(s.readGpr rs).ult (sext16 imm))

/-- `tlti rs, immediate` (R571). -/
def execTlti (rs : Reg) (imm : BitVec 16) (s : State) : Out :=
  s.trapIf ((s.readGpr rs).slt (sext16 imm))

/-- `tltiu rs, immediate` (R572). -/
def execTltiu (rs : Reg) (imm : BitVec 16) (s : State) : Out :=
  s.trapIf ((s.readGpr rs).ult (sext16 imm))

/-- `teqi rs, immediate` (R573). -/
def execTeqi (rs : Reg) (imm : BitVec 16) (s : State) : Out :=
  s.trapIf (s.readGpr rs = sext16 imm)

/-- `tnei rs, immediate` (R574). -/
def execTnei (rs : Reg) (imm : BitVec 16) (s : State) : Out :=
  s.trapIf (s.readGpr rs ≠ sext16 imm)

/-- `eret` (R575). -/
def execEret (s : State) : Out :=
  s.privileged (if s.inDelaySlot then .refused .branchInDelaySlot else s.doEret)

/-- `deret` (R576); Reserved Instruction outside debug mode (U26). -/
def execDeret (s : State) : Out :=
  s.privileged
    (if !s.dm then s.raise .ri else if s.inDelaySlot then .refused .branchInDelaySlot else s.doDeret)

/-- `wait` (R577). -/
def execWait (s : State) : Out :=
  s.privileged (State.advance { s with sleeping := !s.wakes })

/-- `mfc0 rt, rd, sel` (R578). -/
def execMfc0 (rt : Reg) (rd : Reg) (sel : BitVec 3) (s : State) : Out :=
  s.privileged (s.put rt (match cpRegOf rd sel with
    | some r => s.cpRead r
    | none => 0))

/-- `mtc0 rt, rd, sel` (R579). -/
def execMtc0 (rt : Reg) (rd : Reg) (sel : BitVec 3) (s : State) : Out :=
  s.privileged (match cpRegOf rd sel with
    | some r => (s.cpWrite r (s.readGpr rt)).finish
    | none => s.advance)

/-- `di rt` (R580). -/
def execDi (rt : Reg) (s : State) : Out :=
  s.privileged ((s.setCp .irqEnable .status 0x00000001 (s.cp0.status &&& 0xFFFFFFFE)).put rt s.cp0.status)

/-- `ei rt` (R581). -/
def execEi (rt : Reg) (s : State) : Out :=
  s.privileged ((s.setCp .irqEnable .status 0x00000001 (s.cp0.status ||| 0x00000001)).put rt s.cp0.status)

/-- `rdpgpr rd, rt` (R582). -/
def execRdpgpr (rt : Reg) (rd : Reg) (s : State) : Out :=
  s.privileged
    (if s.prevSetOk then s.put rd (s.readSet s.prevSet rt) else .refused .shadowSetRange)

/-- `wrpgpr rd, rt` (R583). -/
def execWrpgpr (rt : Reg) (rd : Reg) (s : State) : Out :=
  s.privileged
    (if s.prevSetOk then (s.writeSet s.prevSet rd (s.readGpr rt)).advance else .refused .shadowSetRange)

/-- `rdhwr rt, rd` (R584): allowed where CP0 is usable or `HWREna` has the register's bit. R782 names the bit alone for
user and supervisor mode; R584, to which R791 refers for this Reserved Instruction, is taken over it (DESIGN CHOICE,
log 48). -/
def execRdhwr (rt : Reg) (rd : Reg) (s : State) : Out :=
  if rd.toNat > 3 then s.raise .ri
  else if !(s.cp0Usable || (s.view .rdhwr).cp0.hwrena.getLsbD rd.toNat) then s.raise .ri
  else s.put rt (s.hwr rd)

/-- `tlbr` (R585). -/
def execTlbr (s : State) : Out :=
  s.tlbInstr
    (if h : s.tlbIndex < 64 then
      if s.tlbIndex ≥ s.cfg.tlbEntries then .refused .tlbIndexRange
      else (s.tlbReadInto (s.tlb.get ⟨s.tlbIndex, h⟩)).advance
    else .refused .tlbIndexRange)

/-- `tlbwi` (R586). -/
def execTlbwi (s : State) : Out :=
  s.tlbInstr (if s.tlbIndex ≥ s.cfg.tlbEntries then .refused .tlbIndexRange else s.tlbWrite s.tlbIndex)

/-- `tlbwr` (R587). -/
def execTlbwr (s : State) : Out :=
  let w := wiredNat (s.view .tlbOp).cp0.wired
  s.tlbInstr (if w ≥ s.cfg.tlbEntries then .refused .tlbIndexRange else s.tlbWrite (s.drawRandom w))

/-- `tlbp` (R588). -/
def execTlbp (s : State) : Out :=
  let c := (s.view .tlbOp).cp0
  s.tlbInstr
    (match tlbMatches s.tlb s.cfg.tlbEntries (c.entryHi.extractLsb' 13 19) (c.entryHi.extractLsb' 0 8) with
    | [] =>
      State.advance (s.setCp .readBack .index allOnes
        (0x80000000 ||| (Config.free32 s.freeCtr .tlbpIndex &&& indexMask s.cfg.tlbEntries)))
    | [i] => State.advance (s.setCp .readBack .index allOnes (BitVec.ofNat 32 i.val))
    | _ => .refused .multipleTlbMatch)

/-- `nop` (R589). -/
def execNop (s : State) : Out :=
  s.advance

/-- `ssnop` (R590). -/
def execSsnop (s : State) : Out :=
  s.advance

/-- `ehb` (R591). -/
def execEhb (s : State) : Out :=
  State.advance { s with hazards := clearExecHazards s.hazards }

end Sys2Proof.Machine
end

