-- ==== Sys2Proof/Machine/Cop2.lean ====
section
/-! DEFINITION. Coprocessor 2 and CorExtend through their opaque interfaces (spec/46_cop2_corextend.md R740 to R761). -/

namespace Sys2Proof.Machine

/-- A coprocessor 2 instruction: Coprocessor Unusable first (R740). -/
def State.cop2Instr (s : State) (k : Out) : Out := if s.cp2Usable then k else s.raise (.cpu 2)

/-- `mfc2 rt, impl` (R741). -/
def execMfc2 (rt : Reg) (impl : BitVec 16) (s : State) : Out :=
  s.cop2Instr (s.put rt ((Config.cp2Read s.cp2State impl).setWidth 32))

/-- `mtc2 rt, impl` (R742). -/
def execMtc2 (rt : Reg) (impl : BitVec 16) (s : State) : Out :=
  s.cop2Instr (State.advance { s with cp2State := Config.cp2Write s.cp2State impl (s.readGpr rt) })

/-- `cfc2 rt, rd` (R743). -/
def execCfc2 (rt : Reg) (rd : Reg) (s : State) : Out :=
  s.cop2Instr (s.put rt (Config.cp2ReadCtl s.cp2State rd))

/-- `ctc2 rt, rd` (R744). -/
def execCtc2 (rt : Reg) (rd : Reg) (s : State) : Out :=
  s.cop2Instr (State.advance { s with cp2State := Config.cp2WriteCtl s.cp2State rd (s.readGpr rt) })

/-- `mfhc2 rt, rd` (R745). -/
def execMfhc2 (rt : Reg) (impl : BitVec 16) (s : State) : Out :=
  s.cop2Instr (s.put rt ((Config.cp2Read s.cp2State impl).extractLsb' 32 32))

/-- `mthc2 rt, rd` (R746). -/
def execMthc2 (rt : Reg) (impl : BitVec 16) (s : State) : Out :=
  s.cop2Instr (State.advance { s with cp2State := Config.cp2WriteHi s.cp2State impl (s.readGpr rt) })

/-- `bc2f cc, offset` (R747). -/
def execBc2f (cc : BitVec 3) (imm : BitVec 16) (s : State) : Out :=
  s.cop2Instr (s.branch (!Config.cp2Cond s.cp2State cc) imm)

/-- `bc2t cc, offset` (R747). -/
def execBc2t (cc : BitVec 3) (imm : BitVec 16) (s : State) : Out :=
  s.cop2Instr (s.branch (Config.cp2Cond s.cp2State cc) imm)

/-- `bc2fl cc, offset` (R747). -/
def execBc2fl (cc : BitVec 3) (imm : BitVec 16) (s : State) : Out :=
  s.cop2Instr (s.branchLikely (!Config.cp2Cond s.cp2State cc) imm)

/-- `bc2tl cc, offset` (R747). -/
def execBc2tl (cc : BitVec 3) (imm : BitVec 16) (s : State) : Out :=
  s.cop2Instr (s.branchLikely (Config.cp2Cond s.cp2State cc) imm)

/-- `lwc2 rt, offset(base)` (R748). -/
def execLwc2 (base : Reg) (rt : Reg) (imm : BitVec 16) (s : State) : Out :=
  s.cop2Instr
    ((s.memRead (s.effAddr base imm) 4 .cp2).andThen fun v s1 =>
      .ok () { s1 with
        cp2State := Config.cp2LoadWord s.cp2State rt ((v.map (BitVec.ofNat 32)).getD (s.failedLoad false)) }).finish

/-- `swc2 rt, offset(base)` (R749). -/
def execSwc2 (base : Reg) (rt : Reg) (imm : BitVec 16) (s : State) : Out :=
  s.cop2Instr
    (s.memWrite (s.effAddr base imm) 4 (Config.cp2StoreWord s.cp2State rt).toNat).finish

/-- `ldc2 rt, offset(base)` (R750). -/
def execLdc2 (base : Reg) (rt : Reg) (imm : BitVec 16) (s : State) : Out :=
  s.cop2Instr
    ((s.memRead (s.effAddr base imm) 8 .cp2).andThen fun v s1 =>
      .ok () { s1 with
        cp2State := Config.cp2LoadDouble s.cp2State rt
          ((v.map (BitVec.ofNat 64)).getD (s.failedLoad true ++ s.failedLoad false)) }).finish

/-- `sdc2 rt, offset(base)` (R751). -/
def execSdc2 (base : Reg) (rt : Reg) (imm : BitVec 16) (s : State) : Out :=
  s.cop2Instr
    (s.memWrite (s.effAddr base imm) 8 (Config.cp2StoreDouble s.cp2State rt).toNat).finish

/-- `cop2 func` (R752). -/
def execCop2 (impl : BitVec 25) (s : State) : Out :=
  s.cop2Instr (match Config.cp2Op s.cp2State impl with
    | some n => State.advance { s with cp2State := n }
    | none => s.raise .c2e)

/-- The CorExtend (UDI) words (R760): the block's exception, or its new state and perhaps a result for `rd`. -/
def execUdi (impl : BitVec 20) (impl2 : BitVec 4) (s : State) : Out :=
  let rs : Reg := impl.extractLsb' 15 5
  let rt : Reg := impl.extractLsb' 10 5
  let rd : Reg := impl.extractLsb' 5 5
  if !s.cfg.hasCorExtend then s.raise .ri
  else if s.cfg.corExtendNeedsCEE && !(s.view .copUse).cee then s.raise .ceu
  else
    match Config.udi (0b011100#6 ++ impl ++ 0b01#2 ++ impl2) (s.readGpr rs) (s.readGpr rt) s.udiState with
    | none => s.raise .is1
    | some (st, none) => State.advance { s with udiState := st }
    | some (st, some v) => State.put { s with udiState := st } rd v

end Sys2Proof.Machine
end

