-- ==== Sys2Proof/Machine/Float.lean ====
section
/-! DEFINITION. Floating point arithmetic on bit patterns (spec/45_fpu.md R621 to R629): exact results, rounding,
NaNs, tiny numbers, conversions, comparison. -/

namespace Sys2Proof.Machine

/-! ## Formats (R621, R48) -/

/-- The four formats. -/
inductive FpFmt where
  | single
  | double
  | word
  | long
deriving DecidableEq, Repr

/-- Whether a value of the format fills a 64-bit register. -/
def FpFmt.is64 : FpFmt → Bool
  | .single => false
  | .double => true
  | .word => false
  | .long => true

/-- Mantissa bits: 23 or 52. -/
def FpFmt.frac (f : FpFmt) : Nat := if f.is64 then 52 else 23

/-- Exponent bits: 8 or 11. -/
def FpFmt.expBits (f : FpFmt) : Nat := if f.is64 then 11 else 8

/-- Exponent bias: 127 or 1023. -/
def FpFmt.bias (f : FpFmt) : Nat := if f.is64 then 1023 else 127

/-- The position of the sign bit. -/
def FpFmt.signPos (f : FpFmt) : Nat := if f.is64 then 63 else 31

/-- The exponent field of all ones. -/
def FpFmt.maxExp (f : FpFmt) : Nat := 2 ^ f.expBits - 1

/-- The bits of a value with sign, exponent field and mantissa field. -/
def FpFmt.pack (f : FpFmt) (sign : Bool) (e m : Nat) : DWord :=
  BitVec.ofNat 64 ((if sign then 2 ^ f.signPos else 0) + e * 2 ^ f.frac + m)

def FpFmt.zero (f : FpFmt) (sign : Bool) : DWord := f.pack sign 0 0
def FpFmt.inf (f : FpFmt) (sign : Bool) : DWord := f.pack sign f.maxExp 0
def FpFmt.maxFinite (f : FpFmt) (sign : Bool) : DWord := f.pack sign (f.maxExp - 1) (2 ^ f.frac - 1)
/-- `MinNorm` with a sign (R627). -/
def FpFmt.minNorm (f : FpFmt) (sign : Bool) : DWord := f.pack sign 1 0
/-- The default quiet NaN (R625). -/
def FpFmt.qnan (f : FpFmt) : DWord := f.pack false f.maxExp (2 ^ (f.frac - 1) - 1)

/-- A value: NaN, infinity, or `(-1)^sign * mant * 2^exp`. -/
inductive FpVal where
  | nan (signalling : Bool)
  | inf (sign : Bool)
  | fin (sign : Bool) (mant : Nat) (exp : Int)
deriving DecidableEq, Repr

def FpFmt.signOf (f : FpFmt) (w : DWord) : Bool := w.getLsbD f.signPos
def FpFmt.expOf (f : FpFmt) (w : DWord) : Nat := w.toNat / 2 ^ f.frac % 2 ^ f.expBits
def FpFmt.fracOf (f : FpFmt) (w : DWord) : Nat := w.toNat % 2 ^ f.frac

/-- The value of a bit pattern (R48, R625): a NaN with mantissa bit `frac - 1` set is signalling. -/
def FpFmt.value (f : FpFmt) (w : DWord) : FpVal :=
  let e := f.expOf w
  let m := f.fracOf w
  if e = f.maxExp then (if m = 0 then .inf (f.signOf w) else .nan (decide (2 ^ (f.frac - 1) ≤ m)))
  else if e = 0 then .fin (f.signOf w) m (1 - (f.bias : Int) - f.frac)
  else .fin (f.signOf w) (m + 2 ^ f.frac) ((e : Int) - f.bias - f.frac)

/-- A tiny bit pattern (R627). -/
def FpFmt.tiny (f : FpFmt) (w : DWord) : Bool := f.expOf w = 0 && f.fracOf w ≠ 0

/-! ## The environment of an operation: `FCSR` control fields and the draw number (R623, R627) -/

/-- `FCSR[RM, FS, FO, FN]` and the draw number of the free values. -/
structure FpEnv where
  rm : BitVec 2
  fs : Bool
  fo : Bool
  fn : Bool
  draw : Nat
deriving DecidableEq, Repr

/-- The control fields of a state. -/
def State.fpEnv (s : State) : FpEnv := ⟨s.rm, s.fs, s.fo, s.fn, s.freeCtr⟩

/-- What an operation answers: a result with the conditions met, or Unimplemented (R624, R626). -/
inductive FpOut where
  | val (bits : DWord) (c : FpFlags)
  | unimplemented
deriving DecidableEq, Repr

def FpFlags.invalid : FpFlags := { FpFlags.none with v := true }
def FpFlags.divZero : FpFlags := { FpFlags.none with z := true }
def FpFlags.inexact (b : Bool) : FpFlags := { FpFlags.none with i := b }
/-- Overflow signals Inexact with it (R624). -/
def FpFlags.overflow : FpFlags := { FpFlags.none with o := true, i := true }
/-- A replaced tiny result signals Underflow and Inexact (R627). -/
def FpFlags.underflow : FpFlags := { FpFlags.none with u := true, i := true }

/-! ## Rounding (R623) -/

/-- An exact result: `(-1)^sign * (mant + ε) * 2^exp` with `ε = 0`, or with `0 < ε < 1` when `more` is set; then `mant`
has at least two bits more than any format. -/
structure FpExact where
  sign : Bool
  mant : Nat
  exp : Int
  more : Bool
deriving DecidableEq, Repr

/-- A result rounded to a precision with an unbounded exponent. -/
structure FpRounded where
  mant : Nat
  exp : Int
  inexact : Bool
deriving DecidableEq, Repr

/-- Whether rounding goes away from zero: `rest` of `2^shift` parts lie beyond the kept bits (R623). -/
def roundsUp (rm : BitVec 2) (sign odd more : Bool) (rest shift : Nat) : Bool :=
  if rm = 0 then decide (2 ^ shift < 2 * rest) || (decide (2 * rest = 2 ^ shift) && (more || odd))
  else if rm = 1 then false
  else (decide (rest ≠ 0) || more) && (if rm = 2 then !sign else sign)

/-- Round a non-zero exact result to `p` bits of precision, exponent unbounded (R623). -/
def FpExact.round (x : FpExact) (rm : BitVec 2) (p : Nat) : FpRounded :=
  let len := x.mant.log2 + 1
  if len ≤ p then ⟨x.mant * 2 ^ (p - len), x.exp - ((p - len : Nat) : Int), x.more⟩
  else
    let shift := len - p
    let q := x.mant / 2 ^ shift
    let rest := x.mant % 2 ^ shift
    let q1 := if roundsUp rm x.sign (q % 2 = 1) x.more rest shift then q + 1 else q
    if q1 = 2 ^ p then ⟨2 ^ (p - 1), x.exp + shift + 1, decide (rest ≠ 0) || x.more⟩
    else ⟨q1, x.exp + shift, decide (rest ≠ 0) || x.more⟩

/-- The exponent field a rounded value would have (R48). -/
def FpFmt.expField (f : FpFmt) (r : FpRounded) : Int := r.exp + f.frac + f.bias

/-- The result of an overflow (R624). -/
def FpFmt.overflowed (f : FpFmt) (rm : BitVec 2) (sign : Bool) : DWord :=
  if rm = 0 then f.inf sign
  else if rm = 1 then f.maxFinite sign
  else if rm = 2 then (if sign then f.maxFinite sign else f.inf sign)
  else (if sign then f.inf sign else f.maxFinite sign)

/-- What replaces a tiny result, if the flush bits cover it (R627); `product` for the intermediate of a multiply-add. -/
def FpFmt.flushTiny (f : FpFmt) (e : FpEnv) (product : Bool) (x : FpExact) : Option DWord :=
  if e.fn then
    let half : Int := 1 - (f.bias : Int) - 1
    let k := (half - x.exp).toNat
    if x.exp ≤ half then
      if x.mant < 2 ^ k then some (f.zero x.sign)
      else if x.mant = 2 ^ k && !x.more then
        some (if Config.freeBool e.draw (.flushMidpoint product) then f.minNorm x.sign else f.zero x.sign)
      else some (f.minNorm x.sign)
    else some (f.minNorm x.sign)
  else if e.fs || e.fo then
    some (if (e.rm = 2 && !x.sign) || (e.rm = 3 && x.sign) then f.minNorm x.sign else f.zero x.sign)
  else none

/-- A rounded value brought into the range of the format (R624, R627). -/
def FpFmt.fit (f : FpFmt) (e : FpEnv) (x : FpExact) (r : FpRounded) : FpOut :=
  if (f.maxExp : Int) ≤ f.expField r then .val (f.overflowed e.rm x.sign) .overflow
  else if f.expField r < 1 then
    match f.flushTiny e false x with
    | some w => .val w .underflow
    | none => .unimplemented
  else .val (f.pack x.sign (f.expField r).toNat (r.mant - 2 ^ f.frac)) (.inexact r.inexact)

/-- Round a non-zero exact result to the format (R623). -/
def FpFmt.roundExact (f : FpFmt) (e : FpEnv) (x : FpExact) : FpOut := f.fit e x (x.round e.rm (f.frac + 1))

/-- The sign of an exact zero sum of opposite-signed operands (R623). -/
def zeroSumSign (rm : BitVec 2) : Bool := rm = 3

/-- An exact finite value as a result: zero with its sign, or rounded. -/
def FpFmt.roundVal (f : FpFmt) (e : FpEnv) (sign : Bool) (mant : Nat) (exp : Int) : FpOut :=
  if mant = 0 then .val (f.zero sign) .none else f.roundExact e ⟨sign, mant, exp, false⟩

/-! ## Operands: tiny operands, NaNs (R625, R627) -/

/-- An operand after flushing (R627); none where it makes the instruction Unimplemented. -/
def FpFmt.operand (f : FpFmt) (e : FpEnv) (w : DWord) : Option DWord :=
  if f.tiny w then (if e.fs || e.fo then some (f.zero (f.signOf w)) else none) else some w

/-- Whether a bit pattern is a NaN, a signalling NaN. -/
def FpFmt.isNan (f : FpFmt) (w : DWord) : Bool := match f.value w with | .nan _ => true | _ => false
def FpFmt.isSnan (f : FpFmt) (w : DWord) : Bool := f.value w = .nan true

/-- The untrapped result of an invalid operation (R624, R625). -/
def FpFmt.invalid (f : FpFmt) : FpOut := .val f.qnan .invalid

/-- The result where an operand is a NaN (R625): Invalid for a signalling one; otherwise one of the quiet operands or
the default (D10). None where no operand is a NaN. -/
def FpFmt.nanResult (f : FpFmt) (e : FpEnv) (product : Bool) (ws : List DWord) : Option FpOut :=
  if ws.any f.isSnan then some f.invalid
  else
    match ws.filter f.isNan with
    | [] => none
    | qs => some (.val ((qs ++ [f.qnan])[Config.freeNat e.draw (.nanChoice product) % (qs.length + 1)]?.getD f.qnan) .none)

/-! ## Addition and multiplication (R647 to R649) -/

/-- `mant * 2^exp` with a sign, over a common exponent. -/
def scaled (sign : Bool) (mant : Nat) (exp e0 : Int) : Int :=
  let v : Int := ((mant * 2 ^ (exp - e0).toNat : Nat) : Int)
  if sign then -v else v

/-- The exact sum of two values that are not NaNs, rounded (R647). -/
def FpFmt.addVal (f : FpFmt) (e : FpEnv) (a b : FpVal) : FpOut :=
  match a, b with
  | .inf sa, .inf sb => if sa = sb then .val (f.inf sa) .none else f.invalid
  | .inf sa, _ => .val (f.inf sa) .none
  | _, .inf sb => .val (f.inf sb) .none
  | .fin sa ma ea, .fin sb mb eb =>
    let e0 := min ea eb
    let t := scaled sa ma ea e0 + scaled sb mb eb e0
    if t = 0 then .val (f.zero (if sa = sb then sa else zeroSumSign e.rm)) .none
    else f.roundExact e ⟨t < 0, t.natAbs, e0, false⟩
  | _, _ => f.invalid

/-- The value with its sign inverted. -/
def FpVal.neg : FpVal → FpVal
  | .nan g => .nan g
  | .inf s => .inf (!s)
  | .fin s m x => .fin (!s) m x

/-- `add.fmt`, and `sub.fmt` with `negate` (R647, R648). -/
def fpAdd (f : FpFmt) (negate : Bool) (e : FpEnv) (a b : DWord) : FpOut :=
  match f.operand e a, f.operand e b with
  | some a, some b =>
    (f.nanResult e false [a, b]).getD
      (f.addVal e (f.value a) (if negate then (f.value b).neg else f.value b))
  | _, _ => .unimplemented

/-- The exact product of two values that are not NaNs; none where it is invalid (R649). -/
def mulVal (a b : FpVal) : Option FpVal :=
  match a, b with
  | .inf sa, .inf sb => some (.inf (sa != sb))
  | .inf sa, .fin sb mb _ => if mb = 0 then none else some (.inf (sa != sb))
  | .fin sa ma _, .inf sb => if ma = 0 then none else some (.inf (sa != sb))
  | .fin sa ma ea, .fin sb mb eb => some (.fin (sa != sb) (ma * mb) (ea + eb))
  | _, _ => none

/-- A value that is not a NaN as a result of the format. -/
def FpFmt.ofVal (f : FpFmt) (e : FpEnv) : FpVal → FpOut
  | .nan _ => .val f.qnan .none
  | .inf s => .val (f.inf s) .none
  | .fin s m x => f.roundVal e s m x

/-- `mul.fmt` (R649). -/
def fpMul (f : FpFmt) (e : FpEnv) (a b : DWord) : FpOut :=
  match f.operand e a, f.operand e b with
  | some a, some b =>
    (f.nanResult e false [a, b]).getD
      (match mulVal (f.value a) (f.value b) with
      | none => f.invalid
      | some v => f.ofVal e v)
  | _, _ => .unimplemented

/-! ## Division and square root (R650, R651) -/

/-- Extra bits of a quotient: more than any format's precision by several. -/
def quotientBits : Nat := 64

/-- `ma * 2^ea / (mb * 2^eb)` for non-zero mantissas of full precision. -/
def quotient (sign : Bool) (ma : Nat) (ea : Int) (mb : Nat) (eb : Int) : FpExact :=
  let n := ma * 2 ^ quotientBits
  ⟨sign, n / mb, ea - eb - quotientBits, n % mb ≠ 0⟩

/-- `div.fmt` (R650). -/
def fpDiv (f : FpFmt) (e : FpEnv) (a b : DWord) : FpOut :=
  match f.operand e a, f.operand e b with
  | some a, some b =>
    (f.nanResult e false [a, b]).getD
      (match f.value a, f.value b with
      | .inf _, .inf _ => f.invalid
      | .inf sa, .fin sb _ _ => .val (f.inf (sa != sb)) .none
      | .fin sa _ _, .inf sb => .val (f.zero (sa != sb)) .none
      | .fin sa ma ea, .fin sb mb eb =>
        if mb = 0 then (if ma = 0 then f.invalid else .val (f.inf (sa != sb)) .divZero)
        else if ma = 0 then .val (f.zero (sa != sb)) .none
        else f.roundExact e (quotient (sa != sb) ma ea mb eb)
      | _, _ => f.invalid)
  | _, _ => .unimplemented

/-- The integer square root: bits from `2^(k-1)` down. -/
def isqrt (n : Nat) : Nat → Nat → Nat
  | 0, r => r
  | k + 1, r => isqrt n k (if (r + 2 ^ k) * (r + 2 ^ k) ≤ n then r + 2 ^ k else r)

/-- The integer square root of `n`. -/
def natSqrt (n : Nat) : Nat := isqrt n (n.log2 / 2 + 1) 0

/-- The square root of a positive `m * 2^e`. -/
def rootExact (m : Nat) (e : Int) : FpExact :=
  let odd : Nat := (e % 2).toNat
  let n := m * 2 ^ (odd + 2 * quotientBits)
  let r := natSqrt n
  ⟨false, r, (e - odd) / 2 - quotientBits, r * r ≠ n⟩

/-- `sqrt.fmt` (R651). -/
def fpSqrt (f : FpFmt) (e : FpEnv) (a : DWord) : FpOut :=
  match f.operand e a with
  | none => .unimplemented
  | some a =>
    (f.nanResult e false [a]).getD
      (match f.value a with
      | .inf s => if s then f.invalid else .val (f.inf false) .none
      | .fin s m x =>
        if m = 0 then .val (f.zero s) .none
        else if s then f.invalid
        else f.roundExact e (rootExact m x)
      | .nan _ => f.invalid)

/-! ## Approximations (R658, R659, D44) -/

/-- The representable values within `k` units in the last place of an exact value, as numbers of half units: `q` is
the value's integer part in units `2^e`. -/
def nearby (p : Nat) (x : FpExact) (q : Nat) (e : Int) (k : Nat) : List Nat :=
  let scale := 2 ^ (e - 1 - x.exp).toNat
  ((List.range (4 * k + 4)).map (fun i => 2 * q + 2 + i - 2 * k - 2)).filter (fun h =>
    decide (x.mant + (if x.more then 1 else 0) ≤ h * scale + 2 * k * scale) &&
    decide (h * scale ≤ x.mant + 2 * k * scale) &&
    (h < 2 ^ p || (decide (h % 2 = 0) && (decide (h < 2 ^ (p + 1)) || decide (h % 4 = 0)))))

/-- A free one of the format's values within `k` units in the last place; Inexact unless it is the exact value. -/
def FpFmt.approx (f : FpFmt) (e : FpEnv) (k : Nat) (x : FpExact) : FpOut :=
  let p := f.frac + 1
  let r0 := x.round 1 p
  let hs := nearby p x r0.mant r0.exp k
  let h := hs[Config.freeNat e.draw .approx % hs.length]?.getD (2 * r0.mant)
  let y : FpExact := ⟨x.sign, h, r0.exp - 1, false⟩
  f.fit e x { y.round 1 p with inexact := r0.inexact || decide (h ≠ 2 * r0.mant) }

/-- `recip.fmt` (R658). -/
def fpRecip (f : FpFmt) (e : FpEnv) (a : DWord) : FpOut :=
  match f.operand e a with
  | none => .unimplemented
  | some a =>
    (f.nanResult e false [a]).getD
      (match f.value a with
      | .inf s => .val (f.zero s) .none
      | .fin s m x => if m = 0 then .val (f.inf s) .divZero else f.approx e 1 (quotient s (2 ^ f.frac) (-f.frac) m x)
      | .nan _ => f.invalid)

/-- `1 / sqrt(m * 2^e)` for a positive value. -/
def rootRecip (m : Nat) (e : Int) : FpExact :=
  let odd : Nat := (e % 2).toNat
  let d := m * 2 ^ odd
  let n := 2 ^ (4 * quotientBits)
  let r := natSqrt (n / d)
  ⟨false, r, -((e - odd) / 2) - 2 * quotientBits, r * r * d ≠ n⟩

/-- `rsqrt.fmt` (R659). -/
def fpRsqrt (f : FpFmt) (e : FpEnv) (a : DWord) : FpOut :=
  match f.operand e a with
  | none => .unimplemented
  | some a =>
    (f.nanResult e false [a]).getD
      (match f.value a with
      | .inf s => if s then f.invalid else .val (f.zero false) .none
      | .fin s m x =>
        if m = 0 then .val (f.inf s) .divZero
        else if s then f.invalid
        else f.approx e 2 (rootRecip m x)
      | .nan _ => f.invalid)

/-! ## Sign operations (R653, R654) -/

/-- `abs.fmt`, `neg.fmt`: only a signalling NaN signals, a quiet NaN keeps its sign (R625). -/
def fpSign (f : FpFmt) (sign : Bool → Bool) (a : DWord) : FpOut :=
  match f.value a with
  | .nan g => if g then f.invalid else .val a .none
  | _ => .val (f.pack (sign (f.signOf a)) (f.expOf a) (f.fracOf a)) .none

/-! ## Multiply-add (R629, R661 to R664) -/

/-- The intermediate product of two values that are not NaNs: rounded to the format's precision; a tiny one is replaced
under `FS` and otherwise kept exactly (R627, R629; log 27). None where it is invalid. -/
def FpFmt.productVal (f : FpFmt) (e : FpEnv) (a b : FpVal) : Option (FpVal × FpFlags) :=
  match mulVal a b with
  | none => none
  | some (.fin s m x) =>
    if m = 0 then some (.fin s 0 x, .none)
    else
      let p : FpExact := ⟨s, m, x, false⟩
      let r := p.round e.rm (f.frac + 1)
      if f.expField r < 1 then
        match (if e.fs then f.flushTiny e true p else none) with
        | some w => some (f.value w, .underflow)
        | none => some (.fin s m x, .none)
      else
        match f.fit e p r with
        | .val w c => some (f.value w, c)
        | .unimplemented => none
  | some v => some (v, .none)

/-- A result with the conditions of an earlier step added (R629). -/
def FpOut.also (c : FpFlags) : FpOut → FpOut
  | .val w c' => .val w (c.or c')
  | .unimplemented => .unimplemented

/-- The sign bit of a result that is not a NaN inverted (R663, R664). -/
def FpOut.negated (f : FpFmt) : FpOut → FpOut
  | .val w c => .val (if f.isNan w then w else f.pack (!f.signOf w) (f.expOf w) (f.fracOf w)) c
  | .unimplemented => .unimplemented

/-- `round(round'(a * b) ± c)` (R629): NaNs of the product step, then of the sum. An invalid product gives the default
quiet NaN whatever the addend is (R625). -/
def fpMulAdd (f : FpFmt) (subtract : Bool) (e : FpEnv) (c a b : DWord) : FpOut :=
  match f.operand e c, f.operand e a, f.operand e b with
  | some c, some a, some b =>
    match f.nanResult e true [a, b] with
    | some (.val w k) => if k.v then f.invalid else (f.nanResult e false [w, c]).getD (.val w .none)
    | some .unimplemented => .unimplemented
    | none =>
      match f.productVal e (f.value a) (f.value b) with
      | none => f.invalid
      | some (v, k) =>
        ((f.nanResult e false [c]).getD
          (f.addVal e v (if subtract then (f.value c).neg else f.value c))).also k
  | _, _, _ => .unimplemented

/-! ## Conversions (R628, R674, R675) -/

/-- The integer nearest to `m * 2^x` under a rounding mode, and whether it differs. -/
def roundToInt (rm : BitVec 2) (sign : Bool) (m : Nat) (x : Int) : Int × Bool :=
  if 0 ≤ x then
    let v : Int := ((m * 2 ^ x.toNat : Nat) : Int)
    (if sign then -v else v, false)
  else
    let k := (-x).toNat
    let q := m / 2 ^ k
    let rest := m % 2 ^ k
    let q1 : Int := ((if roundsUp rm sign (q % 2 = 1) false rest k then q + 1 else q : Nat) : Int)
    (if sign then -q1 else q1, rest ≠ 0)

/-- The untrapped result of an integer conversion that is invalid (R628). -/
def intInvalid (dst : FpFmt) : DWord := if dst.is64 then 0x7FFFFFFFFFFFFFFF else 0x7FFFFFFF

/-- Whether an integer lies in the range of W or L (R628). -/
def intFits (dst : FpFmt) (v : Int) : Bool :=
  if dst.is64 then decide (-(2 : Int) ^ 63 ≤ v ∧ v < 2 ^ 63) else decide (-(2 : Int) ^ 31 ≤ v ∧ v < 2 ^ 31)

/-- The operand of a conversion: a tiny one is flushed under `FS` or `FO` and otherwise used as it is (R626, R627, D36;
log 27). -/
def FpFmt.convOperand (f : FpFmt) (e : FpEnv) (w : DWord) : DWord := (f.operand e w).getD w

/-- A conversion to W or L under a rounding mode (R628). -/
def fpToInt (src dst : FpFmt) (mode : FpEnv → BitVec 2) (e : FpEnv) (a : DWord) : FpOut :=
  match src.value (src.convOperand e a) with
  | .fin s m x =>
    let r := roundToInt (mode e) s m x
    if intFits dst r.1 then .val ((BitVec.ofInt (if dst.is64 then 64 else 32) r.1).setWidth 64) (.inexact r.2)
    else .val (intInvalid dst) .invalid
  | _ => .val (intInvalid dst) .invalid

/-- A quiet NaN in another format: the default, or the operand's where its bits leave a NaN (R625; log 26). -/
def convNan (src dst : FpFmt) (e : FpEnv) (a : DWord) : DWord :=
  let m := if dst.is64 then src.fracOf a * 2 ^ 29 else src.fracOf a / 2 ^ 29
  if m ≠ 0 && Config.freeBool e.draw (.nanChoice false) then dst.pack (src.signOf a) dst.maxExp m else dst.qnan

/-- `cvt.s.d`, `cvt.d.s` (R674, R675). -/
def fpToFp (src dst : FpFmt) (e : FpEnv) (a : DWord) : FpOut :=
  match src.value (src.convOperand e a) with
  | .nan g => if g then dst.invalid else .val (convNan src dst e a) .none
  | .inf s => .val (dst.inf s) .none
  | .fin s m x => dst.roundVal e s m x

/-- The integer in a W or L operand. -/
def FpFmt.intOf (f : FpFmt) (a : DWord) : Int := if f.is64 then a.toInt else (a.setWidth 32).toInt

/-- `cvt.s.w`, `cvt.s.l`, `cvt.d.w`, `cvt.d.l` (R674, R675). -/
def fpOfInt (src dst : FpFmt) (e : FpEnv) (a : DWord) : FpOut :=
  let v := src.intOf a
  dst.roundVal e (v < 0) v.natAbs 0

/-! ## Comparison (R660) -/

/-- Whether `a < b`, and whether `a = b`, for values that are not NaNs; `+0 = -0`. -/
def compareVal (a b : FpVal) : Bool × Bool :=
  match a, b with
  | .inf sa, .inf sb => (sa && !sb, sa = sb)
  | .inf sa, .fin _ _ _ => (sa, false)
  | .fin _ _ _, .inf sb => (!sb, false)
  | .fin sa ma ea, .fin sb mb eb =>
    let e0 := min ea eb
    (scaled sa ma ea e0 < scaled sb mb eb e0, scaled sa ma ea e0 = scaled sb mb eb e0)
  | _, _ => (false, false)

/-- The condition code a compare gives, and whether it signals Invalid (R660). -/
def fpCompare (f : FpFmt) (cond : BitVec 4) (a b : DWord) : Bool × Bool :=
  let unordered := f.isNan a || f.isNan b
  let c := compareVal (f.value a) (f.value b)
  ((cond.getLsbD 2 && !unordered && c.1) || (cond.getLsbD 1 && !unordered && c.2) || (cond.getLsbD 0 && unordered),
    f.isSnan a || f.isSnan b || (cond.getLsbD 3 && unordered))

end Sys2Proof.Machine
end

