-- ==== Sys2Proof/Machine/Fpu.lean ====
section
/-! DEFINITION. The floating point instructions (spec/45_fpu.md R630 to R677). -/

namespace Sys2Proof.Machine

/-! ## Operand access and the guards (R620 to R622) -/

/-- A coprocessor 1 instruction: Coprocessor Unusable first (R620). -/
def State.cop1Instr (s : State) (k : Out) : Out := if s.cp1Usable then k else s.raise (.cpu 1)

/-- Whether a register may be named in a format (R46, U21). -/
def State.fmtOk (s : State) (f : FpFmt) (r : Reg) : Bool := !f.is64 || s.dRegOk r

/-- `Read(fmt, i)` (R621), in 64 bits. -/
def State.readFpr (s : State) (f : FpFmt) (r : Reg) : DWord :=
  if f.is64 then s.readFprD r else (s.readFprW r).setWidth 64

/-- `Write(fmt, i, v)` (R621). -/
def State.writeFpr (s : State) (f : FpFmt) (r : Reg) (v : DWord) : State :=
  if f.is64 then s.writeFprD r v else s.writeFprW r (v.setWidth 32)

/-- The named registers must fit their formats; an odd one for a 64-bit format with `FR = 0` is refused (U21). -/
def State.needRegs (s : State) (rs : List (FpFmt × Reg)) (k : Out) : Out :=
  if rs.all (fun p => s.fmtOk p.1 p.2) then k else .refused .oddFpRegister

/-- L-format instructions, `luxc1` and `suxc1` need 64-bit registers (R622, D26). -/
def State.needFr1 (s : State) (k : Out) : Out := if s.frUse then k else .refused .fr0LongFormat

/-! ## The frame of an arithmetic instruction (R624) -/

/-- `FCSR` with `E` and `Cause` replaced (R624, R626). -/
def setCause (f : Word) (e : Bool) (c : FpFlags) : Word :=
  merge f (bitAt 17 e ||| (c.bits.setWidth 32 <<< 12)) 0x0003F000

/-- `FCSR` with conditions added to `Flags` (R624). -/
def addFlags (f : Word) (c : FpFlags) : Word := f ||| (c.bits.setWidth 32 <<< 2)

/-- Whether a condition is enabled, or `E` is set: the Floating Point exception of R624, R626 and R57. -/
def fpTraps (f : Word) : Bool := f.getLsbD 17 || (f.extractLsb' 12 5 &&& f.extractLsb' 7 5) != 0

/-- The end of an arithmetic instruction (R624): the exception with the destination and `Flags` unchanged, or the
result written. -/
def State.fpEnd (s : State) (dst : FpFmt) (fd : Reg) (r : FpOut) : Out :=
  match r with
  | .unimplemented => State.raise { s with fcsr := setCause s.fcsr true .none } .fpe
  | .val w c =>
    let f := setCause s.fcsr false c
    if fpTraps f then State.raise { s with fcsr := f } .fpe
    else State.advance ({ s with fcsr := addFlags f c }.writeFpr dst fd w)

/-- An arithmetic instruction with one source. -/
def State.fpOp1 (s : State) (src dst : FpFmt) (fs fd : Reg) (op : FpEnv → DWord → FpOut) : Out :=
  s.cop1Instr (s.needRegs [(src, fs), (dst, fd)] (s.fpEnd dst fd (op s.fpEnv (s.readFpr src fs))))

/-- An L-format conversion (R622). -/
def State.fpOpL (s : State) (src dst : FpFmt) (fs fd : Reg) (op : FpEnv → DWord → FpOut) : Out :=
  s.cop1Instr (s.needFr1 (s.fpEnd dst fd (op s.fpEnv (s.readFpr src fs))))

/-- An arithmetic instruction with two sources `fs`, `ft`. -/
def State.fpOp2 (s : State) (f : FpFmt) (fs ft fd : Reg) (op : FpEnv → DWord → DWord → FpOut) : Out :=
  s.cop1Instr (s.needRegs [(f, fs), (f, ft), (f, fd)]
    (s.fpEnd f fd (op s.fpEnv (s.readFpr f fs) (s.readFpr f ft))))

/-- A multiply-add: addend `fr`, factors `fs`, `ft`. -/
def State.fpOp3 (s : State) (f : FpFmt) (fr fs ft fd : Reg) (op : FpEnv → DWord → DWord → DWord → FpOut) : Out :=
  s.cop1Instr (s.needRegs [(f, fr), (f, fs), (f, ft), (f, fd)]
    (s.fpEnd f fd (op s.fpEnv (s.readFpr f fr) (s.readFpr f fs) (s.readFpr f ft))))

/-- A compare (R660). -/
def State.fpCond (s : State) (f : FpFmt) (cond : BitVec 4) (fs ft : Reg) (cc : BitVec 3) : Out :=
  s.cop1Instr (s.needRegs [(f, fs), (f, ft)]
    (let r := fpCompare f cond (s.readFpr f fs) (s.readFpr f ft)
     let c := if r.2 then FpFlags.invalid else .none
     let w := setCause s.fcsr false c
     if fpTraps w then State.raise { s with fcsr := w } .fpe
     else State.advance ({ s with fcsr := addFlags w c }.setFcc cc r.1)))

/-- A move of bits that may depend on a condition (R652, R655 to R657). -/
def State.fpMove (s : State) (f : FpFmt) (go : Bool) (fs fd : Reg) : Out :=
  s.cop1Instr (s.needRegs [(f, fs), (f, fd)]
    (if go then (s.writeFpr f fd (s.readFpr f fs)).advance else s.advance))

/-! ## Loads and stores (R636 to R645) -/

/-- A load of a format's size; after a failed read a free value (R246). -/
def State.fpLoad (s : State) (f : FpFmt) (ft : Reg) (va : Word) : Out :=
  s.needRegs [(f, ft)]
    ((s.memRead va (if f.is64 then 8 else 4) (.fpr ft)).andThen fun v s1 =>
      .ok () (s1.writeFpr f ft ((v.map (BitVec.ofNat 64)).getD (s.failedLoad true ++ s.failedLoad false)))).finish

/-- A store of a format's size. -/
def State.fpStore (s : State) (f : FpFmt) (ft : Reg) (va : Word) : Out :=
  s.needRegs [(f, ft)] (s.memWrite va (if f.is64 then 8 else 4) (s.readFpr f ft).toNat).finish

/-- The address of `luxc1`, `suxc1`: the low three bits are ignored (R642, R645). -/
def alignedDouble (va : Word) : Word := va &&& 0xFFFFFFF8

/-! ## Control registers (R633, R634, R50 to R55) -/

/-- `FIR` (R52). -/
def firWord (cfg : Cfg) : Word := 0x01739300 ||| cfg.firRevision.setWidth 32

/-- A control register by number; none for a number without a register (U22). -/
def State.fpControl (s : State) (n : Reg) : Option Word :=
  if n = 0 then some (firWord s.cfg)
  else if n = 25 then some (fccrView s.fcsr)
  else if n = 26 then some (fexrView s.fcsr)
  else if n = 28 then some (fenrView s.fcsr)
  else if n = 31 then some s.fcsr
  else none

/-- `FCSR` after a write through a view; none for a number without a register (R51 to R55). -/
def fpControlWrite (f : Word) (n : Reg) (w : Word) : Option Word :=
  if n = 0 then some f
  else if n = 25 then some (merge f ((w.extractLsb' 1 7 ++ 0#1 ++ w.extractLsb' 0 1).setWidth 32 <<< 23) 0xFE800000)
  else if n = 26 then some (merge f w 0x0003F07C)
  else if n = 28 then some (merge (putBit f 24 (w.getLsbD 2)) w 0x00000F83)
  else if n = 31 then some (w &&& 0xFFE3FFFF)
  else none

/-! ## Moves (R630 to R634) -/

/-- `mfc1 rt, fs` (R630). -/
def execMfc1 (rt : Reg) (fs : Reg) (s : State) : Out :=
  s.cop1Instr (s.put rt (s.readFprW fs))

/-- `mtc1 rt, fs` (R635). -/
def execMtc1 (rt : Reg) (fs : Reg) (s : State) : Out :=
  s.cop1Instr (s.writeFprW fs (s.readGpr rt)).advance

/-- `mfhc1 rt, fs` (R631). -/
def execMfhc1 (rt : Reg) (fs : Reg) (s : State) : Out :=
  s.cop1Instr
    (if s.frUse then s.put rt ((s.fpr.get fs.toFin).extractLsb' 32 32)
     else s.needRegs [(.double, fs)] (s.put rt (s.readFprW (pairHigh fs))))

/-- `mthc1 rt, fs` (R632). -/
def execMthc1 (rt : Reg) (fs : Reg) (s : State) : Out :=
  s.cop1Instr
    (if s.frUse then
      State.advance { s with fpr := s.fpr.set fs.toNat (s.readGpr rt ++ s.readFprW fs) fs.isLt }
     else s.needRegs [(.double, fs)] (s.setFprLow (pairHigh fs) (s.readGpr rt)).advance)

/-- `cfc1 rt, fs` (R633). -/
def execCfc1 (rt : Reg) (fs : Reg) (s : State) : Out :=
  s.cop1Instr
    (match s.fpControl fs with
     | some w => s.put rt w
     | none => .refused .fpControlNumber)

/-- `ctc1 rt, fs` (R634): the write through the view, then the check of R57, whichever register was named (R634, R794).
For `FIR`, which the write leaves alone, R52 says 'no effect'; the check of R634 is taken over it (DESIGN CHOICE,
log 56). -/
def execCtc1 (rt : Reg) (fs : Reg) (s : State) : Out :=
  s.cop1Instr
    (match fpControlWrite s.fcsr fs (s.readGpr rt) with
     | some w =>
       if fpTraps w then State.raise { s with fcsr := w } .fpe
       else State.advance { s with fcsr := w }
     | none => .refused .fpControlNumber)

/-! ## Loads and stores -/

/-- `lwc1 ft, offset(base)` (R636). -/
def execLwc1 (base : Reg) (ft : Reg) (imm : BitVec 16) (s : State) : Out :=
  s.cop1Instr (s.fpLoad .single ft (s.effAddr base imm))

/-- `ldc1 ft, offset(base)` (R637). -/
def execLdc1 (base : Reg) (ft : Reg) (imm : BitVec 16) (s : State) : Out :=
  s.cop1Instr (s.fpLoad .double ft (s.effAddr base imm))

/-- `swc1 ft, offset(base)` (R638). -/
def execSwc1 (base : Reg) (ft : Reg) (imm : BitVec 16) (s : State) : Out :=
  s.cop1Instr (s.fpStore .single ft (s.effAddr base imm))

/-- `sdc1 ft, offset(base)` (R639). -/
def execSdc1 (base : Reg) (ft : Reg) (imm : BitVec 16) (s : State) : Out :=
  s.cop1Instr (s.fpStore .double ft (s.effAddr base imm))

/-- `lwxc1 fd, index(base)` (R640). -/
def execLwxc1 (base : Reg) (index : Reg) (fd : Reg) (s : State) : Out :=
  s.cop1Instr (s.fpLoad .single fd (s.indexedAddr base index))

/-- `ldxc1 fd, index(base)` (R641). -/
def execLdxc1 (base : Reg) (index : Reg) (fd : Reg) (s : State) : Out :=
  s.cop1Instr (s.fpLoad .double fd (s.indexedAddr base index))

/-- `luxc1 fd, index(base)` (R642). -/
def execLuxc1 (base : Reg) (index : Reg) (fd : Reg) (s : State) : Out :=
  s.cop1Instr (s.needFr1 (s.fpLoad .double fd (alignedDouble (s.indexedAddr base index))))

/-- `swxc1 fs, index(base)` (R643). -/
def execSwxc1 (base : Reg) (index : Reg) (fs : Reg) (s : State) : Out :=
  s.cop1Instr (s.fpStore .single fs (s.indexedAddr base index))

/-- `sdxc1 fs, index(base)` (R644). -/
def execSdxc1 (base : Reg) (index : Reg) (fs : Reg) (s : State) : Out :=
  s.cop1Instr (s.fpStore .double fs (s.indexedAddr base index))

/-- `suxc1 fs, index(base)` (R645). -/
def execSuxc1 (base : Reg) (index : Reg) (fs : Reg) (s : State) : Out :=
  s.cop1Instr (s.needFr1 (s.fpStore .double fs (alignedDouble (s.indexedAddr base index))))

/-- `prefx hint, index(base)` (R646). -/
def execPrefx (base : Reg) (index : Reg) (hint : Reg) (s : State) : Out :=
  s.cop1Instr (s.prefetchAt hint (s.indexedAddr base index)).finish

/-! ## Arithmetic -/

/-- `add.fmt fd, fs, ft` (R647). -/
def execAddS (ft : Reg) (fs : Reg) (fd : Reg) (s : State) : Out :=
  s.fpOp2 .single fs ft fd (fpAdd .single false)

/-- `add.fmt fd, fs, ft` (R647). -/
def execAddD (ft : Reg) (fs : Reg) (fd : Reg) (s : State) : Out :=
  s.fpOp2 .double fs ft fd (fpAdd .double false)

/-- `sub.fmt fd, fs, ft` (R648). -/
def execSubS (ft : Reg) (fs : Reg) (fd : Reg) (s : State) : Out :=
  s.fpOp2 .single fs ft fd (fpAdd .single true)

/-- `sub.fmt fd, fs, ft` (R648). -/
def execSubD (ft : Reg) (fs : Reg) (fd : Reg) (s : State) : Out :=
  s.fpOp2 .double fs ft fd (fpAdd .double true)

/-- `mul.fmt fd, fs, ft` (R649). -/
def execMulS (ft : Reg) (fs : Reg) (fd : Reg) (s : State) : Out :=
  s.fpOp2 .single fs ft fd (fpMul .single)

/-- `mul.fmt fd, fs, ft` (R649). -/
def execMulD (ft : Reg) (fs : Reg) (fd : Reg) (s : State) : Out :=
  s.fpOp2 .double fs ft fd (fpMul .double)

/-- `div.fmt fd, fs, ft` (R650). -/
def execDivS (ft : Reg) (fs : Reg) (fd : Reg) (s : State) : Out :=
  s.fpOp2 .single fs ft fd (fpDiv .single)

/-- `div.fmt fd, fs, ft` (R650). -/
def execDivD (ft : Reg) (fs : Reg) (fd : Reg) (s : State) : Out :=
  s.fpOp2 .double fs ft fd (fpDiv .double)

/-- `sqrt.fmt fd, fs` (R651). -/
def execSqrtS (fs : Reg) (fd : Reg) (s : State) : Out :=
  s.fpOp1 .single .single fs fd (fpSqrt .single)

/-- `sqrt.fmt fd, fs` (R651). -/
def execSqrtD (fs : Reg) (fd : Reg) (s : State) : Out :=
  s.fpOp1 .double .double fs fd (fpSqrt .double)

/-- `recip.fmt fd, fs` (R658). -/
def execRecipS (fs : Reg) (fd : Reg) (s : State) : Out :=
  s.fpOp1 .single .single fs fd (fpRecip .single)

/-- `recip.fmt fd, fs` (R658). -/
def execRecipD (fs : Reg) (fd : Reg) (s : State) : Out :=
  s.fpOp1 .double .double fs fd (fpRecip .double)

/-- `rsqrt.fmt fd, fs` (R659). -/
def execRsqrtS (fs : Reg) (fd : Reg) (s : State) : Out :=
  s.fpOp1 .single .single fs fd (fpRsqrt .single)

/-- `rsqrt.fmt fd, fs` (R659). -/
def execRsqrtD (fs : Reg) (fd : Reg) (s : State) : Out :=
  s.fpOp1 .double .double fs fd (fpRsqrt .double)

/-- `abs.fmt fd, fs` (R653). -/
def execAbsS (fs : Reg) (fd : Reg) (s : State) : Out :=
  s.fpOp1 .single .single fs fd (fun _ => fpSign .single (fun _ => false))

/-- `abs.fmt fd, fs` (R653). -/
def execAbsD (fs : Reg) (fd : Reg) (s : State) : Out :=
  s.fpOp1 .double .double fs fd (fun _ => fpSign .double (fun _ => false))

/-- `neg.fmt fd, fs` (R654). -/
def execNegS (fs : Reg) (fd : Reg) (s : State) : Out :=
  s.fpOp1 .single .single fs fd (fun _ => fpSign .single not)

/-- `neg.fmt fd, fs` (R654). -/
def execNegD (fs : Reg) (fd : Reg) (s : State) : Out :=
  s.fpOp1 .double .double fs fd (fun _ => fpSign .double not)

/-- `madd.fmt fd, fr, fs, ft` (R661). -/
def execMaddS (fr : Reg) (ft : Reg) (fs : Reg) (fd : Reg) (s : State) : Out :=
  s.fpOp3 .single fr fs ft fd (fpMulAdd .single false)

/-- `madd.fmt fd, fr, fs, ft` (R661). -/
def execMaddD (fr : Reg) (ft : Reg) (fs : Reg) (fd : Reg) (s : State) : Out :=
  s.fpOp3 .double fr fs ft fd (fpMulAdd .double false)

/-- `msub.fmt fd, fr, fs, ft` (R662). -/
def execMsubS (fr : Reg) (ft : Reg) (fs : Reg) (fd : Reg) (s : State) : Out :=
  s.fpOp3 .single fr fs ft fd (fpMulAdd .single true)

/-- `msub.fmt fd, fr, fs, ft` (R662). -/
def execMsubD (fr : Reg) (ft : Reg) (fs : Reg) (fd : Reg) (s : State) : Out :=
  s.fpOp3 .double fr fs ft fd (fpMulAdd .double true)

/-- `nmadd.fmt fd, fr, fs, ft` (R663). -/
def execNmaddS (fr : Reg) (ft : Reg) (fs : Reg) (fd : Reg) (s : State) : Out :=
  s.fpOp3 .single fr fs ft fd (fun e c x y => (fpMulAdd .single false e c x y).negated .single)

/-- `nmadd.fmt fd, fr, fs, ft` (R663). -/
def execNmaddD (fr : Reg) (ft : Reg) (fs : Reg) (fd : Reg) (s : State) : Out :=
  s.fpOp3 .double fr fs ft fd (fun e c x y => (fpMulAdd .double false e c x y).negated .double)

/-- `nmsub.fmt fd, fr, fs, ft` (R664). -/
def execNmsubS (fr : Reg) (ft : Reg) (fs : Reg) (fd : Reg) (s : State) : Out :=
  s.fpOp3 .single fr fs ft fd (fun e c x y => (fpMulAdd .single true e c x y).negated .single)

/-- `nmsub.fmt fd, fr, fs, ft` (R664). -/
def execNmsubD (fr : Reg) (ft : Reg) (fs : Reg) (fd : Reg) (s : State) : Out :=
  s.fpOp3 .double fr fs ft fd (fun e c x y => (fpMulAdd .double true e c x y).negated .double)

/-! ## Conversions -/

/-- `round.w.fmt fd, fs` (R666). -/
def execRoundWS (fs : Reg) (fd : Reg) (s : State) : Out :=
  s.fpOp1 .single .word fs fd (fpToInt .single .word (fun _ => 0))

/-- `round.w.fmt fd, fs` (R666). -/
def execRoundWD (fs : Reg) (fd : Reg) (s : State) : Out :=
  s.fpOp1 .double .word fs fd (fpToInt .double .word (fun _ => 0))

/-- `trunc.w.fmt fd, fs` (R667). -/
def execTruncWS (fs : Reg) (fd : Reg) (s : State) : Out :=
  s.fpOp1 .single .word fs fd (fpToInt .single .word (fun _ => 1))

/-- `trunc.w.fmt fd, fs` (R667). -/
def execTruncWD (fs : Reg) (fd : Reg) (s : State) : Out :=
  s.fpOp1 .double .word fs fd (fpToInt .double .word (fun _ => 1))

/-- `ceil.w.fmt fd, fs` (R668). -/
def execCeilWS (fs : Reg) (fd : Reg) (s : State) : Out :=
  s.fpOp1 .single .word fs fd (fpToInt .single .word (fun _ => 2))

/-- `ceil.w.fmt fd, fs` (R668). -/
def execCeilWD (fs : Reg) (fd : Reg) (s : State) : Out :=
  s.fpOp1 .double .word fs fd (fpToInt .double .word (fun _ => 2))

/-- `floor.w.fmt fd, fs` (R669). -/
def execFloorWS (fs : Reg) (fd : Reg) (s : State) : Out :=
  s.fpOp1 .single .word fs fd (fpToInt .single .word (fun _ => 3))

/-- `floor.w.fmt fd, fs` (R669). -/
def execFloorWD (fs : Reg) (fd : Reg) (s : State) : Out :=
  s.fpOp1 .double .word fs fd (fpToInt .double .word (fun _ => 3))

/-- `cvt.w.fmt fd, fs` (R676). -/
def execCvtWS (fs : Reg) (fd : Reg) (s : State) : Out :=
  s.fpOp1 .single .word fs fd (fpToInt .single .word FpEnv.rm)

/-- `cvt.w.fmt fd, fs` (R676). -/
def execCvtWD (fs : Reg) (fd : Reg) (s : State) : Out :=
  s.fpOp1 .double .word fs fd (fpToInt .double .word FpEnv.rm)

/-- `round.l.fmt fd, fs` (R670). -/
def execRoundLS (fs : Reg) (fd : Reg) (s : State) : Out :=
  s.fpOpL .single .long fs fd (fpToInt .single .long (fun _ => 0))

/-- `round.l.fmt fd, fs` (R670). -/
def execRoundLD (fs : Reg) (fd : Reg) (s : State) : Out :=
  s.fpOpL .double .long fs fd (fpToInt .double .long (fun _ => 0))

/-- `trunc.l.fmt fd, fs` (R671). -/
def execTruncLS (fs : Reg) (fd : Reg) (s : State) : Out :=
  s.fpOpL .single .long fs fd (fpToInt .single .long (fun _ => 1))

/-- `trunc.l.fmt fd, fs` (R671). -/
def execTruncLD (fs : Reg) (fd : Reg) (s : State) : Out :=
  s.fpOpL .double .long fs fd (fpToInt .double .long (fun _ => 1))

/-- `ceil.l.fmt fd, fs` (R672). -/
def execCeilLS (fs : Reg) (fd : Reg) (s : State) : Out :=
  s.fpOpL .single .long fs fd (fpToInt .single .long (fun _ => 2))

/-- `ceil.l.fmt fd, fs` (R672). -/
def execCeilLD (fs : Reg) (fd : Reg) (s : State) : Out :=
  s.fpOpL .double .long fs fd (fpToInt .double .long (fun _ => 2))

/-- `floor.l.fmt fd, fs` (R673). -/
def execFloorLS (fs : Reg) (fd : Reg) (s : State) : Out :=
  s.fpOpL .single .long fs fd (fpToInt .single .long (fun _ => 3))

/-- `floor.l.fmt fd, fs` (R673). -/
def execFloorLD (fs : Reg) (fd : Reg) (s : State) : Out :=
  s.fpOpL .double .long fs fd (fpToInt .double .long (fun _ => 3))

/-- `cvt.l.fmt fd, fs` (R677). -/
def execCvtLS (fs : Reg) (fd : Reg) (s : State) : Out :=
  s.fpOpL .single .long fs fd (fpToInt .single .long FpEnv.rm)

/-- `cvt.l.fmt fd, fs` (R677). -/
def execCvtLD (fs : Reg) (fd : Reg) (s : State) : Out :=
  s.fpOpL .double .long fs fd (fpToInt .double .long FpEnv.rm)

/-- `cvt.s.fmt fd, fs` (R674). -/
def execCvtSD (fs : Reg) (fd : Reg) (s : State) : Out :=
  s.fpOp1 .double .single fs fd (fpToFp .double .single)

/-- `cvt.d.fmt fd, fs` (R675). -/
def execCvtDS (fs : Reg) (fd : Reg) (s : State) : Out :=
  s.fpOp1 .single .double fs fd (fpToFp .single .double)

/-- `cvt.s.fmt fd, fs` (R674). -/
def execCvtSW (fs : Reg) (fd : Reg) (s : State) : Out :=
  s.fpOp1 .word .single fs fd (fpOfInt .word .single)

/-- `cvt.s.fmt fd, fs` (R674). -/
def execCvtSL (fs : Reg) (fd : Reg) (s : State) : Out :=
  s.fpOpL .long .single fs fd (fpOfInt .long .single)

/-- `cvt.d.fmt fd, fs` (R675). -/
def execCvtDW (fs : Reg) (fd : Reg) (s : State) : Out :=
  s.fpOp1 .word .double fs fd (fpOfInt .word .double)

/-- `cvt.d.fmt fd, fs` (R675). -/
def execCvtDL (fs : Reg) (fd : Reg) (s : State) : Out :=
  s.fpOpL .long .double fs fd (fpOfInt .long .double)

/-! ## Compares, conditional moves, branches -/

/-- `c.cond.fmt cc, fs, ft` (R660). -/
def execCFS (ft : Reg) (fs : Reg) (cc : BitVec 3) (s : State) : Out :=
  s.fpCond .single 0 fs ft cc

/-- `c.cond.fmt cc, fs, ft` (R660). -/
def execCUnS (ft : Reg) (fs : Reg) (cc : BitVec 3) (s : State) : Out :=
  s.fpCond .single 1 fs ft cc

/-- `c.cond.fmt cc, fs, ft` (R660). -/
def execCEqS (ft : Reg) (fs : Reg) (cc : BitVec 3) (s : State) : Out :=
  s.fpCond .single 2 fs ft cc

/-- `c.cond.fmt cc, fs, ft` (R660). -/
def execCUeqS (ft : Reg) (fs : Reg) (cc : BitVec 3) (s : State) : Out :=
  s.fpCond .single 3 fs ft cc

/-- `c.cond.fmt cc, fs, ft` (R660). -/
def execCOltS (ft : Reg) (fs : Reg) (cc : BitVec 3) (s : State) : Out :=
  s.fpCond .single 4 fs ft cc

/-- `c.cond.fmt cc, fs, ft` (R660). -/
def execCUltS (ft : Reg) (fs : Reg) (cc : BitVec 3) (s : State) : Out :=
  s.fpCond .single 5 fs ft cc

/-- `c.cond.fmt cc, fs, ft` (R660). -/
def execCOleS (ft : Reg) (fs : Reg) (cc : BitVec 3) (s : State) : Out :=
  s.fpCond .single 6 fs ft cc

/-- `c.cond.fmt cc, fs, ft` (R660). -/
def execCUleS (ft : Reg) (fs : Reg) (cc : BitVec 3) (s : State) : Out :=
  s.fpCond .single 7 fs ft cc

/-- `c.cond.fmt cc, fs, ft` (R660). -/
def execCSfS (ft : Reg) (fs : Reg) (cc : BitVec 3) (s : State) : Out :=
  s.fpCond .single 8 fs ft cc

/-- `c.cond.fmt cc, fs, ft` (R660). -/
def execCNgleS (ft : Reg) (fs : Reg) (cc : BitVec 3) (s : State) : Out :=
  s.fpCond .single 9 fs ft cc

/-- `c.cond.fmt cc, fs, ft` (R660). -/
def execCSeqS (ft : Reg) (fs : Reg) (cc : BitVec 3) (s : State) : Out :=
  s.fpCond .single 10 fs ft cc

/-- `c.cond.fmt cc, fs, ft` (R660). -/
def execCNglS (ft : Reg) (fs : Reg) (cc : BitVec 3) (s : State) : Out :=
  s.fpCond .single 11 fs ft cc

/-- `c.cond.fmt cc, fs, ft` (R660). -/
def execCLtS (ft : Reg) (fs : Reg) (cc : BitVec 3) (s : State) : Out :=
  s.fpCond .single 12 fs ft cc

/-- `c.cond.fmt cc, fs, ft` (R660). -/
def execCNgeS (ft : Reg) (fs : Reg) (cc : BitVec 3) (s : State) : Out :=
  s.fpCond .single 13 fs ft cc

/-- `c.cond.fmt cc, fs, ft` (R660). -/
def execCLeS (ft : Reg) (fs : Reg) (cc : BitVec 3) (s : State) : Out :=
  s.fpCond .single 14 fs ft cc

/-- `c.cond.fmt cc, fs, ft` (R660). -/
def execCNgtS (ft : Reg) (fs : Reg) (cc : BitVec 3) (s : State) : Out :=
  s.fpCond .single 15 fs ft cc

/-- `c.cond.fmt cc, fs, ft` (R660). -/
def execCFD (ft : Reg) (fs : Reg) (cc : BitVec 3) (s : State) : Out :=
  s.fpCond .double 0 fs ft cc

/-- `c.cond.fmt cc, fs, ft` (R660). -/
def execCUnD (ft : Reg) (fs : Reg) (cc : BitVec 3) (s : State) : Out :=
  s.fpCond .double 1 fs ft cc

/-- `c.cond.fmt cc, fs, ft` (R660). -/
def execCEqD (ft : Reg) (fs : Reg) (cc : BitVec 3) (s : State) : Out :=
  s.fpCond .double 2 fs ft cc

/-- `c.cond.fmt cc, fs, ft` (R660). -/
def execCUeqD (ft : Reg) (fs : Reg) (cc : BitVec 3) (s : State) : Out :=
  s.fpCond .double 3 fs ft cc

/-- `c.cond.fmt cc, fs, ft` (R660). -/
def execCOltD (ft : Reg) (fs : Reg) (cc : BitVec 3) (s : State) : Out :=
  s.fpCond .double 4 fs ft cc

/-- `c.cond.fmt cc, fs, ft` (R660). -/
def execCUltD (ft : Reg) (fs : Reg) (cc : BitVec 3) (s : State) : Out :=
  s.fpCond .double 5 fs ft cc

/-- `c.cond.fmt cc, fs, ft` (R660). -/
def execCOleD (ft : Reg) (fs : Reg) (cc : BitVec 3) (s : State) : Out :=
  s.fpCond .double 6 fs ft cc

/-- `c.cond.fmt cc, fs, ft` (R660). -/
def execCUleD (ft : Reg) (fs : Reg) (cc : BitVec 3) (s : State) : Out :=
  s.fpCond .double 7 fs ft cc

/-- `c.cond.fmt cc, fs, ft` (R660). -/
def execCSfD (ft : Reg) (fs : Reg) (cc : BitVec 3) (s : State) : Out :=
  s.fpCond .double 8 fs ft cc

/-- `c.cond.fmt cc, fs, ft` (R660). -/
def execCNgleD (ft : Reg) (fs : Reg) (cc : BitVec 3) (s : State) : Out :=
  s.fpCond .double 9 fs ft cc

/-- `c.cond.fmt cc, fs, ft` (R660). -/
def execCSeqD (ft : Reg) (fs : Reg) (cc : BitVec 3) (s : State) : Out :=
  s.fpCond .double 10 fs ft cc

/-- `c.cond.fmt cc, fs, ft` (R660). -/
def execCNglD (ft : Reg) (fs : Reg) (cc : BitVec 3) (s : State) : Out :=
  s.fpCond .double 11 fs ft cc

/-- `c.cond.fmt cc, fs, ft` (R660). -/
def execCLtD (ft : Reg) (fs : Reg) (cc : BitVec 3) (s : State) : Out :=
  s.fpCond .double 12 fs ft cc

/-- `c.cond.fmt cc, fs, ft` (R660). -/
def execCNgeD (ft : Reg) (fs : Reg) (cc : BitVec 3) (s : State) : Out :=
  s.fpCond .double 13 fs ft cc

/-- `c.cond.fmt cc, fs, ft` (R660). -/
def execCLeD (ft : Reg) (fs : Reg) (cc : BitVec 3) (s : State) : Out :=
  s.fpCond .double 14 fs ft cc

/-- `c.cond.fmt cc, fs, ft` (R660). -/
def execCNgtD (ft : Reg) (fs : Reg) (cc : BitVec 3) (s : State) : Out :=
  s.fpCond .double 15 fs ft cc

/-- `mov.fmt fd, fs` (R655). -/
def execMovS (fs : Reg) (fd : Reg) (s : State) : Out :=
  s.fpMove .single true fs fd

/-- `mov.fmt fd, fs` (R655). -/
def execMovD (fs : Reg) (fd : Reg) (s : State) : Out :=
  s.fpMove .double true fs fd

/-- `movf.fmt fd, fs, cc` (R652). -/
def execMovfS (cc : BitVec 3) (fs : Reg) (fd : Reg) (s : State) : Out :=
  s.fpMove .single (!s.fcc cc) fs fd

/-- `movt.fmt fd, fs, cc` (R652). -/
def execMovtS (cc : BitVec 3) (fs : Reg) (fd : Reg) (s : State) : Out :=
  s.fpMove .single (s.fcc cc) fs fd

/-- `movz.fmt fd, fs, rt` (R656). -/
def execMovzS (rt : Reg) (fs : Reg) (fd : Reg) (s : State) : Out :=
  s.fpMove .single (s.readGpr rt = 0) fs fd

/-- `movn.fmt fd, fs, rt` (R657). -/
def execMovnS (rt : Reg) (fs : Reg) (fd : Reg) (s : State) : Out :=
  s.fpMove .single (s.readGpr rt ≠ 0) fs fd

/-- `movf.fmt fd, fs, cc` (R652). -/
def execMovfD (cc : BitVec 3) (fs : Reg) (fd : Reg) (s : State) : Out :=
  s.fpMove .double (!s.fcc cc) fs fd

/-- `movt.fmt fd, fs, cc` (R652). -/
def execMovtD (cc : BitVec 3) (fs : Reg) (fd : Reg) (s : State) : Out :=
  s.fpMove .double (s.fcc cc) fs fd

/-- `movz.fmt fd, fs, rt` (R656). -/
def execMovzD (rt : Reg) (fs : Reg) (fd : Reg) (s : State) : Out :=
  s.fpMove .double (s.readGpr rt = 0) fs fd

/-- `movn.fmt fd, fs, rt` (R657). -/
def execMovnD (rt : Reg) (fs : Reg) (fd : Reg) (s : State) : Out :=
  s.fpMove .double (s.readGpr rt ≠ 0) fs fd

/-- `bc1f cc, offset` (R665). -/
def execBc1f (cc : BitVec 3) (imm : BitVec 16) (s : State) : Out :=
  s.cop1Instr (s.branch (!s.fcc cc) imm)

/-- `bc1t cc, offset` (R665). -/
def execBc1t (cc : BitVec 3) (imm : BitVec 16) (s : State) : Out :=
  s.cop1Instr (s.branch (s.fcc cc) imm)

/-- `bc1fl cc, offset` (R665). -/
def execBc1fl (cc : BitVec 3) (imm : BitVec 16) (s : State) : Out :=
  s.cop1Instr (s.branchLikely (!s.fcc cc) imm)

/-- `bc1tl cc, offset` (R665). -/
def execBc1tl (cc : BitVec 3) (imm : BitVec 16) (s : State) : Out :=
  s.cop1Instr (s.branchLikely (s.fcc cc) imm)

end Sys2Proof.Machine
end

