-- ==== Sys2Proof/Machine/Dispatch.lean ====
section
/-! DEFINITION. The dispatch: one arm per instruction, one direct call of its meaning. -/

namespace Sys2Proof.Machine

def exec (i : Instr) (s : State) : Host.Outcome State Fault Refusal :=
  match i with
  | .mfhi rd => Sys2Proof.Machine.execMfhi rd s
  | .mflo rd => Sys2Proof.Machine.execMflo rd s
  | .mthi rs => Sys2Proof.Machine.execMthi rs s
  | .mtlo rs => Sys2Proof.Machine.execMtlo rs s
  | .jr rs => Sys2Proof.Machine.execJr rs s
  | .jr_hb rs => Sys2Proof.Machine.execJrHb rs s
  | .sync stype => Sys2Proof.Machine.execSync stype s
  | .di rt => Sys2Proof.Machine.execDi rt s
  | .ei rt => Sys2Proof.Machine.execEi rt s
  | .seb rt rd => Sys2Proof.Machine.execSeb rt rd s
  | .seh rt rd => Sys2Proof.Machine.execSeh rt rd s
  | .wsbh rt rd => Sys2Proof.Machine.execWsbh rt rd s
  | .mult rs rt => Sys2Proof.Machine.execMult rs rt s
  | .multu rs rt => Sys2Proof.Machine.execMultu rs rt s
  | .madd rs rt => Sys2Proof.Machine.execMadd rs rt s
  | .maddu rs rt => Sys2Proof.Machine.execMaddu rs rt s
  | .msub rs rt => Sys2Proof.Machine.execMsub rs rt s
  | .msubu rs rt => Sys2Proof.Machine.execMsubu rs rt s
  | .div rs rt => Sys2Proof.Machine.execDiv rs rt s
  | .divu rs rt => Sys2Proof.Machine.execDivu rs rt s
  | .jalr rs rd => Sys2Proof.Machine.execJalr rs rd s
  | .jalr_hb rs rd => Sys2Proof.Machine.execJalrHb rs rd s
  | .rdpgpr rt rd => Sys2Proof.Machine.execRdpgpr rt rd s
  | .wrpgpr rt rd => Sys2Proof.Machine.execWrpgpr rt rd s
  | .rdhwr rt rd => Sys2Proof.Machine.execRdhwr rt rd s
  | .mfc1 rt fs => Sys2Proof.Machine.execMfc1 rt fs s
  | .mtc1 rt fs => Sys2Proof.Machine.execMtc1 rt fs s
  | .mfhc1 rt fs => Sys2Proof.Machine.execMfhc1 rt fs s
  | .mthc1 rt fs => Sys2Proof.Machine.execMthc1 rt fs s
  | .cfc1 rt fs => Sys2Proof.Machine.execCfc1 rt fs s
  | .ctc1 rt fs => Sys2Proof.Machine.execCtc1 rt fs s
  | .sqrt_s fs fd => Sys2Proof.Machine.execSqrtS fs fd s
  | .sqrt_d fs fd => Sys2Proof.Machine.execSqrtD fs fd s
  | .abs_s fs fd => Sys2Proof.Machine.execAbsS fs fd s
  | .abs_d fs fd => Sys2Proof.Machine.execAbsD fs fd s
  | .neg_s fs fd => Sys2Proof.Machine.execNegS fs fd s
  | .neg_d fs fd => Sys2Proof.Machine.execNegD fs fd s
  | .mov_s fs fd => Sys2Proof.Machine.execMovS fs fd s
  | .mov_d fs fd => Sys2Proof.Machine.execMovD fs fd s
  | .recip_s fs fd => Sys2Proof.Machine.execRecipS fs fd s
  | .recip_d fs fd => Sys2Proof.Machine.execRecipD fs fd s
  | .rsqrt_s fs fd => Sys2Proof.Machine.execRsqrtS fs fd s
  | .rsqrt_d fs fd => Sys2Proof.Machine.execRsqrtD fs fd s
  | .round_w_s fs fd => Sys2Proof.Machine.execRoundWS fs fd s
  | .round_w_d fs fd => Sys2Proof.Machine.execRoundWD fs fd s
  | .trunc_w_s fs fd => Sys2Proof.Machine.execTruncWS fs fd s
  | .trunc_w_d fs fd => Sys2Proof.Machine.execTruncWD fs fd s
  | .ceil_w_s fs fd => Sys2Proof.Machine.execCeilWS fs fd s
  | .ceil_w_d fs fd => Sys2Proof.Machine.execCeilWD fs fd s
  | .floor_w_s fs fd => Sys2Proof.Machine.execFloorWS fs fd s
  | .floor_w_d fs fd => Sys2Proof.Machine.execFloorWD fs fd s
  | .round_l_s fs fd => Sys2Proof.Machine.execRoundLS fs fd s
  | .round_l_d fs fd => Sys2Proof.Machine.execRoundLD fs fd s
  | .trunc_l_s fs fd => Sys2Proof.Machine.execTruncLS fs fd s
  | .trunc_l_d fs fd => Sys2Proof.Machine.execTruncLD fs fd s
  | .ceil_l_s fs fd => Sys2Proof.Machine.execCeilLS fs fd s
  | .ceil_l_d fs fd => Sys2Proof.Machine.execCeilLD fs fd s
  | .floor_l_s fs fd => Sys2Proof.Machine.execFloorLS fs fd s
  | .floor_l_d fs fd => Sys2Proof.Machine.execFloorLD fs fd s
  | .cvt_s_d fs fd => Sys2Proof.Machine.execCvtSD fs fd s
  | .cvt_s_w fs fd => Sys2Proof.Machine.execCvtSW fs fd s
  | .cvt_s_l fs fd => Sys2Proof.Machine.execCvtSL fs fd s
  | .cvt_d_s fs fd => Sys2Proof.Machine.execCvtDS fs fd s
  | .cvt_d_w fs fd => Sys2Proof.Machine.execCvtDW fs fd s
  | .cvt_d_l fs fd => Sys2Proof.Machine.execCvtDL fs fd s
  | .cvt_w_s fs fd => Sys2Proof.Machine.execCvtWS fs fd s
  | .cvt_w_d fs fd => Sys2Proof.Machine.execCvtWD fs fd s
  | .cvt_l_s fs fd => Sys2Proof.Machine.execCvtLS fs fd s
  | .cvt_l_d fs fd => Sys2Proof.Machine.execCvtLD fs fd s
  | .cfc2 rt rd => Sys2Proof.Machine.execCfc2 rt rd s
  | .ctc2 rt rd => Sys2Proof.Machine.execCtc2 rt rd s
  | .movf rs cc rd => Sys2Proof.Machine.execMovf rs cc rd s
  | .movt rs cc rd => Sys2Proof.Machine.execMovt rs cc rd s
  | .mfc0 rt rd sel => Sys2Proof.Machine.execMfc0 rt rd sel s
  | .mtc0 rt rd sel => Sys2Proof.Machine.execMtc0 rt rd sel s
  | .c_f_s ft fs cc => Sys2Proof.Machine.execCFS ft fs cc s
  | .c_un_s ft fs cc => Sys2Proof.Machine.execCUnS ft fs cc s
  | .c_eq_s ft fs cc => Sys2Proof.Machine.execCEqS ft fs cc s
  | .c_ueq_s ft fs cc => Sys2Proof.Machine.execCUeqS ft fs cc s
  | .c_olt_s ft fs cc => Sys2Proof.Machine.execCOltS ft fs cc s
  | .c_ult_s ft fs cc => Sys2Proof.Machine.execCUltS ft fs cc s
  | .c_ole_s ft fs cc => Sys2Proof.Machine.execCOleS ft fs cc s
  | .c_ule_s ft fs cc => Sys2Proof.Machine.execCUleS ft fs cc s
  | .c_sf_s ft fs cc => Sys2Proof.Machine.execCSfS ft fs cc s
  | .c_ngle_s ft fs cc => Sys2Proof.Machine.execCNgleS ft fs cc s
  | .c_seq_s ft fs cc => Sys2Proof.Machine.execCSeqS ft fs cc s
  | .c_ngl_s ft fs cc => Sys2Proof.Machine.execCNglS ft fs cc s
  | .c_lt_s ft fs cc => Sys2Proof.Machine.execCLtS ft fs cc s
  | .c_nge_s ft fs cc => Sys2Proof.Machine.execCNgeS ft fs cc s
  | .c_le_s ft fs cc => Sys2Proof.Machine.execCLeS ft fs cc s
  | .c_ngt_s ft fs cc => Sys2Proof.Machine.execCNgtS ft fs cc s
  | .c_f_d ft fs cc => Sys2Proof.Machine.execCFD ft fs cc s
  | .c_un_d ft fs cc => Sys2Proof.Machine.execCUnD ft fs cc s
  | .c_eq_d ft fs cc => Sys2Proof.Machine.execCEqD ft fs cc s
  | .c_ueq_d ft fs cc => Sys2Proof.Machine.execCUeqD ft fs cc s
  | .c_olt_d ft fs cc => Sys2Proof.Machine.execCOltD ft fs cc s
  | .c_ult_d ft fs cc => Sys2Proof.Machine.execCUltD ft fs cc s
  | .c_ole_d ft fs cc => Sys2Proof.Machine.execCOleD ft fs cc s
  | .c_ule_d ft fs cc => Sys2Proof.Machine.execCUleD ft fs cc s
  | .c_sf_d ft fs cc => Sys2Proof.Machine.execCSfD ft fs cc s
  | .c_ngle_d ft fs cc => Sys2Proof.Machine.execCNgleD ft fs cc s
  | .c_seq_d ft fs cc => Sys2Proof.Machine.execCSeqD ft fs cc s
  | .c_ngl_d ft fs cc => Sys2Proof.Machine.execCNglD ft fs cc s
  | .c_lt_d ft fs cc => Sys2Proof.Machine.execCLtD ft fs cc s
  | .c_nge_d ft fs cc => Sys2Proof.Machine.execCNgeD ft fs cc s
  | .c_le_d ft fs cc => Sys2Proof.Machine.execCLeD ft fs cc s
  | .c_ngt_d ft fs cc => Sys2Proof.Machine.execCNgtD ft fs cc s
  | .movf_s cc fs fd => Sys2Proof.Machine.execMovfS cc fs fd s
  | .movt_s cc fs fd => Sys2Proof.Machine.execMovtS cc fs fd s
  | .movf_d cc fs fd => Sys2Proof.Machine.execMovfD cc fs fd s
  | .movt_d cc fs fd => Sys2Proof.Machine.execMovtD cc fs fd s
  | .add rs rt rd => Sys2Proof.Machine.execAdd rs rt rd s
  | .addu rs rt rd => Sys2Proof.Machine.execAddu rs rt rd s
  | .sub rs rt rd => Sys2Proof.Machine.execSub rs rt rd s
  | .subu rs rt rd => Sys2Proof.Machine.execSubu rs rt rd s
  | .and rs rt rd => Sys2Proof.Machine.execAnd rs rt rd s
  | .or rs rt rd => Sys2Proof.Machine.execOr rs rt rd s
  | .xor rs rt rd => Sys2Proof.Machine.execXor rs rt rd s
  | .nor rs rt rd => Sys2Proof.Machine.execNor rs rt rd s
  | .slt rs rt rd => Sys2Proof.Machine.execSlt rs rt rd s
  | .sltu rs rt rd => Sys2Proof.Machine.execSltu rs rt rd s
  | .sll rt rd sa => Sys2Proof.Machine.execSll rt rd sa s
  | .srl rt rd sa => Sys2Proof.Machine.execSrl rt rd sa s
  | .sra rt rd sa => Sys2Proof.Machine.execSra rt rd sa s
  | .sllv rs rt rd => Sys2Proof.Machine.execSllv rs rt rd s
  | .srlv rs rt rd => Sys2Proof.Machine.execSrlv rs rt rd s
  | .srav rs rt rd => Sys2Proof.Machine.execSrav rs rt rd s
  | .rotr rt rd sa => Sys2Proof.Machine.execRotr rt rd sa s
  | .rotrv rs rt rd => Sys2Proof.Machine.execRotrv rs rt rd s
  | .movz rs rt rd => Sys2Proof.Machine.execMovz rs rt rd s
  | .movn rs rt rd => Sys2Proof.Machine.execMovn rs rt rd s
  | .clz rs rt rd => Sys2Proof.Machine.execClz rs rt rd s
  | .clo rs rt rd => Sys2Proof.Machine.execClo rs rt rd s
  | .mul rs rt rd => Sys2Proof.Machine.execMul rs rt rd s
  | .lwxc1 base index fd => Sys2Proof.Machine.execLwxc1 base index fd s
  | .ldxc1 base index fd => Sys2Proof.Machine.execLdxc1 base index fd s
  | .luxc1 base index fd => Sys2Proof.Machine.execLuxc1 base index fd s
  | .swxc1 base index fs => Sys2Proof.Machine.execSwxc1 base index fs s
  | .sdxc1 base index fs => Sys2Proof.Machine.execSdxc1 base index fs s
  | .suxc1 base index fs => Sys2Proof.Machine.execSuxc1 base index fs s
  | .prefx base index hint => Sys2Proof.Machine.execPrefx base index hint s
  | .add_s ft fs fd => Sys2Proof.Machine.execAddS ft fs fd s
  | .add_d ft fs fd => Sys2Proof.Machine.execAddD ft fs fd s
  | .sub_s ft fs fd => Sys2Proof.Machine.execSubS ft fs fd s
  | .sub_d ft fs fd => Sys2Proof.Machine.execSubD ft fs fd s
  | .mul_s ft fs fd => Sys2Proof.Machine.execMulS ft fs fd s
  | .mul_d ft fs fd => Sys2Proof.Machine.execMulD ft fs fd s
  | .div_s ft fs fd => Sys2Proof.Machine.execDivS ft fs fd s
  | .div_d ft fs fd => Sys2Proof.Machine.execDivD ft fs fd s
  | .movz_s rt fs fd => Sys2Proof.Machine.execMovzS rt fs fd s
  | .movz_d rt fs fd => Sys2Proof.Machine.execMovzD rt fs fd s
  | .movn_s rt fs fd => Sys2Proof.Machine.execMovnS rt fs fd s
  | .movn_d rt fs fd => Sys2Proof.Machine.execMovnD rt fs fd s
  | .bc1f cc imm => Sys2Proof.Machine.execBc1f cc imm s
  | .bc1t cc imm => Sys2Proof.Machine.execBc1t cc imm s
  | .bc1fl cc imm => Sys2Proof.Machine.execBc1fl cc imm s
  | .bc1tl cc imm => Sys2Proof.Machine.execBc1tl cc imm s
  | .bc2f cc imm => Sys2Proof.Machine.execBc2f cc imm s
  | .bc2t cc imm => Sys2Proof.Machine.execBc2t cc imm s
  | .bc2fl cc imm => Sys2Proof.Machine.execBc2fl cc imm s
  | .bc2tl cc imm => Sys2Proof.Machine.execBc2tl cc imm s
  | .ext rs rt msb lsb => Sys2Proof.Machine.execExt rs rt msb lsb s
  | .ins rs rt msb lsb => Sys2Proof.Machine.execIns rs rt msb lsb s
  | .syscall code => Sys2Proof.Machine.execSyscall code s
  | .break_ code => Sys2Proof.Machine.execBreak code s
  | .sdbbp code => Sys2Proof.Machine.execSdbbp code s
  | .tge rs rt code => Sys2Proof.Machine.execTge rs rt code s
  | .tgeu rs rt code => Sys2Proof.Machine.execTgeu rs rt code s
  | .tlt rs rt code => Sys2Proof.Machine.execTlt rs rt code s
  | .tltu rs rt code => Sys2Proof.Machine.execTltu rs rt code s
  | .teq rs rt code => Sys2Proof.Machine.execTeq rs rt code s
  | .tne rs rt code => Sys2Proof.Machine.execTne rs rt code s
  | .madd_s fr ft fs fd => Sys2Proof.Machine.execMaddS fr ft fs fd s
  | .madd_d fr ft fs fd => Sys2Proof.Machine.execMaddD fr ft fs fd s
  | .msub_s fr ft fs fd => Sys2Proof.Machine.execMsubS fr ft fs fd s
  | .msub_d fr ft fs fd => Sys2Proof.Machine.execMsubD fr ft fs fd s
  | .nmadd_s fr ft fs fd => Sys2Proof.Machine.execNmaddS fr ft fs fd s
  | .nmadd_d fr ft fs fd => Sys2Proof.Machine.execNmaddD fr ft fs fd s
  | .nmsub_s fr ft fs fd => Sys2Proof.Machine.execNmsubS fr ft fs fd s
  | .nmsub_d fr ft fs fd => Sys2Proof.Machine.execNmsubD fr ft fs fd s
  | .lui rt imm => Sys2Proof.Machine.execLui rt imm s
  | .blez rs imm => Sys2Proof.Machine.execBlez rs imm s
  | .bgtz rs imm => Sys2Proof.Machine.execBgtz rs imm s
  | .bltz rs imm => Sys2Proof.Machine.execBltz rs imm s
  | .bgez rs imm => Sys2Proof.Machine.execBgez rs imm s
  | .bltzal rs imm => Sys2Proof.Machine.execBltzal rs imm s
  | .bgezal rs imm => Sys2Proof.Machine.execBgezal rs imm s
  | .blezl rs imm => Sys2Proof.Machine.execBlezl rs imm s
  | .bgtzl rs imm => Sys2Proof.Machine.execBgtzl rs imm s
  | .bltzl rs imm => Sys2Proof.Machine.execBltzl rs imm s
  | .bgezl rs imm => Sys2Proof.Machine.execBgezl rs imm s
  | .bltzall rs imm => Sys2Proof.Machine.execBltzall rs imm s
  | .bgezall rs imm => Sys2Proof.Machine.execBgezall rs imm s
  | .synci base imm => Sys2Proof.Machine.execSynci base imm s
  | .tgei rs imm => Sys2Proof.Machine.execTgei rs imm s
  | .tgeiu rs imm => Sys2Proof.Machine.execTgeiu rs imm s
  | .tlti rs imm => Sys2Proof.Machine.execTlti rs imm s
  | .tltiu rs imm => Sys2Proof.Machine.execTltiu rs imm s
  | .teqi rs imm => Sys2Proof.Machine.execTeqi rs imm s
  | .tnei rs imm => Sys2Proof.Machine.execTnei rs imm s
  | .mfc2 rt impl => Sys2Proof.Machine.execMfc2 rt impl s
  | .mtc2 rt impl => Sys2Proof.Machine.execMtc2 rt impl s
  | .mfhc2 rt impl => Sys2Proof.Machine.execMfhc2 rt impl s
  | .mthc2 rt impl => Sys2Proof.Machine.execMthc2 rt impl s
  | .udi impl impl2 => Sys2Proof.Machine.execUdi impl impl2 s
  | .cop2 impl => Sys2Proof.Machine.execCop2 impl s
  | .addi rs rt imm => Sys2Proof.Machine.execAddi rs rt imm s
  | .addiu rs rt imm => Sys2Proof.Machine.execAddiu rs rt imm s
  | .andi rs rt imm => Sys2Proof.Machine.execAndi rs rt imm s
  | .ori rs rt imm => Sys2Proof.Machine.execOri rs rt imm s
  | .xori rs rt imm => Sys2Proof.Machine.execXori rs rt imm s
  | .slti rs rt imm => Sys2Proof.Machine.execSlti rs rt imm s
  | .sltiu rs rt imm => Sys2Proof.Machine.execSltiu rs rt imm s
  | .beq rs rt imm => Sys2Proof.Machine.execBeq rs rt imm s
  | .bne rs rt imm => Sys2Proof.Machine.execBne rs rt imm s
  | .beql rs rt imm => Sys2Proof.Machine.execBeql rs rt imm s
  | .bnel rs rt imm => Sys2Proof.Machine.execBnel rs rt imm s
  | .j target => Sys2Proof.Machine.execJ target s
  | .jal target => Sys2Proof.Machine.execJal target s
  | .jalx target => Sys2Proof.Machine.execJalx target s
  | .lb base rt imm => Sys2Proof.Machine.execLb base rt imm s
  | .lbu base rt imm => Sys2Proof.Machine.execLbu base rt imm s
  | .lh base rt imm => Sys2Proof.Machine.execLh base rt imm s
  | .lhu base rt imm => Sys2Proof.Machine.execLhu base rt imm s
  | .lw base rt imm => Sys2Proof.Machine.execLw base rt imm s
  | .lwl base rt imm => Sys2Proof.Machine.execLwl base rt imm s
  | .lwr base rt imm => Sys2Proof.Machine.execLwr base rt imm s
  | .sb base rt imm => Sys2Proof.Machine.execSb base rt imm s
  | .sh base rt imm => Sys2Proof.Machine.execSh base rt imm s
  | .sw base rt imm => Sys2Proof.Machine.execSw base rt imm s
  | .swl base rt imm => Sys2Proof.Machine.execSwl base rt imm s
  | .swr base rt imm => Sys2Proof.Machine.execSwr base rt imm s
  | .ll base rt imm => Sys2Proof.Machine.execLl base rt imm s
  | .sc base rt imm => Sys2Proof.Machine.execSc base rt imm s
  | .pref base hint imm => Sys2Proof.Machine.execPref base hint imm s
  | .cache base op imm => Sys2Proof.Machine.execCache base op imm s
  | .lwc1 base ft imm => Sys2Proof.Machine.execLwc1 base ft imm s
  | .ldc1 base ft imm => Sys2Proof.Machine.execLdc1 base ft imm s
  | .swc1 base ft imm => Sys2Proof.Machine.execSwc1 base ft imm s
  | .sdc1 base ft imm => Sys2Proof.Machine.execSdc1 base ft imm s
  | .lwc2 base rt imm => Sys2Proof.Machine.execLwc2 base rt imm s
  | .swc2 base rt imm => Sys2Proof.Machine.execSwc2 base rt imm s
  | .ldc2 base rt imm => Sys2Proof.Machine.execLdc2 base rt imm s
  | .sdc2 base rt imm => Sys2Proof.Machine.execSdc2 base rt imm s
  | .eret => Sys2Proof.Machine.execEret s
  | .deret => Sys2Proof.Machine.execDeret s
  | .tlbr => Sys2Proof.Machine.execTlbr s
  | .tlbwi => Sys2Proof.Machine.execTlbwi s
  | .tlbwr => Sys2Proof.Machine.execTlbwr s
  | .tlbp => Sys2Proof.Machine.execTlbp s
  | .nop => Sys2Proof.Machine.execNop s
  | .ssnop => Sys2Proof.Machine.execSsnop s
  | .ehb => Sys2Proof.Machine.execEhb s
  | .wait => Sys2Proof.Machine.execWait s

end Sys2Proof.Machine
end

