-- ==== Sys2Proof/Machine/Env.lean ====
section
/-! DEFINITION. The agents outside the instruction stream (spec/00_scope.md R10; log 6): the timer, interrupt lines, NMI,
reset, other bus masters, the caches' own moves, the probe (spec/61_debug.md R905 to R910), counted
micro-architectural events (R925, R926). -/

namespace Sys2Proof.Machine

/-! ## Timer (R830, R832) -/

/-- One tick of `Count`: none while `Cause[DC]` is set, nor in debug mode without `Debug[CountDM]`; reaching `Compare`
sets `Cause[TI]`. The comparison sees `Count` and `Compare` as R974 lets it after an `mtc0`. -/
def State.countTick (s : State) : State :=
  if (s.view .count).dc || (s.dm && !s.countDM) then s
  else
    let v := (s.view .count).cp0
    { s with cp0 := { s.cp0 with
        count := s.cp0.count + 1
        cause := if v.count + 1 = v.compare then s.cp0.cause ||| 0x40000000 else s.cp0.cause } }

/-! ## Performance counters (R925 to R927) -/

/-- The mode filter of a counter's control word (R927), over the state as counting sees it (R974). -/
def State.perfCounts (s : State) (ctl : Word) : Bool :=
  let v := s.view .perf
  !s.dm && !v.erl &&
    ((ctl.getLsbD 0 && v.exl) || (ctl.getLsbD 1 && !v.exl && v.ksu = 0) || (ctl.getLsbD 2 && !v.exl && v.ksu = 1)
      || (ctl.getLsbD 3 && !v.exl && v.ksu = 2))

/-- The control word of counter 0 or 1, as counting sees it (R974). -/
def State.perfCtl (s : State) (one : Bool) : Word :=
  let c := (s.view .perf).cp0
  if one then c.perfCtl1 else c.perfCtl0

/-- The event number of a control word (R137). -/
def perfEvent (ctl : Word) : Nat := (ctl.extractLsb' 5 6).toNat

/-- Whether counter 0 or 1 is there (R137). -/
def State.hasCounter (s : State) (one : Bool) : Bool := decide ((if one then 2 else 1) ≤ s.cfg.numPerfCounters)

/-- Add to a counter, modulo 2^32 (R925). -/
def State.addPerf (s : State) (one : Bool) (n : Nat) : State :=
  if one then { s with cp0 := { s.cp0 with perfCnt1 := s.cp0.perfCnt1 + BitVec.ofNat 32 n } }
  else { s with cp0 := { s.cp0 with perfCnt0 := s.cp0.perfCnt0 + BitVec.ofNat 32 n } }

/-- The micro-architectural events of R926: those whose number the environment chooses (D46). -/
def microEvent (one : Bool) (e : Nat) : Bool :=
  if one then
    e = 0 || e = 2 || e = 3 || (5 ≤ e && e ≤ 11) || e = 18 || e = 20 || e = 21
  else e = 0 || (4 ≤ e && e ≤ 11) || e = 18 || e = 21 || e = 24

/-- The environment reports `n` occurrences of the event a counter selects (D46); asleep only cycles are counted
(R840). -/
def State.perfReport (s : State) (one : Bool) (n : Nat) : State :=
  let ctl := s.perfCtl one
  if s.hasCounter one && microEvent one (perfEvent ctl) && (!s.sleeping || perfEvent ctl = 0) && s.perfCounts ctl then
    s.addPerf one n
  else s

/-! ## The caches' own moves (R260) -/

/-- Whether a slot is one of the cache's. -/
def slotInRange (cfg : Cfg) (d : Bool) (slot : Nat) : Bool :=
  lineBytes cfg d ≠ 0 && slot < numWays cfg d * numSets cfg d

/-- The environment evicts an unlocked line, writing it back if dirty; asleep no line moves (R840). -/
def State.evictSlot (s : State) (d : Bool) (slot : Nat) : State :=
  if !s.sleeping && slotInRange s.cfg d slot && !((s.cache d).tag slot).l then
    (if d then s.writebackSlot slot else s).invalidateSlot d slot
  else s

/-- The environment refills an absent line of ordinary memory into an unlocked way: a virtual address that can map to
the physical one (the offset within the smallest page is the same). The data side first flushes what the gather buffer
holds of the line (R244). -/
def State.envRefill (s : State) (d : Bool) (va pa : Word) (way : Nat) : State :=
  let line := lineBytes s.cfg d
  let base := lineBase s.cfg d pa
  if !s.sleeping && va.setWidth 12 = pa.setWidth 12 && line ≠ 0 && way < numWays s.cfg d
      && (s.cache d).lookup s.cfg d va pa = none
      && !((s.cache d).tag (slotOf s.cfg d way (setIndex s.cfg d va pa))).l
      && !touchesDevice s.cfg.physMap base line && !touchesNothing s.cfg.physMap base line then
    let s1 := if d then s.flushLine pa else s
    (s1.installLine d va pa way (Memory.readBytes s1.mem base line) false).2
  else s

/-! ## The probe (R905 to R910) -/

/-- `ImpCode` as the probe reads it (R906). -/
def impCode (cfg : Cfg) : Word :=
  0x40014000 ||| bitAt 24 cfg.dintSup ||| bitAt 22 (cfg.mmu = .tlb)

/-- `EJTAG_CONTROL` as the probe reads it (R907): `Doze`, `Halt` and `DM` follow the core. -/
def State.ejtagControlView (s : State) : Word :=
  putBit (putBit (putBit s.dbg.ejtagControl 22 (s.sleeping || s.inputs.reducedPower)) 21 s.sleeping) 3 s.dm

/-- The probe writes `EJTAG_CONTROL` (R907): `PerRst`, `PrRst`, `ProbEn`, `ProbTrap` plainly; `EjtagBrk` can only be set,
`Rocc` and `PrAcc` only cleared. With `ProbEn` cleared no transfer waits for the probe (DESIGN CHOICE, log 25). -/
def ejtagControlWrite (old w : Word) : Word :=
  let c := merge old w 0x0011C000
  let c := c ||| (w &&& 0x00001000)
  let c := c &&& (w ||| 0x7FFBFFFF)
  if c.getLsbD 15 then c else c &&& 0xFFFBFFFF

/-- The probe's write of `EJTAG_CONTROL`: clearing `PrAcc` completes the transfer that waits, with the word in
`EJTAG_DATA` (R891, R907). -/
def State.probeControlWrite (s : State) (w : Word) : State :=
  let c := ejtagControlWrite s.dbg.ejtagControl w
  let served :=
    if !c.getLsbD 15 then []
    else if s.dbg.ejtagControl.getLsbD 18 && !w.getLsbD 18 then s.dbg.served ++ [(s.dbg.asked, s.dbg.ejtagData)]
    else s.dbg.served
  { s with dbg := { s.dbg with ejtagControl := c, served := served } }

/-- Another bus master wrote a byte: the link bit is cleared where it lies in the linked block (R251, D17). -/
def State.unlink (s : State) (pa : Word) : State :=
  if llBlockOf s.cfg pa = s.llBlock then { s with llBit := false } else s

/-- The physical address of an offset in a scratchpad (R144). -/
def Spram.address (sp : Spram) (off : Nat) : Word := BitVec.ofNat 32 ((sp.tag0.extractLsb' 12 20).toNat * 4096 + off)

/-- A scratchpad byte written through the system interface (R270). -/
def Spram.envWrite (sp : Spram) (fitted : Bool) (off : Nat) (v : Byte) : Spram :=
  if fitted && off < (sp.tag1.extractLsb' 12 20).toNat * 4096 then
    { sp with cells := Memory.write sp.cells off v }
  else sp

/-! ## One event -/

/-- The effect of an environment event; `core` has none of its own. -/
def applyEvent (e : EnvEvent) (s : State) : State :=
  match e with
  | .core => s
  | .countTick => s.countTick
  | .setHwInt v => { s with inputs := { s.inputs with hwInt := v } }
  | .setEic ripl ss => { s with inputs := { s.inputs with eicRIPL := ripl, eicSS := ss } }
  | .nmi => { s with dbg := { s.dbg with dcr := s.dbg.dcr ||| 0x00000004 } }
  | .dint level => { s with inputs := { s.inputs with dint := level } }
  | .reset => s.doReset
  | .clearLL => { s with llBit := false }
  | .dmaWrite pa v => { s.unlink pa with mem := physWrite s.cfg.physMap s.mem pa.toNat [v] }
  | .spramWrite dside off v =>
    if dside then
      { s.unlink (s.dspram.address off) with dspram := s.dspram.envWrite s.cfg.hasDSPRAM off v }
    else { s.unlink (s.ispram.address off) with ispram := s.ispram.envWrite s.cfg.hasISPRAM off v }
  | .failFetch b => { s with inputs := { s.inputs with failFetch := b } }
  | .failData b => { s with inputs := { s.inputs with failData := b } }
  | .parityError dside =>
    if !s.sleeping && s.cfg.cacheParity && s.cp0.errCtl.getLsbD 31 then
      { s with pendCacheErr := s.pendCacheErr || !dside, pendCacheErrData := s.pendCacheErrData || dside }
    else s
  | .wake => { s with sleeping := false }
  | .evict dside slot => s.evictSlot dside slot
  | .refill dside va pa way => s.envRefill dside va pa way
  | .holdHazards b => { s with inputs := { s.inputs with hazardsHeld := b } }
  | .retireOldest => { s with hazards := s.hazards.dropLast }
  | .probeControl w => s.probeControlWrite w
  | .probeAddress w => { s with dbg := { s.dbg with ejtagAddress := w } }
  | .probeData w => { s with dbg := { s.dbg with ejtagData := w } }
  | .ejtagBoot b => { s with dbg := { s.dbg with bootArmed := b } }
  | .probeReply w => { s with dbg := { s.dbg with probeReplies := s.dbg.probeReplies ++ [w] } }
  | .probeAnswers b => { s with dbg := { s.dbg with probeAnswers := b } }
  | .perfEvents counter1 n => s.perfReport counter1 n
  | .pcSample =>
    if s.cfg.pcSampling then { s with dbg := { s.dbg with pcSample := ⟨true, s.currentAsid, s.pc⟩ } } else s
  | .pcSampleRead => { s with dbg := { s.dbg with pcSample := { s.dbg.pcSample with isNew := false } } }
  | .reducedPower b => { s with inputs := { s.inputs with reducedPower := b } }
  | .probeTrace t => { s with dbg := { s.dbg with probeTrace := t } }

end Sys2Proof.Machine
end

