-- ==== Sys2Proof/Machine/Info.lean ====
section
/-! DEFINITION. What an instruction reads (for the last boundary of an imprecise data break, spec/61_debug.md R904) and
how the performance counters class it (R926). -/

namespace Sys2Proof.Machine

/-- The classes the counted events of R926 distinguish (log 42). -/
inductive InstrClass where
  | plain
  | load
  | store
  | sc (base : Reg) (imm : BitVec 16)
  | jump
  | mulDiv
  | pref
  | fpu
  | fpLoad
  | fpStore
deriving DecidableEq, Repr

/-- What the events of branches and returns distinguish (R926 events 2 and 3): the conditional PC-relative branches, and
`jr` and `jr.hb` through `$31` (DESIGN CHOICE, log 42). -/
inductive InstrFlow where
  | other
  | branch
  | ret
deriving DecidableEq, Repr

/-- Whether the class is that of `sc`. -/
def InstrClass.isSc : InstrClass → Bool
  | .sc _ _ => true
  | _ => false

/-- The general, floating point and coprocessor 2 registers an instruction reads, the general register it writes, its
class, the general registers it reads in the previous set (R582), and whether it is a branch or a return. -/
structure InstrInfo where
  gpr : List Reg
  fpr : List Reg
  cp2 : Bool
  dest : Option Reg
  cls : InstrClass
  prev : List Reg
  flow : InstrFlow
deriving DecidableEq, Repr

/-- The table, in the order of `Instr`. A conditional move names its destination whether or not it moves, a CorExtend word
whether or not it answers; so with `rd = 0` both count as writing `$0` for event 17, of which R926 does not speak
(DESIGN CHOICE, log 42). -/
def instrInfo (i : Instr) : InstrInfo :=
  match i with
  | .mfhi rd => ⟨[], [], false, some rd, .mulDiv, [], .other⟩
  | .mflo rd => ⟨[], [], false, some rd, .mulDiv, [], .other⟩
  | .mthi rs => ⟨[rs], [], false, none, .mulDiv, [], .other⟩
  | .mtlo rs => ⟨[rs], [], false, none, .mulDiv, [], .other⟩
  | .jr rs => ⟨[rs], [], false, none, .plain, [], (if rs = 31 then .ret else .other)⟩
  | .jr_hb rs => ⟨[rs], [], false, none, .plain, [], (if rs = 31 then .ret else .other)⟩
  | .sync _ => ⟨[], [], false, none, .plain, [], .other⟩
  | .di rt => ⟨[], [], false, some rt, .plain, [], .other⟩
  | .ei rt => ⟨[], [], false, some rt, .plain, [], .other⟩
  | .seb rt rd => ⟨[rt], [], false, some rd, .plain, [], .other⟩
  | .seh rt rd => ⟨[rt], [], false, some rd, .plain, [], .other⟩
  | .wsbh rt rd => ⟨[rt], [], false, some rd, .plain, [], .other⟩
  | .mult rs rt => ⟨[rs, rt], [], false, none, .mulDiv, [], .other⟩
  | .multu rs rt => ⟨[rs, rt], [], false, none, .mulDiv, [], .other⟩
  | .madd rs rt => ⟨[rs, rt], [], false, none, .mulDiv, [], .other⟩
  | .maddu rs rt => ⟨[rs, rt], [], false, none, .mulDiv, [], .other⟩
  | .msub rs rt => ⟨[rs, rt], [], false, none, .mulDiv, [], .other⟩
  | .msubu rs rt => ⟨[rs, rt], [], false, none, .mulDiv, [], .other⟩
  | .div rs rt => ⟨[rs, rt], [], false, none, .mulDiv, [], .other⟩
  | .divu rs rt => ⟨[rs, rt], [], false, none, .mulDiv, [], .other⟩
  | .jalr rs rd => ⟨[rs], [], false, some rd, .plain, [], .other⟩
  | .jalr_hb rs rd => ⟨[rs], [], false, some rd, .plain, [], .other⟩
  | .rdpgpr rt rd => ⟨[], [], false, some rd, .plain, [rt], .other⟩
  | .wrpgpr rt _ => ⟨[rt], [], false, none, .plain, [], .other⟩
  | .rdhwr rt _ => ⟨[], [], false, some rt, .plain, [], .other⟩
  | .mfc1 rt fs => ⟨[], [fs], false, some rt, .fpu, [], .other⟩
  | .mtc1 rt _ => ⟨[rt], [], false, none, .fpu, [], .other⟩
  | .mfhc1 rt fs => ⟨[], [fs], false, some rt, .fpu, [], .other⟩
  | .mthc1 rt fs => ⟨[rt], [fs], false, none, .fpu, [], .other⟩
  | .cfc1 rt _ => ⟨[], [], false, some rt, .fpu, [], .other⟩
  | .ctc1 rt _ => ⟨[rt], [], false, none, .fpu, [], .other⟩
  | .sqrt_s fs _ => ⟨[], [fs], false, none, .fpu, [], .other⟩
  | .sqrt_d fs _ => ⟨[], [fs], false, none, .fpu, [], .other⟩
  | .abs_s fs _ => ⟨[], [fs], false, none, .fpu, [], .other⟩
  | .abs_d fs _ => ⟨[], [fs], false, none, .fpu, [], .other⟩
  | .neg_s fs _ => ⟨[], [fs], false, none, .fpu, [], .other⟩
  | .neg_d fs _ => ⟨[], [fs], false, none, .fpu, [], .other⟩
  | .mov_s fs _ => ⟨[], [fs], false, none, .fpu, [], .other⟩
  | .mov_d fs _ => ⟨[], [fs], false, none, .fpu, [], .other⟩
  | .recip_s fs _ => ⟨[], [fs], false, none, .fpu, [], .other⟩
  | .recip_d fs _ => ⟨[], [fs], false, none, .fpu, [], .other⟩
  | .rsqrt_s fs _ => ⟨[], [fs], false, none, .fpu, [], .other⟩
  | .rsqrt_d fs _ => ⟨[], [fs], false, none, .fpu, [], .other⟩
  | .round_w_s fs _ => ⟨[], [fs], false, none, .fpu, [], .other⟩
  | .round_w_d fs _ => ⟨[], [fs], false, none, .fpu, [], .other⟩
  | .trunc_w_s fs _ => ⟨[], [fs], false, none, .fpu, [], .other⟩
  | .trunc_w_d fs _ => ⟨[], [fs], false, none, .fpu, [], .other⟩
  | .ceil_w_s fs _ => ⟨[], [fs], false, none, .fpu, [], .other⟩
  | .ceil_w_d fs _ => ⟨[], [fs], false, none, .fpu, [], .other⟩
  | .floor_w_s fs _ => ⟨[], [fs], false, none, .fpu, [], .other⟩
  | .floor_w_d fs _ => ⟨[], [fs], false, none, .fpu, [], .other⟩
  | .round_l_s fs _ => ⟨[], [fs], false, none, .fpu, [], .other⟩
  | .round_l_d fs _ => ⟨[], [fs], false, none, .fpu, [], .other⟩
  | .trunc_l_s fs _ => ⟨[], [fs], false, none, .fpu, [], .other⟩
  | .trunc_l_d fs _ => ⟨[], [fs], false, none, .fpu, [], .other⟩
  | .ceil_l_s fs _ => ⟨[], [fs], false, none, .fpu, [], .other⟩
  | .ceil_l_d fs _ => ⟨[], [fs], false, none, .fpu, [], .other⟩
  | .floor_l_s fs _ => ⟨[], [fs], false, none, .fpu, [], .other⟩
  | .floor_l_d fs _ => ⟨[], [fs], false, none, .fpu, [], .other⟩
  | .cvt_s_d fs _ => ⟨[], [fs], false, none, .fpu, [], .other⟩
  | .cvt_s_w fs _ => ⟨[], [fs], false, none, .fpu, [], .other⟩
  | .cvt_s_l fs _ => ⟨[], [fs], false, none, .fpu, [], .other⟩
  | .cvt_d_s fs _ => ⟨[], [fs], false, none, .fpu, [], .other⟩
  | .cvt_d_w fs _ => ⟨[], [fs], false, none, .fpu, [], .other⟩
  | .cvt_d_l fs _ => ⟨[], [fs], false, none, .fpu, [], .other⟩
  | .cvt_w_s fs _ => ⟨[], [fs], false, none, .fpu, [], .other⟩
  | .cvt_w_d fs _ => ⟨[], [fs], false, none, .fpu, [], .other⟩
  | .cvt_l_s fs _ => ⟨[], [fs], false, none, .fpu, [], .other⟩
  | .cvt_l_d fs _ => ⟨[], [fs], false, none, .fpu, [], .other⟩
  | .cfc2 rt _ => ⟨[], [], true, some rt, .plain, [], .other⟩
  | .ctc2 rt _ => ⟨[rt], [], false, none, .plain, [], .other⟩
  | .movf rs _ rd => ⟨[rs], [], false, some rd, .plain, [], .other⟩
  | .movt rs _ rd => ⟨[rs], [], false, some rd, .plain, [], .other⟩
  | .mfc0 rt _ _ => ⟨[], [], false, some rt, .plain, [], .other⟩
  | .mtc0 rt _ _ => ⟨[rt], [], false, none, .plain, [], .other⟩
  | .c_f_s ft fs _ => ⟨[], [fs, ft], false, none, .fpu, [], .other⟩
  | .c_un_s ft fs _ => ⟨[], [fs, ft], false, none, .fpu, [], .other⟩
  | .c_eq_s ft fs _ => ⟨[], [fs, ft], false, none, .fpu, [], .other⟩
  | .c_ueq_s ft fs _ => ⟨[], [fs, ft], false, none, .fpu, [], .other⟩
  | .c_olt_s ft fs _ => ⟨[], [fs, ft], false, none, .fpu, [], .other⟩
  | .c_ult_s ft fs _ => ⟨[], [fs, ft], false, none, .fpu, [], .other⟩
  | .c_ole_s ft fs _ => ⟨[], [fs, ft], false, none, .fpu, [], .other⟩
  | .c_ule_s ft fs _ => ⟨[], [fs, ft], false, none, .fpu, [], .other⟩
  | .c_sf_s ft fs _ => ⟨[], [fs, ft], false, none, .fpu, [], .other⟩
  | .c_ngle_s ft fs _ => ⟨[], [fs, ft], false, none, .fpu, [], .other⟩
  | .c_seq_s ft fs _ => ⟨[], [fs, ft], false, none, .fpu, [], .other⟩
  | .c_ngl_s ft fs _ => ⟨[], [fs, ft], false, none, .fpu, [], .other⟩
  | .c_lt_s ft fs _ => ⟨[], [fs, ft], false, none, .fpu, [], .other⟩
  | .c_nge_s ft fs _ => ⟨[], [fs, ft], false, none, .fpu, [], .other⟩
  | .c_le_s ft fs _ => ⟨[], [fs, ft], false, none, .fpu, [], .other⟩
  | .c_ngt_s ft fs _ => ⟨[], [fs, ft], false, none, .fpu, [], .other⟩
  | .c_f_d ft fs _ => ⟨[], [fs, ft], false, none, .fpu, [], .other⟩
  | .c_un_d ft fs _ => ⟨[], [fs, ft], false, none, .fpu, [], .other⟩
  | .c_eq_d ft fs _ => ⟨[], [fs, ft], false, none, .fpu, [], .other⟩
  | .c_ueq_d ft fs _ => ⟨[], [fs, ft], false, none, .fpu, [], .other⟩
  | .c_olt_d ft fs _ => ⟨[], [fs, ft], false, none, .fpu, [], .other⟩
  | .c_ult_d ft fs _ => ⟨[], [fs, ft], false, none, .fpu, [], .other⟩
  | .c_ole_d ft fs _ => ⟨[], [fs, ft], false, none, .fpu, [], .other⟩
  | .c_ule_d ft fs _ => ⟨[], [fs, ft], false, none, .fpu, [], .other⟩
  | .c_sf_d ft fs _ => ⟨[], [fs, ft], false, none, .fpu, [], .other⟩
  | .c_ngle_d ft fs _ => ⟨[], [fs, ft], false, none, .fpu, [], .other⟩
  | .c_seq_d ft fs _ => ⟨[], [fs, ft], false, none, .fpu, [], .other⟩
  | .c_ngl_d ft fs _ => ⟨[], [fs, ft], false, none, .fpu, [], .other⟩
  | .c_lt_d ft fs _ => ⟨[], [fs, ft], false, none, .fpu, [], .other⟩
  | .c_nge_d ft fs _ => ⟨[], [fs, ft], false, none, .fpu, [], .other⟩
  | .c_le_d ft fs _ => ⟨[], [fs, ft], false, none, .fpu, [], .other⟩
  | .c_ngt_d ft fs _ => ⟨[], [fs, ft], false, none, .fpu, [], .other⟩
  | .movf_s _ fs _ => ⟨[], [fs], false, none, .fpu, [], .other⟩
  | .movt_s _ fs _ => ⟨[], [fs], false, none, .fpu, [], .other⟩
  | .movf_d _ fs _ => ⟨[], [fs], false, none, .fpu, [], .other⟩
  | .movt_d _ fs _ => ⟨[], [fs], false, none, .fpu, [], .other⟩
  | .add rs rt rd => ⟨[rs, rt], [], false, some rd, .plain, [], .other⟩
  | .addu rs rt rd => ⟨[rs, rt], [], false, some rd, .plain, [], .other⟩
  | .sub rs rt rd => ⟨[rs, rt], [], false, some rd, .plain, [], .other⟩
  | .subu rs rt rd => ⟨[rs, rt], [], false, some rd, .plain, [], .other⟩
  | .and rs rt rd => ⟨[rs, rt], [], false, some rd, .plain, [], .other⟩
  | .or rs rt rd => ⟨[rs, rt], [], false, some rd, .plain, [], .other⟩
  | .xor rs rt rd => ⟨[rs, rt], [], false, some rd, .plain, [], .other⟩
  | .nor rs rt rd => ⟨[rs, rt], [], false, some rd, .plain, [], .other⟩
  | .slt rs rt rd => ⟨[rs, rt], [], false, some rd, .plain, [], .other⟩
  | .sltu rs rt rd => ⟨[rs, rt], [], false, some rd, .plain, [], .other⟩
  | .sll rt rd _ => ⟨[rt], [], false, some rd, .plain, [], .other⟩
  | .srl rt rd _ => ⟨[rt], [], false, some rd, .plain, [], .other⟩
  | .sra rt rd _ => ⟨[rt], [], false, some rd, .plain, [], .other⟩
  | .sllv rs rt rd => ⟨[rs, rt], [], false, some rd, .plain, [], .other⟩
  | .srlv rs rt rd => ⟨[rs, rt], [], false, some rd, .plain, [], .other⟩
  | .srav rs rt rd => ⟨[rs, rt], [], false, some rd, .plain, [], .other⟩
  | .rotr rt rd _ => ⟨[rt], [], false, some rd, .plain, [], .other⟩
  | .rotrv rs rt rd => ⟨[rs, rt], [], false, some rd, .plain, [], .other⟩
  | .movz rs rt rd => ⟨[rs, rt], [], false, some rd, .plain, [], .other⟩
  | .movn rs rt rd => ⟨[rs, rt], [], false, some rd, .plain, [], .other⟩
  | .clz rs _ rd => ⟨[rs], [], false, some rd, .plain, [], .other⟩
  | .clo rs _ rd => ⟨[rs], [], false, some rd, .plain, [], .other⟩
  | .mul rs rt rd => ⟨[rs, rt], [], false, some rd, .mulDiv, [], .other⟩
  | .lwxc1 base index _ => ⟨[base, index], [], false, none, .fpLoad, [], .other⟩
  | .ldxc1 base index _ => ⟨[base, index], [], false, none, .fpLoad, [], .other⟩
  | .luxc1 base index _ => ⟨[base, index], [], false, none, .fpLoad, [], .other⟩
  | .swxc1 base index fs => ⟨[base, index], [fs], false, none, .fpStore, [], .other⟩
  | .sdxc1 base index fs => ⟨[base, index], [fs], false, none, .fpStore, [], .other⟩
  | .suxc1 base index fs => ⟨[base, index], [fs], false, none, .fpStore, [], .other⟩
  | .prefx base index _ => ⟨[base, index], [], false, none, .pref, [], .other⟩
  | .add_s ft fs _ => ⟨[], [fs, ft], false, none, .fpu, [], .other⟩
  | .add_d ft fs _ => ⟨[], [fs, ft], false, none, .fpu, [], .other⟩
  | .sub_s ft fs _ => ⟨[], [fs, ft], false, none, .fpu, [], .other⟩
  | .sub_d ft fs _ => ⟨[], [fs, ft], false, none, .fpu, [], .other⟩
  | .mul_s ft fs _ => ⟨[], [fs, ft], false, none, .fpu, [], .other⟩
  | .mul_d ft fs _ => ⟨[], [fs, ft], false, none, .fpu, [], .other⟩
  | .div_s ft fs _ => ⟨[], [fs, ft], false, none, .fpu, [], .other⟩
  | .div_d ft fs _ => ⟨[], [fs, ft], false, none, .fpu, [], .other⟩
  | .movz_s rt fs _ => ⟨[rt], [fs], false, none, .fpu, [], .other⟩
  | .movz_d rt fs _ => ⟨[rt], [fs], false, none, .fpu, [], .other⟩
  | .movn_s rt fs _ => ⟨[rt], [fs], false, none, .fpu, [], .other⟩
  | .movn_d rt fs _ => ⟨[rt], [fs], false, none, .fpu, [], .other⟩
  | .bc1f _ _ => ⟨[], [], false, none, .fpu, [], .branch⟩
  | .bc1t _ _ => ⟨[], [], false, none, .fpu, [], .branch⟩
  | .bc1fl _ _ => ⟨[], [], false, none, .fpu, [], .branch⟩
  | .bc1tl _ _ => ⟨[], [], false, none, .fpu, [], .branch⟩
  | .bc2f _ _ => ⟨[], [], true, none, .plain, [], .branch⟩
  | .bc2t _ _ => ⟨[], [], true, none, .plain, [], .branch⟩
  | .bc2fl _ _ => ⟨[], [], true, none, .plain, [], .branch⟩
  | .bc2tl _ _ => ⟨[], [], true, none, .plain, [], .branch⟩
  | .ext rs rt _ _ => ⟨[rs], [], false, some rt, .plain, [], .other⟩
  | .ins rs rt _ _ => ⟨[rs, rt], [], false, some rt, .plain, [], .other⟩
  | .syscall _ => ⟨[], [], false, none, .plain, [], .other⟩
  | .break_ _ => ⟨[], [], false, none, .plain, [], .other⟩
  | .sdbbp _ => ⟨[], [], false, none, .plain, [], .other⟩
  | .tge rs rt _ => ⟨[rs, rt], [], false, none, .plain, [], .other⟩
  | .tgeu rs rt _ => ⟨[rs, rt], [], false, none, .plain, [], .other⟩
  | .tlt rs rt _ => ⟨[rs, rt], [], false, none, .plain, [], .other⟩
  | .tltu rs rt _ => ⟨[rs, rt], [], false, none, .plain, [], .other⟩
  | .teq rs rt _ => ⟨[rs, rt], [], false, none, .plain, [], .other⟩
  | .tne rs rt _ => ⟨[rs, rt], [], false, none, .plain, [], .other⟩
  | .madd_s fr ft fs _ => ⟨[], [fr, fs, ft], false, none, .fpu, [], .other⟩
  | .madd_d fr ft fs _ => ⟨[], [fr, fs, ft], false, none, .fpu, [], .other⟩
  | .msub_s fr ft fs _ => ⟨[], [fr, fs, ft], false, none, .fpu, [], .other⟩
  | .msub_d fr ft fs _ => ⟨[], [fr, fs, ft], false, none, .fpu, [], .other⟩
  | .nmadd_s fr ft fs _ => ⟨[], [fr, fs, ft], false, none, .fpu, [], .other⟩
  | .nmadd_d fr ft fs _ => ⟨[], [fr, fs, ft], false, none, .fpu, [], .other⟩
  | .nmsub_s fr ft fs _ => ⟨[], [fr, fs, ft], false, none, .fpu, [], .other⟩
  | .nmsub_d fr ft fs _ => ⟨[], [fr, fs, ft], false, none, .fpu, [], .other⟩
  | .lui rt _ => ⟨[], [], false, some rt, .plain, [], .other⟩
  | .blez rs _ => ⟨[rs], [], false, none, .plain, [], .branch⟩
  | .bgtz rs _ => ⟨[rs], [], false, none, .plain, [], .branch⟩
  | .bltz rs _ => ⟨[rs], [], false, none, .plain, [], .branch⟩
  | .bgez rs _ => ⟨[rs], [], false, none, .plain, [], .branch⟩
  | .bltzal rs _ => ⟨[rs], [], false, some 31, .plain, [], .branch⟩
  | .bgezal rs _ => ⟨[rs], [], false, some 31, .plain, [], .branch⟩
  | .blezl rs _ => ⟨[rs], [], false, none, .plain, [], .branch⟩
  | .bgtzl rs _ => ⟨[rs], [], false, none, .plain, [], .branch⟩
  | .bltzl rs _ => ⟨[rs], [], false, none, .plain, [], .branch⟩
  | .bgezl rs _ => ⟨[rs], [], false, none, .plain, [], .branch⟩
  | .bltzall rs _ => ⟨[rs], [], false, some 31, .plain, [], .branch⟩
  | .bgezall rs _ => ⟨[rs], [], false, some 31, .plain, [], .branch⟩
  | .synci base _ => ⟨[base], [], false, none, .plain, [], .other⟩
  | .tgei rs _ => ⟨[rs], [], false, none, .plain, [], .other⟩
  | .tgeiu rs _ => ⟨[rs], [], false, none, .plain, [], .other⟩
  | .tlti rs _ => ⟨[rs], [], false, none, .plain, [], .other⟩
  | .tltiu rs _ => ⟨[rs], [], false, none, .plain, [], .other⟩
  | .teqi rs _ => ⟨[rs], [], false, none, .plain, [], .other⟩
  | .tnei rs _ => ⟨[rs], [], false, none, .plain, [], .other⟩
  | .mfc2 rt _ => ⟨[], [], true, some rt, .plain, [], .other⟩
  | .mtc2 rt _ => ⟨[rt], [], false, none, .plain, [], .other⟩
  | .mfhc2 rt _ => ⟨[], [], true, some rt, .plain, [], .other⟩
  | .mthc2 rt _ => ⟨[rt], [], false, none, .plain, [], .other⟩
  | .udi impl _ => ⟨[impl.extractLsb' 15 5, impl.extractLsb' 10 5], [], false, some (impl.extractLsb' 5 5), .plain, [], .other⟩
  | .cop2 _ => ⟨[], [], true, none, .plain, [], .other⟩
  | .addi rs rt _ => ⟨[rs], [], false, some rt, .plain, [], .other⟩
  | .addiu rs rt _ => ⟨[rs], [], false, some rt, .plain, [], .other⟩
  | .andi rs rt _ => ⟨[rs], [], false, some rt, .plain, [], .other⟩
  | .ori rs rt _ => ⟨[rs], [], false, some rt, .plain, [], .other⟩
  | .xori rs rt _ => ⟨[rs], [], false, some rt, .plain, [], .other⟩
  | .slti rs rt _ => ⟨[rs], [], false, some rt, .plain, [], .other⟩
  | .sltiu rs rt _ => ⟨[rs], [], false, some rt, .plain, [], .other⟩
  | .beq rs rt _ => ⟨[rs, rt], [], false, none, .plain, [], .branch⟩
  | .bne rs rt _ => ⟨[rs, rt], [], false, none, .plain, [], .branch⟩
  | .beql rs rt _ => ⟨[rs, rt], [], false, none, .plain, [], .branch⟩
  | .bnel rs rt _ => ⟨[rs, rt], [], false, none, .plain, [], .branch⟩
  | .j _ => ⟨[], [], false, none, .jump, [], .other⟩
  | .jal _ => ⟨[], [], false, some 31, .jump, [], .other⟩
  | .jalx _ => ⟨[], [], false, some 31, .plain, [], .other⟩
  | .lb base rt _ => ⟨[base], [], false, some rt, .load, [], .other⟩
  | .lbu base rt _ => ⟨[base], [], false, some rt, .load, [], .other⟩
  | .lh base rt _ => ⟨[base], [], false, some rt, .load, [], .other⟩
  | .lhu base rt _ => ⟨[base], [], false, some rt, .load, [], .other⟩
  | .lw base rt _ => ⟨[base], [], false, some rt, .load, [], .other⟩
  | .lwl base rt _ => ⟨[base, rt], [], false, some rt, .load, [], .other⟩
  | .lwr base rt _ => ⟨[base, rt], [], false, some rt, .load, [], .other⟩
  | .sb base rt _ => ⟨[base, rt], [], false, none, .store, [], .other⟩
  | .sh base rt _ => ⟨[base, rt], [], false, none, .store, [], .other⟩
  | .sw base rt _ => ⟨[base, rt], [], false, none, .store, [], .other⟩
  | .swl base rt _ => ⟨[base, rt], [], false, none, .store, [], .other⟩
  | .swr base rt _ => ⟨[base, rt], [], false, none, .store, [], .other⟩
  | .ll base rt _ => ⟨[base], [], false, some rt, .load, [], .other⟩
  | .sc base rt imm => ⟨[base, rt], [], false, some rt, (.sc base imm), [], .other⟩
  | .pref base _ _ => ⟨[base], [], false, none, .pref, [], .other⟩
  | .cache base _ _ => ⟨[base], [], false, none, .plain, [], .other⟩
  | .lwc1 base _ _ => ⟨[base], [], false, none, .fpLoad, [], .other⟩
  | .ldc1 base _ _ => ⟨[base], [], false, none, .fpLoad, [], .other⟩
  | .swc1 base ft _ => ⟨[base], [ft], false, none, .fpStore, [], .other⟩
  | .sdc1 base ft _ => ⟨[base], [ft], false, none, .fpStore, [], .other⟩
  | .lwc2 base _ _ => ⟨[base], [], false, none, .load, [], .other⟩
  | .swc2 base _ _ => ⟨[base], [], true, none, .store, [], .other⟩
  | .ldc2 base _ _ => ⟨[base], [], false, none, .load, [], .other⟩
  | .sdc2 base _ _ => ⟨[base], [], true, none, .store, [], .other⟩
  | .eret => ⟨[], [], false, none, .plain, [], .other⟩
  | .deret => ⟨[], [], false, none, .plain, [], .other⟩
  | .tlbr => ⟨[], [], false, none, .plain, [], .other⟩
  | .tlbwi => ⟨[], [], false, none, .plain, [], .other⟩
  | .tlbwr => ⟨[], [], false, none, .plain, [], .other⟩
  | .tlbp => ⟨[], [], false, none, .plain, [], .other⟩
  | .nop => ⟨[], [], false, some 0, .plain, [], .other⟩
  | .ssnop => ⟨[], [], false, some 0, .plain, [], .other⟩
  | .ehb => ⟨[], [], false, some 0, .plain, [], .other⟩
  | .wait => ⟨[], [], false, none, .plain, [], .other⟩

end Sys2Proof.Machine
end

