-- ==== Sys2Proof/Machine/Cycle.lean ====
section
/-! DEFINITION. One step of the core: the conditions before an instruction in the order of spec/60_exceptions.md R820,
fetch, decode (spec/30_encoding.md R310, R311), execution, and what follows it: single-step count (R884), performance
counters (R925, R926). -/

namespace Sys2Proof.Machine

/-- A step begins: a new draw number (log 9); pending hazards retire unless the environment holds them (R970, log 8). -/
def State.beginStep (s : State) : State :=
  { s with freeCtr := s.freeCtr + 1, hazards := if s.inputs.hazardsHeld then s.hazards else [] }

/-! ## The next instruction (R904, R926) -/

/-- The instruction a fetch at `pc` would give, if it gives one. -/
def State.nextInstr (s : State) : Option Instr :=
  match s.fetchWord s.pc with
  | .ok w _ =>
    match decode w with
    | .ok i => some i
    | .error _ => none
  | _ => none

/-- Whether FP register `r` is read where `d` was loaded: with `FR = 0` a pair counts as one (R46, R904). -/
def sameFpr (fr : Bool) (d r : Reg) : Bool := if fr then d = r else pairHigh d = pairHigh r

/-- Whether an instruction reads what the load of a pending break loaded (R904): a general register by its set. -/
def State.readsLoaded (s : State) (i : Instr) (b : PendBreak) : Bool :=
  let n := instrInfo i
  match b.dest with
  | .none => false
  | .gpr set r =>
    (set = s.curSet && n.gpr.any (fun x => x = r)) || (set = s.prevSet && n.prev.any (fun x => x = r))
  | .fpr r => n.fpr.any (fun x => sameFpr s.fr r x)
  | .cp2 => n.cp2

/-! ## Conditions before the instruction (R820 items 2 to 8) -/

/-- Single step (R884). -/
def State.singleStepDue (s : State) : Bool :=
  !s.dm && (s.view .fetch).sst && decide (1 ≤ s.dbg.stepCount) && !s.inDelaySlot

/-- The interrupt condition (R811, R814), `DCR[INTE]` included (R895). -/
def State.interruptDue (s : State) : Bool :=
  let v := s.view .interrupt
  v.ie && !v.exl && !v.erl && !s.dm && s.dcrInte &&
    (if s.cfg.eicPresent then decide (v.ipl.toNat < s.inputs.eicRIPL.toNat) else (v.ip &&& v.im) ≠ 0)

/-- The deferred watch (R922). -/
def State.watchDue (s : State) : Bool := s.wp && !s.exl && !s.erl && !s.dm

/-- A pending imprecise data break becomes due (R904): its time has come, or the next instruction reads the register
its load loaded. -/
def State.breakDue (s : State) : Bool :=
  !s.dm && s.dbg.pendBreaks.any (fun b => b.left = 0 || s.nextInstr.any (fun i => s.readsLoaded i b))

/-- What stands at the boundary: an exception, an NMI, a deferred imprecise exception, or nothing, with the state in
which it is taken. -/
inductive Boundary where
  | exc (e : Exc) (s : State)
  | nmi (s : State)
  | early (e : Exc) (s : State)
  | go (s : State)

/-- The environment's delays run down by one boundary (R246, R904). -/
def State.tickDelays (s : State) : State :=
  { s with
    pendDBE := s.pendDBE.map (· - 1)
    dbg := { s.dbg with pendBreaks := s.dbg.pendBreaks.map (fun b => { b with left := b.left - 1 }) } }

/-- A data bus error is due (R246). -/
def State.dbeDue (s : State) : Bool := s.pendDBE.any (fun n => n = 0)

/-- While `IEXI` is set imprecise exceptions that would come are noted in `Debug` instead (R886). -/
def State.deferImprecise (s : State) : State :=
  if s.iexi then
    { s with
      pendCacheErr := false
      pendCacheErrData := false
      pendDBE := s.pendDBE.filter (fun n => n ≠ 0)
      cp0 := { s.cp0 with
        debug := s.cp0.debug ||| bitAt 22 (s.pendCacheErr || s.pendCacheErrData) ||| bitAt 21 s.dbeDue } }
  else s

/-- The first condition of R820 that holds at the boundary (log 35). What `Debug` deferred comes right after an NMI
(R887), Cache Error first; the bus error then waits for the return of its handler (R886; log 50). -/
def State.boundaryOf (s : State) : Boundary :=
  if s.singleStepDue then .exc (.debug 0x00000001) s
  else if !s.dm && s.dintPending then .exc (.debug 0x00000020) s
  else if s.breakDue then .exc (.debug 0) s
  else if s.dcrNmip && s.dcrNmie && !s.dm then .nmi s
  else if !s.iexi && s.cacheEP then
    .early .cacheError { s with
      dbeHeld := s.dbusEP, cp0 := { s.cp0 with debug := s.cp0.debug &&& 0xFFBFFFFF } }
  else if !s.iexi && s.dbusEP && !s.dbeHeld then
    .early .dbe { s with cp0 := { s.cp0 with debug := s.cp0.debug &&& 0xFFDFFFFF } }
  else if s.interruptDue then .exc .int s
  else if s.watchDue then .exc .watch s
  else .go s

/-- What stands at the boundary, once imprecise exceptions that must wait are noted. -/
def State.boundary (s : State) : Boundary := s.deferImprecise.boundaryOf

/-! ## Fetch, decode, execute -/

/-- The coprocessor whose opcode space a word lies in (R311). -/
def copSpace (w : Word) : Option (BitVec 2) :=
  match fieldOp w with
  | 0b010000#6 => some 0
  | 0b010001#6 => some 1
  | 0b010011#6 => some 1
  | 0b110001#6 => some 1
  | 0b110101#6 => some 1
  | 0b111001#6 => some 1
  | 0b111101#6 => some 1
  | 0b000000#6 => if fieldFn w = 0b000001#6 then some 1 else none
  | 0b010010#6 => some 2
  | 0b110010#6 => some 2
  | 0b110110#6 => some 2
  | 0b111010#6 => some 2
  | 0b111110#6 => some 2
  | _ => none

/-- Whether coprocessor `n` is usable (R592, R783). -/
def State.copUsable (s : State) (n : BitVec 2) : Bool :=
  if n = 0 then s.cp0Usable else if n = 1 then s.cp1Usable else s.cp2Usable

/-- A word that is no instruction: Coprocessor Unusable inside an unusable coprocessor's opcode space, otherwise
Reserved Instruction (R310, R311). -/
def State.undecoded (s : State) (w : Word) : Out :=
  match copSpace w with
  | some n => if s.copUsable n then s.raise .ri else s.raise (.cpu n)
  | none => s.raise .ri

/-- A fetched word: decoded and executed. -/
def State.runWord (s : State) (w : Word) : Out :=
  match decode w with
  | .ok i => exec i s
  | .error _ => s.undecoded w

/-- Fetch and run the instruction at `pc` (R237). -/
def State.runNext (s : State) : Out :=
  match s.fetchWord s.pc with
  | .ok w s1 => s1.runWord w
  | .exc e s1 => s1.raise e
  | .wait s1 => .next s1
  | .ref r => .refused r
  | .flt f => .fault f

/-- The instruction at `pc` where the imprecise exception `e` is due: what the fetch and the instruction itself raise
comes first, otherwise `e` is taken in its place, in the state `s0` that no longer holds it. -/
def State.runBefore (s : State) (e : Exc) (s0 : State) : Out :=
  match s.runNext with
  | .next t => if t.excCount = s.excCount then s0.raise e else .next t
  | _ => s0.raise e

/-- The instruction at `pc`: alone, or before a cache error of the data side (R820 item 22), or before a data bus error
that was due at the boundary (item 23). -/
def State.runLast (s : State) (dbe : Bool) : Out :=
  if s.pendCacheErrData then s.runBefore .cacheError { s with pendCacheErrData := false }
  else if dbe then s.runBefore .dbe { s with pendDBE := s.pendDBE.erase 0 }
  else s.runNext

/-! ## After the step: single-step count and performance counters -/

/-- Whether a completed instruction is an occurrence of an exact event (R926, D46). Every completed `sc` is a store of
event 15, one that stores nothing too, and every completed instruction whose destination is `$0` is an event 17, a move
whose condition failed and a CorExtend word without an answer too (DESIGN CHOICE, log 42). -/
def instrEvent (one : Bool) (e : Nat) (i : InstrInfo) (scFailed : Bool) : Bool :=
  match one, e with
  | _, 1 => true
  | false, 2 => i.flow = .branch
  | false, 3 => i.flow = .ret
  | false, 14 => i.cls ≠ .fpu && i.cls ≠ .fpLoad && i.cls ≠ .fpStore
  | true, 14 => i.cls = .fpu
  | false, 15 => i.cls = .load || i.cls = .fpLoad
  | true, 15 => i.cls = .store || i.cls = .fpStore || i.cls.isSc
  | false, 16 => i.cls = .jump
  | false, 17 => i.dest = some 0
  | true, 17 => i.cls = .mulDiv
  | false, 19 => i.cls.isSc
  | true, 19 => i.cls.isSc && scFailed
  | false, 20 => i.cls = .pref
  | _, _ => false

/-- Whether a step from `s` to `s1` left the core waiting for the probe (R891). -/
def State.waiting (s s1 : State) : Bool := s1.dbg.ejtagControl.getLsbD 18 && s1.excCount = s.excCount

/-- Whether an instruction is an `sc` that does not store, in the state it begins in (R514). -/
def State.scFailed (s : State) : InstrClass → Bool
  | .sc base imm => !s.scStores (s.effAddr base imm)
  | _ => false

/-- How many occurrences of a counter's event a step was: one for a completed instruction of the event's kind, one for
an exception taken (event 23). -/
def State.perfOccurs (s s1 : State) (one : Bool) (info : Option InstrInfo) : Nat :=
  let e := perfEvent (s.perfCtl one)
  if s1.excCount ≠ s.excCount then (if !one && e = 23 then 1 else 0)
  else if s.waiting s1 then 0
  else
    match info with
    | some i => if instrEvent one e i (s.scFailed i.cls) then 1 else 0
    | none => 0

/-- Count what a step did (R925 to R927): the filter and the control words are those of the state before it. -/
def State.countPerf (s s1 : State) (info : Option InstrInfo) : State :=
  let go (one : Bool) (t : State) : State :=
    if s.hasCounter one && s.perfCounts (s.perfCtl one) then t.addPerf one (s.perfOccurs s1 one info) else t
  go true (go false s1)

/-- An instruction that no longer waits leaves no dmseg transfer behind (R891). -/
def State.closeTransfer (s s1 : State) : State :=
  if s.waiting s1 then s1
  else { s1 with dbg := { s1.dbg with served := [], ejtagControl := s1.dbg.ejtagControl &&& 0xFFFBFFFF } }

/-- The end of a step in `s1` that began in `s`: the counters, the dmseg transfer. -/
def State.settle (s s1 : State) (info : Option InstrInfo) : State := s.closeTransfer (s.countPerf s1 info)

/-- The end of a step that counts for single step (R884). -/
def State.endStep (s s1 : State) (info : Option InstrInfo) : State :=
  let s2 := s.settle s1 info
  if !s.dm && !s1.dm then { s2 with dbg := { s2.dbg with stepCount := s2.dbg.stepCount + 1 } } else s2

/-- The end of a step on an outcome. -/
def endOut (f : State → State) : Out → Out
  | .next s1 => .next (f s1)
  | .fault q => .fault q
  | .refused r => .refused r

/-- What a boundary leads to: an exception or NMI taken, or the next instruction run (R820). An NMI and what `Debug`
deferred come before the single-step count starts (R887). -/
def Boundary.run (s : State) : Boundary → Out
  | .exc e s1 => endOut (fun t => s.endStep t none) (s1.raise e)
  | .nmi s1 => endOut (fun t => s.settle t none) s1.takeNmi
  | .early e s1 => endOut (fun t => s.settle t none) (s1.raise e)
  | .go s1 =>
    let s2 : State := { s1.tickDelays with sleeping := false }
    endOut (fun t => s.endStep t (s2.nextInstr.map instrInfo)) (s2.runLast s1.dbeDue)

/-- One step of the core. Asleep, it does nothing until something wakes it (R577). -/
def State.coreStep (s : State) : Out :=
  let s1 := s.beginStep
  if s1.sleeping && !s1.wakes then .next s1 else Boundary.run s1 s1.boundary

/-! ## Placing an instruction where the next step fetches it -/

/-- The four bytes of a word in the order instructions are stored (R230). -/
def instrBytes (cfg : Cfg) (w : Word) : List Byte := natToBytes cfg.bigEndian 4 w.toNat

/-- The state with a word stored at a physical address, where a fetch with code `cca` reads it: ISPRAM, the I-cache
line that holds the address, or memory. -/
def State.placeAt (s : State) (va pa : Word) (cca : BitVec 3) (w : Word) : State :=
  let bs := instrBytes s.cfg w
  match s.ispram.offset s.cfg.hasISPRAM pa with
  | some off => { s with ispram := { s.ispram with cells := Memory.writeBytes s.ispram.cells off bs } }
  | none =>
    let line := lineBytes s.cfg false
    match (if ccaCached cca && line ≠ 0 then s.icache.lookup s.cfg false va pa else none) with
    | some slot => { s with icache := s.icache.setBytes line slot (pa.toNat % line) bs }
    | none => { s with mem := Memory.writeBytes s.mem pa.toNat bs }

/-- The state with a word stored where its next step fetches (log 4): through the probe's reply in dmseg, otherwise at
the physical address of `pc`. Environment events that would come before the core's step are dropped. -/
def State.placeWord (s : State) (w : Word) : State :=
  let s0 : State := { s with env := [] }
  let b := s0.beginStep
  match b.dsegOf .fetch b.pc with
  | some _ => { s0 with dbg := { s0.dbg with probeReplies := w :: s0.dbg.probeReplies, probeAnswers := true } }
  | none =>
    match b.translate .fetch b.pc with
    | .ok p _ => s0.placeAt s0.pc p.1 p.2 w
    | _ => s0

end Sys2Proof.Machine
end

