-- ==== Sys2Proof/Machine/Step.lean ====
section
/-! DEFINITION. The step of the machine: an environment event or one step of the core (spec/00_scope.md R10; log 6). -/

namespace Sys2Proof.Machine

/-- One step: the next environment event if one stands first (R10; log 6), otherwise the core's step. -/
def step (s : State) : Host.Outcome State Fault Refusal :=
  match s.env with
  | [] => s.coreStep
  | .core :: t => State.coreStep { s with env := t }
  | e :: t => .next (applyEvent e { s with env := t, freeCtr := s.freeCtr + 1 })

/-- The state with an instruction stored where the next step fetches it (log 4). -/
def State.withFetchWord (s : State) (nbits w : Nat) : State := s.placeWord (BitVec.ofNat 32 (w % 2 ^ nbits))

end Sys2Proof.Machine
end

