-- ==== Sys2Proof/Safety.lean ====
section
/-! DEFINITION. What the statements speak of: configurations the core can have (spec/00_scope.md R8), invariants of the
machine, states in which nothing stands before the next instruction, memory accesses that go through plainly, and what
an instruction leaves unchanged. -/

namespace Sys2Proof.Machine

/-! ## Invariants -/

/-- Keys strictly rising (the gather buffer, R244). -/
def risingKeys {α : Type} : Option Nat → List (Nat × α) → Bool
  | _, [] => true
  | lo, (k, _) :: t => (match lo with | none => true | some b => decide (b < k)) && risingKeys (some k) t

/-- The canonical form of a cache's storage. -/
def Cache.wf (c : Cache) : Bool :=
  sparseWf .zero none c.tags && Memory.wf c.data && sparseWf none none c.tagP && sparseWf none none c.dirtyP &&
    sparseWf none none c.dataP && sparseWf none none c.lru

/-- Every memory of the machine is in its canonical form. -/
def State.memWf (s : State) : Bool :=
  Memory.wf s.mem && s.icache.wf && s.dcache.wf && Memory.wf s.ispram.cells && Memory.wf s.dspram.cells &&
    (match s.gather with
     | none => true
     | some g => risingKeys none g.cells)

/-- The pc never takes the ISA mode bit (R470, D34), and outside a delay slot with a jump pending the next instruction
follows the current one (R36). -/
def State.pcOk (s : State) : Bool :=
  !s.pc.getLsbD 0 && !s.npc.getLsbD 0 &&
    (match s.slot with
     | .jump _ => true
     | _ => s.npc = s.pc + 4)

/-- The reserved bits of `FCSR` (20 to 18, R51) and of `Status` (31, 24, 23, 20, 18, 16, 7 to 5, R94) are 0. -/
def State.reservedOk (s : State) : Bool :=
  s.fcsr &&& 0x001C0000 = 0 && s.cp0.status &&& 0x819500E0 = 0

/-! ## A quiet boundary: nothing of R820's items 1 to 8 stands before the next instruction -/

/-- No environment event, no hazard, awake, and none of the boundary conditions. -/
def State.quiet (s : State) : Bool :=
  s.env = [] && s.hazards = [] && !s.sleeping && (s.dm || !s.sst) && !(!s.dm && s.dintPending) && s.dbg.pendBreaks = [] &&
    !(s.dcrNmip && s.dcrNmie && !s.dm) && !s.interruptDue && !s.watchDue && !s.pendCacheErr &&
    !s.pendCacheErrData && s.pendDBE = [] && !s.cacheEP && !s.dbusEP

/-! ## The advance of the pc -/

/-- The instruction at `pc` may be followed by the next one (D14). -/
def State.canAdvance (s : State) : Bool :=
  match s.slot with
  | .jump _ => true
  | _ => s.pc ≠ 0xFFFFFFFC

/-- The pc fields after an instruction that transfers no control (R452). -/
def Moved (s t : State) : Prop := t.pc = s.npc ∧ t.npc = s.npc + 4 ∧ t.slot = .none ∧ t.hazards = s.hazardsAfter

/-- The pc fields after an instruction that transfers no control, whatever it did to the hazards. -/
def Went (s t : State) : Prop := t.pc = s.npc ∧ t.npc = s.npc + 4 ∧ t.slot = .none

/-- The instruction waits for a silent probe (R891): it stands where it stood, with no register written. -/
def Waits (s t : State) : Prop :=
  s.dbg.probeAnswers = false ∧ t.pc = s.pc ∧ t.npc = s.npc ∧ t.slot = s.slot ∧ t.gpr = s.gpr

/-! ## Frames -/

/-- Everything but the general registers and the pc fields is as it was. -/
def OnlyGprChanged (s t : State) : Prop :=
  t = { s with gpr := t.gpr, pc := t.pc, npc := t.npc, slot := t.slot, hazards := t.hazards }

/-- Every general register but `r` of the current set is as it was. -/
def OtherGprsKept (s t : State) (r : Reg) : Prop :=
  ∀ (set : BitVec 4) (q : Reg), ¬(set = s.curSet ∧ q = r) → t.readSet set q = s.readSet set q

/-- Every byte of memory reads as it did. -/
def MemoryKept (s t : State) : Prop := ∀ a : Nat, Memory.read t.mem a = Memory.read s.mem a

/-- After the gathered stores were performed (R244): with nothing gathered every byte reads as it did; otherwise every
byte of RAM that was gathered holds its value, and every other byte reads as it did. -/
def GatherWritten (s t : State) : Prop :=
  match s.gather with
  | none => MemoryKept s t
  | some g =>
    (∀ a : Nat, a ∉ g.cells.map Prod.fst ∨ regionAt s.cfg.physMap a ≠ some .ram →
      Memory.read t.mem a = Memory.read s.mem a) ∧
    (risingKeys none g.cells = true → ∀ a v, (a, v) ∈ g.cells → regionAt s.cfg.physMap a = some .ram →
      Memory.read t.mem a = v)

/-- An instruction completed whose one result is `v` in general register `r` (nothing where `r` is 0, R31). -/
structure GprResult (s t : State) (r : Reg) (v : Word) : Prop where
  value : t.readGpr r = if r = 0 then 0 else v
  others : OtherGprsKept s t r
  memory : MemoryKept s t
  frame : OnlyGprChanged s t
  moved : Moved s t

/-- An instruction completed that changes nothing but the pc fields. -/
structure NoResult (s t : State) : Prop where
  memory : MemoryKept s t
  frame : t = { s with pc := t.pc, npc := t.npc, slot := t.slot, hazards := t.hazards }
  moved : Moved s t

/-- An instruction completed whose results are `HI` and `LO`. -/
structure HiLoResult (s t : State) (hi lo : Word) : Prop where
  hi : t.hi = hi
  lo : t.lo = lo
  memory : MemoryKept s t
  frame : t = { s with hi := t.hi, lo := t.lo, pc := t.pc, npc := t.npc, slot := t.slot, hazards := t.hazards }
  moved : Moved s t

/-- An exact integer has a 32-bit two's complement representation (R341). -/
def fitsSigned (x : Int) : Prop := -2 ^ 31 ≤ x ∧ x ≤ 2 ^ 31 - 1

/-- Instruction `i` is written as the word `w`, and wherever the pc may advance it completes with the one result
`v` in general register `r`. -/
def Computes (i : Instr) (w : Word) (r : Reg) (v : State → Word) : Prop :=
  encode i = w ∧ ∀ s : State, s.canAdvance → ∃ t, exec i s = .next t ∧ GprResult s t r (v s)

/-- Instruction `i` is written as the word `w`, and wherever the pc may advance it completes with `p` in `HI :: LO`. -/
def Accumulates (i : Instr) (w : Word) (p : State → DWord) : Prop :=
  encode i = w ∧
    ∀ s : State, s.canAdvance → ∃ t, exec i s = .next t ∧
      HiLoResult s t ((p s).extractLsb' 32 32) ((p s).extractLsb' 0 32)

/-! ## Control transfers -/

/-- A branch or jump may be taken here: it is in no delay slot and the delay slot follows it (R454, D14). -/
def State.canBranch (s : State) : Bool := s.slot = .none && s.pc ≠ 0xFFFFFFFC

/-- A branch or jump completed: its delay slot runs next, then `target` if it is taken and the instruction after the
slot otherwise (R452); `hb` for the hazard barrier forms (R477). Nothing else changed. -/
structure Branched (s t : State) (taken : Bool) (target : Word) (hb : Bool) : Prop where
  pc : t.pc = s.npc
  npc : t.npc = if taken then target else s.npc + 4
  slot : t.slot = if taken then .jump hb else .fallThrough
  memory : MemoryKept s t
  frame : t = { s with pc := t.pc, npc := t.npc, slot := t.slot }

/-- A branch likely that is not taken completed: its delay slot is skipped (R453). Nothing else changed. -/
structure Nullified (s t : State) : Prop where
  pc : t.pc = s.npc + 4
  npc : t.npc = s.npc + 8
  memory : MemoryKept s t
  frame : t = { s with pc := t.pc, npc := t.npc }

/-- The state with the return address in `r` (R451): register `r` holds `pc + 8`, unless it is register 0 (R31), and no
other register changed. -/
structure LinkWritten (s u : State) (r : Reg) : Prop where
  value : u.readGpr r = if r = 0 then 0 else s.pc + 8
  others : OtherGprsKept s u r
  frame : u = { s with gpr := u.gpr }

/-! ## Plain data accesses -/

/-- The physical address of a kseg0 or kseg1 address (R200). -/
def unmapped (va : Word) : Word := va &&& 0x1FFFFFFF

/-- No data breakpoint or data watchpoint is enabled for the kind of access. -/
def State.noDataTraps (s : State) (store : Bool) : Bool :=
  !(s.dbg.db.get 0).ctl.getLsbD 0 && !(s.dbg.db.get 1).ctl.getLsbD 0 &&
    !(s.cp0.watchLo.get 2).getLsbD (if store then 0 else 1) && !(s.cp0.watchLo.get 3).getLsbD (if store then 0 else 1)

/-- The `n` bytes from a physical address are RAM and in no scratchpad. -/
def State.plainRam (s : State) (pa : Word) (n : Nat) : Bool :=
  (List.range n).all (fun j =>
    regionAt s.cfg.physMap (pa.toNat + j) = some .ram && s.ispram.offset s.cfg.hasISPRAM (pa + BitVec.ofNat 32 j) = none
      && s.dspram.offset s.cfg.hasDSPRAM (pa + BitVec.ofNat 32 j) = none)

/-- A data access of `n` bytes to uncached RAM in kseg1 by kernel code, which nothing turns away. -/
def State.uncachedAccess (s : State) (store : Bool) (va : Word) (n : Nat) : Bool :=
  s.hazards = [] && s.mode? = some .kernel && inKseg1 va && s.noDataTraps store && s.plainRam (unmapped va) n &&
    !s.inputs.failData && s.gather = none

/-- A data access of `n` bytes inside a D-cache line that is present, through kseg0 with the write-back code 3 (R207). -/
def State.cachedBytes (s : State) (store : Bool) (va : Word) (n slot : Nat) : Bool :=
  s.hazards = [] && s.mode? = some .kernel && inKseg0 va && s.noDataTraps store && s.plainRam (unmapped va) n &&
    lineBytes s.cfg true ≠ 0 && s.cp0.config.extractLsb' 0 3 = 3 &&
    s.dcache.lookup s.cfg true va (unmapped va) = some slot

/-- The same for a word. -/
def State.cachedAccess (s : State) (store : Bool) (va : Word) (slot : Nat) : Bool := s.cachedBytes store va 4 slot

/-- The number in `n` bytes of the D-cache line in a slot, at the place of a physical address (R230, R260). -/
def State.lineNat (s : State) (slot : Nat) (pa : Word) (n : Nat) : Nat :=
  bytesToNat s.bigData (s.dcache.bytes (lineBytes s.cfg true) slot (pa.toNat % lineBytes s.cfg true) n)

/-- The state after an access used a D-cache line (R260). -/
def State.lineUsed (s : State) (slot : Nat) : State := { s with dcache := s.dcache.used (slot % numSets s.cfg true) }

/-- The state after a store put bytes into a D-cache line, which is dirty then (R260). -/
def State.lineWritten (s : State) (slot : Nat) (pa : Word) (bs : List Byte) : State :=
  { s with
    llTouched := true
    dcache := ((s.lineUsed slot).dcache.setBytes (lineBytes s.cfg true) slot (pa.toNat % lineBytes s.cfg true) bs).setTag
      slot { s.dcache.tag slot with d := true } }

/-- What is written back of the line in D-cache slot `slot` (R260, R521): the bytes of a dirty line stand in the RAM of
its address, and no other byte of memory changed; a clean line leaves all of it. The data of the cache and the tags of
its other slots are as they were. -/
structure LineWrittenBack (s t : State) (slot : Nat) : Prop where
  dirty : (s.dcache.tag slot).d = true → ∀ a : Nat,
    let base := lineAddr s.cfg true slot (s.dcache.tag slot)
    let line := lineBytes s.cfg true
    Memory.read t.mem a =
      if base ≤ a ∧ a < base + line ∧ regionAt s.cfg.physMap a = some .ram then
        Memory.read s.dcache.data (slot * line + (a - base))
      else Memory.read s.mem a
  clean : (s.dcache.tag slot).d = false → MemoryKept s t
  data : t.dcache.data = s.dcache.data
  others : ∀ k, k ≠ slot → t.dcache.tag k = s.dcache.tag k

/-- The number in `n` bytes of memory, in the byte order of data accesses (R230). -/
def State.memNat (s : State) (pa : Word) (n : Nat) : Nat :=
  bytesToNat s.bigData (Memory.readBytes s.mem pa.toNat n)

/-- After a store of `bs` at physical address `pa`: those bytes, and no other byte, changed. -/
def StoredBytes (s t : State) (pa : Word) (bs : List Byte) : Prop :=
  ∀ a : Nat, Memory.read t.mem a =
    if pa.toNat ≤ a ∧ a < pa.toNat + bs.length then bs.getD (a - pa.toNat) 0 else Memory.read s.mem a

/-- A load completed into general register `r`: the rest as it was, but that an `sc` to come is no longer certain
(R251). -/
structure LoadResult (s t : State) (r : Reg) (v : Word) : Prop where
  value : t.readGpr r = if r = 0 then 0 else v
  others : OtherGprsKept s t r
  memory : MemoryKept s t
  frame : t = { s with gpr := t.gpr, llTouched := true, pc := t.pc, npc := t.npc, slot := t.slot, hazards := t.hazards }
  moved : Moved s t

/-- A store completed: the bytes at the address, and nothing else. -/
structure StoreResult (s t : State) (pa : Word) (bs : List Byte) : Prop where
  stored : StoredBytes s t pa bs
  frame : t = { s with mem := t.mem, llTouched := true, pc := t.pc, npc := t.npc, slot := t.slot, hazards := t.hazards }
  moved : Moved s t

/-- The aligned word that holds an address (R506). -/
def wordAt (va : Word) : Word := va &&& 0xFFFFFFFC

/-- The word at a physical address, in the byte order of data accesses (R230). -/
def State.memWord (s : State) (pa : Word) : Word := BitVec.ofNat 32 (s.memNat pa 4)

/-- `w[31-8k:0] :: x[8k-1:0]` (R506, R512). -/
def spliceLeft (w x : Word) (k : Nat) : Word := BitVec.ofNat 32 (w.toNat * 2 ^ (8 * k) + x.toNat % 2 ^ (8 * k))

/-- `x[31:32-8k] :: w[31:8k]` (R507, R511). -/
def spliceRight (x w : Word) (k : Nat) : Word :=
  BitVec.ofNat 32 (x.toNat / 2 ^ (32 - 8 * k) * 2 ^ (32 - 8 * k) + w.toNat / 2 ^ (8 * k))

/-- `k` of `lwl`, `swl` (R506): how many bytes of the word stand before the address in its byte order. -/
def State.skipLeft (s : State) (va : Word) : Nat := if s.bigData then va.toNat % 4 else 3 - va.toNat % 4

/-- `k` of `lwr`, `swr` (R507). -/
def State.skipRight (s : State) (va : Word) : Nat := if s.bigData then 3 - va.toNat % 4 else va.toNat % 4

/-- A partial store completed inside the aligned word at `pa`: that word reads as `w`, and no byte outside it changed. -/
structure WordStoreResult (s t : State) (pa w : Word) : Prop where
  stored : t.memWord pa = w
  others : ∀ a : Nat, (a < pa.toNat ∨ pa.toNat + 4 ≤ a) → Memory.read t.mem a = Memory.read s.mem a
  frame : t = { s with mem := t.mem, llTouched := true, pc := t.pc, npc := t.npc, slot := t.slot, hazards := t.hazards }
  moved : Moved s t

/-- What a load or store of the integer or coprocessor families never changes, whichever way its access goes: the state
but the memories, the caches, the debug unit, the watch bits, the pending errors, the environment's choices and the
destination. -/
def CoreKept (s t : State) : Prop :=
  t.cfg = s.cfg ∧ t.hi = s.hi ∧ t.lo = s.lo ∧ t.fcsr = s.fcsr ∧ t.tlb = s.tlb ∧ t.udiState = s.udiState ∧
    t.cp0.status = s.cp0.status ∧ t.cp0.epc = s.cp0.epc ∧ t.cp0.entryHi = s.cp0.entryHi ∧ t.env = s.env ∧
    t.freeCtr = s.freeCtr ∧ t.excCount = s.excCount

/-- What an integer load or store that raises nothing never changes, whichever way its access goes: besides `CoreKept` all
of CP0 but the watch bits of `WatchHi` and `Cause[WP]` (R921, R922), the FP registers, coprocessor 2, the reservation,
the I-cache and the ISPRAM; control goes on, or the instruction waits for a silent probe (R891). -/
structure AccessFrame (s t : State) : Prop where
  core : CoreKept s t
  cp0 : t.cp0 = { s.cp0 with watchHi := t.cp0.watchHi, cause := t.cp0.cause }
  watch : ∀ i : Fin 4, t.cp0.watchHi.get i &&& 0xFFFFFFF8 = s.cp0.watchHi.get i &&& 0xFFFFFFF8
  cause : t.cp0.cause &&& 0xFFBFFFFF = s.cp0.cause &&& 0xFFBFFFFF
  coprocessors : t.fpr = s.fpr ∧ t.cp2State = s.cp2State
  reservation : t.llBit = s.llBit ∧ t.llBlock = s.llBlock
  iside : t.icache = s.icache ∧ t.ispram = s.ispram
  control : Went s t ∨ Waits s t

/-- Every byte of memory outside `stored` reads after an access as it did, or as a gathered store left it that the access
sent out (R244), or as a dirty D-cache line left it that was evicted (R260). -/
def MemoryMoved (s t : State) (stored : Nat → Prop) : Prop :=
  ∀ x : Nat, ¬stored x → Memory.read t.mem x = Memory.read s.mem x ∨
    (∃ g, s.gather = some g ∧ (x, Memory.read t.mem x) ∈ g.cells) ∨
    (∃ slot, (s.dcache.tag slot).v = true ∧ (s.dcache.tag slot).d = true ∧
      let base := lineAddr s.cfg true slot (s.dcache.tag slot)
      base ≤ x ∧ x < base + lineBytes s.cfg true ∧
        Memory.read t.mem x = Memory.read s.dcache.data (slot * lineBytes s.cfg true + (x - base)))

/-- The bytes a store puts at a physical address: those of its access, from the address its translation gives once its
checks have passed (R500). -/
def State.storesTo (s : State) (a : DataAccess) (x : Nat) : Prop :=
  ∃ s1 pa cca s2, s.dataChecks true true a = .ok () s1 ∧ s1.placeOf .store a = .ok (.phys pa cca) s2 ∧
    pa.toNat ≤ x ∧ x < pa.toNat + a.size

/-- What memory holds after D-cache slot `slot` was written back where it was valid and dirty (R260, R521): the bytes of
the line in the RAM of its address, every other byte as it was. -/
def SlotWrittenBack (s t : State) (slot : Nat) : Prop :=
  ∀ a : Nat,
    let base := lineAddr s.cfg true slot (s.dcache.tag slot)
    let line := lineBytes s.cfg true
    Memory.read t.mem a =
      if ((s.dcache.tag slot).v && (s.dcache.tag slot).d) = true ∧ base ≤ a ∧ a < base + line ∧
          regionAt s.cfg.physMap a = some .ram then
        Memory.read s.dcache.data (slot * line + (a - base))
      else Memory.read s.mem a

/-- An FP load completed: register `r` holds `v` in format `fmt` (R46). -/
structure FpLoadResult (s t : State) (fmt : FpFmt) (r : Reg) (v : DWord) : Prop where
  value : t.readFpr fmt r = v
  others : ∀ q : Reg, q ∉ (if fmt.is64 && !s.frUse then [r, pairHigh r] else [r]) → t.fpr.get q.toFin = s.fpr.get q.toFin
  memory : MemoryKept s t
  frame : t = { s with fpr := t.fpr, llTouched := true, pc := t.pc, npc := t.npc, slot := t.slot, hazards := t.hazards }
  moved : Moved s t

/-! ## Floating point results -/

/-- Every FP register is as it was but for those of `rs`. -/
def OtherFprsKept (s t : State) (rs : List Reg) : Prop := ∀ q : Reg, q ∉ rs → t.fpr.get q.toFin = s.fpr.get q.toFin

/-- An FP instruction completed with result `v` of a format in `r`, and control word `f`; under `FR = 0` a 64-bit result
also writes the other register of the pair (R46). -/
structure FprResult (s t : State) (fmt : FpFmt) (r : Reg) (v : DWord) (f : Word) : Prop where
  value : t.readFpr fmt r = if fmt.is64 then v else (v.setWidth 32).setWidth 64
  control : t.fcsr = f
  others : OtherFprsKept s t (if fmt.is64 && !s.frUse then [r, pairHigh r] else [r])
  memory : MemoryKept s t
  frame : t = { s with fpr := t.fpr, fcsr := t.fcsr, pc := t.pc, npc := t.npc, slot := t.slot, hazards := t.hazards }
  moved : Moved s t

/-- Tiny numbers are flushed and no condition is enabled: every arithmetic instruction completes (R627). -/
def State.fpForgiving (s : State) : Bool := s.fs && s.fcsr.extractLsb' 7 5 = 0

/-- An FP arithmetic instruction completed with a result of format `f` in `fd`: the `Cause` field holds the conditions
met, `E` is 0, and they are added to `Flags` (R624). -/
def FpCompletes (i : Instr) (s : State) (f : FpFmt) (fd : Reg) (r : FpOut) : Prop :=
  ∃ w c t, r = .val w c ∧ exec i s = .next t ∧
    FprResult s t f fd w ((s.fcsr &&& 0xFFFC0FFF) ||| (c.bits.setWidth 32 <<< 12) ||| (c.bits.setWidth 32 <<< 2))

/-- An FP arithmetic instruction that answers `r` raises Floating Point where `r` is Unimplemented or has an enabled
condition, with `E` or the conditions in `Cause`; nothing else is written (R624, R626). -/
def FpTrapsOn (i : Instr) (s : State) (r : FpOut) : Prop :=
  let traps := fun (cause : Word) =>
    exec i s = State.raise { s with fcsr := (s.fcsr &&& 0xFFFC0FFF) ||| cause } .fpe
  (r = .unimplemented → traps 0x00020000) ∧
    ∀ w c, r = .val w c → c.bits &&& s.fcsr.extractLsb' 7 5 ≠ 0 → traps (c.bits.setWidth 32 <<< 12)

/-- The floating point unit is there for the next instruction: usable, no hazard pending, the pc may advance. -/
def State.fpReady (s : State) : Bool := s.canAdvance && s.cp1Usable && s.hazards = []

/-- The rational number of a finite value: `(-1)^sign * mant * 2^exp` (R48). -/
def FpVal.rat : FpVal → ℚ
  | .fin sign m x => (if sign then -1 else 1) * (m : ℚ) * (2 : ℚ) ^ x
  | _ => 0

/-- A non-zero exact result stands for the number `q`: it is `q`, or with `more` a lower bound of it within one unit, of
two bits more than precision `p`. -/
def FpExact.Stands (x : FpExact) (p : Nat) (q : ℚ) : Prop :=
  let unit : ℚ := 2 ^ x.exp
  (x.sign = true ↔ q < 0) ∧ 0 < x.mant ∧
    if x.more then (x.mant : ℚ) * unit < |q| ∧ |q| < ((x.mant : ℚ) + 1) * unit ∧ 2 ^ (p + 1) ≤ x.mant
    else (x.mant : ℚ) * unit = |q|

/-- A non-zero exact result stands for the square root of the positive number `q`. -/
def FpExact.StandsForRoot (x : FpExact) (p : Nat) (q : ℚ) : Prop :=
  let unit : ℚ := 2 ^ x.exp
  x.sign = false ∧ 0 < x.mant ∧
    if x.more then ((x.mant : ℚ) * unit) ^ 2 < q ∧ q < (((x.mant : ℚ) + 1) * unit) ^ 2 ∧ 2 ^ (p + 1) ≤ x.mant
    else ((x.mant : ℚ) * unit) ^ 2 = q

/-- The number an arithmetic instruction uses for a finite operand: a tiny one is zero where `FS` or `FO` flushes it
(R627). -/
def FpFmt.operandRat (f : FpFmt) (e : FpEnv) (w : DWord) : ℚ :=
  if f.tiny w && (e.fs || e.fo) then 0 else (f.value w).rat

/-- Integer `v` is what `q` rounds to (R623, R628): to nearest with ties to even, towards zero, up, down. -/
def RoundsToInt (rm : BitVec 2) (q : ℚ) (v : Int) : Prop :=
  (rm = 0 → |q - v| ≤ 1 / 2 ∧ (|q - v| = 1 / 2 → v % 2 = 0)) ∧ (rm = 1 → v = if 0 ≤ q then ⌊q⌋ else ⌈q⌉) ∧
    (rm = 2 → v = ⌈q⌉) ∧ (rm = 3 → v = ⌊q⌋)

/-- The rational `y` lies within `k` units in the last place of the positive number whose square is `q`, for a precision
of `p` bits (R659). -/
def NearRoot (p k : Nat) (y q : ℚ) : Prop :=
  ∃ n : Int, let u : ℚ := 2 ^ n
    (2 ^ (p - 1) * u) ^ 2 ≤ q ∧ q < (2 ^ p * u) ^ 2 ∧ k * u < y ∧ (y - k * u) ^ 2 ≤ q ∧ q ≤ (y + k * u) ^ 2

/-- The rational `y` lies within `k` units in the last place of `q`, for a precision of `p` bits (R658). -/
def NearValue (p k : Nat) (y q : ℚ) : Prop :=
  ∃ n : Int, let u : ℚ := 2 ^ n
    2 ^ (p - 1) * u ≤ |q| ∧ |q| < 2 ^ p * u ∧ |y - q| ≤ k * u

/-! ## Exceptions -/

/-- Register set `n` may be selected by an exception: it exists, or no set is selected (R802, U17). -/
def State.setOk (s : State) (n : BitVec 4) : Bool := s.cfg.numShadowSets ≤ 1 || s.bev || n.toNat < s.cfg.numShadowSets

/-- The restart address: of the branch for an instruction in a delay slot (R801). -/
def State.returnAddress (s : State) : Word := if s.slot = .none then s.pc else s.pc - 4

/-- What every entry leaves: control at `vec`, out of any delay slot, awake, no hazard pending (R970), gathered stores
performed (R244), and of the rest of the state only CP0 and the debug unit possibly changed. -/
structure EntryFrame (s t : State) (vec : Word) : Prop where
  pc : t.pc = vec
  npc : t.npc = vec + 4
  slot : t.slot = .none
  frame : t = { s with
    pc := t.pc, npc := t.npc, slot := t.slot, sleeping := false, llTouched := t.llTouched, hazards := [],
    excCount := s.excCount + 1, mem := t.mem, gather := none, cp0 := t.cp0, dbg := t.dbg }
  memory : GatherWritten s t

/-- General exception entry (R800 to R802, R806, R808) with a code, a vector offset and the `Status` bits set. With `EXL`
set the offset is `0x180` and the return address, `BD` and the register sets stay (R826). -/
structure GeneralEntry (s t : State) (code : BitVec 5) (off bits : Word) : Prop where
  entry : EntryFrame s t
    (let o : Word := if s.exl then 0x180 else off
     if s.bev then 0xBFC00200 + o else (s.cp0.ebase &&& 0xFFFFF000) ||| o)
  debugUnit : t.dbg = s.dbg
  epc : t.cp0.epc = if s.exl then s.cp0.epc else s.returnAddress
  inSlot : t.cp0.cause.getLsbD 31 = if s.exl then s.cp0.cause.getLsbD 31 else decide (s.slot ≠ .none)
  excCode : t.cp0.cause.extractLsb' 2 5 = code
  causeKept : t.cp0.cause &&& 0x4FFF0383 = s.cp0.cause &&& 0x4FFF0383
  status : t.cp0.status = s.cp0.status ||| bits
  sets : if s.exl = false ∧ s.cfg.numShadowSets > 1 ∧ s.bev = false then t.css = s.ess ∧ t.pss = s.css
    else t.cp0.srsCtl = s.cp0.srsCtl
  srsKept : t.cp0.srsCtl &&& 0xFFFFFC30 = s.cp0.srsCtl &&& 0xFFFFFC30
  cp0 : t.cp0 = { s.cp0 with
    epc := t.cp0.epc, cause := t.cp0.cause, srsCtl := t.cp0.srsCtl, status := t.cp0.status,
    badVAddr := t.cp0.badVAddr, context := t.cp0.context, entryHi := t.cp0.entryHi }

/-- The address registers are as they were. -/
def AddressesKept (s t : State) : Prop :=
  t.cp0.badVAddr = s.cp0.badVAddr ∧ t.cp0.context = s.cp0.context ∧ t.cp0.entryHi = s.cp0.entryHi

/-- The address registers after an address error: only `BadVAddr` (R788). -/
def AddressErrorRecorded (s t : State) (va : Word) : Prop :=
  t.cp0.badVAddr = va ∧ t.cp0.context = s.cp0.context ∧ t.cp0.entryHi = s.cp0.entryHi

/-- The address registers after a TLB exception: `BadVAddr`, `Context[BadVPN2]`, `EntryHi[VPN2]` (R213). -/
def TlbMissRecorded (s t : State) (va : Word) : Prop :=
  t.cp0.badVAddr = va ∧
  t.cp0.context.extractLsb' 4 19 = va.extractLsb' 13 19 ∧ t.cp0.context &&& 0xFF80000F = s.cp0.context &&& 0xFF80000F ∧
  t.cp0.entryHi.extractLsb' 13 19 = va.extractLsb' 13 19 ∧ t.cp0.entryHi &&& 0x00001FFF = s.cp0.entryHi &&& 0x00001FFF

/-- The debug entry point (R882). -/
def State.debugEntryPoint (s : State) : Word := if s.probTrap then 0xFF200200 else 0xBFC00480

/-- Debug exception entry from non-debug mode with one cause (R882). -/
structure DebugEntry (s t : State) (cause : Word) : Prop where
  entry : EntryFrame s t s.debugEntryPoint
  depc : t.cp0.depc = s.returnAddress
  inSlot : (t.cp0.debug).getLsbD 31 = decide (s.slot ≠ .none)
  mode : (t.cp0.debug).getLsbD 30 = true ∧ (t.cp0.debug).getLsbD 20 = true
  causes : t.cp0.debug &&& 0x000C003F = cause
  power : (t.cp0.debug).getLsbD 26 = s.sleeping ∧ (t.cp0.debug).getLsbD 27 = (s.sleeping || s.inputs.reducedPower)
  debugKept : t.cp0.debug &&& 0x33E383C0 = s.cp0.debug &&& 0x33E383C0
  cp0 : t.cp0 = { s.cp0 with depc := t.cp0.depc, debug := t.cp0.debug }
  breakRequest : t.dbg = { s.dbg with
    ejtagControl := if cause = 0x00000020 then s.dbg.ejtagControl &&& 0xFFFFEFFF else s.dbg.ejtagControl }

/-- A nested debug exception (R885): `DEPC`, `DBD` and `DExcCode` only, the cause bits cleared. -/
structure NestedEntry (s t : State) (code : BitVec 5) : Prop where
  entry : EntryFrame s t s.debugEntryPoint
  depc : t.cp0.depc = s.returnAddress
  inSlot : (t.cp0.debug).getLsbD 31 = decide (s.slot ≠ .none)
  excCode : (t.cp0.debug).extractLsb' 10 5 = code
  causes : t.cp0.debug &&& 0x000C003F = 0
  debugKept : t.cp0.debug &&& 0x7FF383C0 = s.cp0.debug &&& 0x7FF383C0
  cp0 : t.cp0 = { s.cp0 with depc := t.cp0.depc, debug := t.cp0.debug }
  debugUnit : t.dbg = s.dbg

/-! ## The fields of CP0 -/

/-- `ceil(log2 N)` low bits, for a TLB of `N` entries, at most 64 (R83). -/
def tlbIndexBits (n : Nat) : Word := BitVec.ofNat 32 (2 ^ Nat.clog 2 (min n 64) - 1)

/-- The bits of each CP0 register that `mtc0` writes, from the field tables (R83 to R149): register, select, bits. -/
def cp0Fields (cfg : Cfg) : List (Reg × BitVec 3 × Word) :=
  [(0, 0, tlbIndexBits cfg.tlbEntries), (1, 0, 0), (2, 0, 0x03FFFFFF), (3, 0, 0x03FFFFFF), (4, 0, 0xFF800000),
    (5, 0, 0x1FFFE000), (6, 0, tlbIndexBits cfg.tlbEntries), (7, 0, 0x0000000F), (8, 0, 0), (9, 0, 0xFFFFFFFF),
    (10, 0, 0xFFFFE0FF), (11, 0, 0xFFFFFFFF), (12, 0, if cfg.hasFPU then 0x7E42FF1F else 0x7A42FF1F),
    (12, 1, 0x000003E0), (12, 2, 0x0000F3C0), (12, 3, 0xFFFFFFFF), (13, 0, 0x08800300), (14, 0, 0xFFFFFFFF),
    (15, 0, 0), (15, 1, 0x3FFFF000)] ++
  [(16, 0, if cfg.mmu = .fmt then 0x7E040007 else 0x00040007), (16, 1, 0), (16, 2, 0), (16, 3, 0), (16, 7, 0x0000011F),
    (18, 0, 0xFFFFFFFC), (18, 1, 0xFFFFFFFC), (18, 2, 0xFFFFFFFB), (18, 3, 0xFFFFFFFB), (19, 0, 0x40FF0FF8),
    (19, 1, 0x40FF0FF8), (19, 2, 0x40FF0FF8), (19, 3, 0x40FF0FF8), (23, 0, 0x12100100), (23, 1, 0xDFFFFFFF),
    (23, 2, 0x00000F80), (23, 3, 0xFFFFFFFF), (23, 4, 0x10000FFF), (23, 5, 0x1000003F), (24, 0, 0xFFFFFFFF)] ++
  [(25, 0, 0x000007FF), (25, 1, 0xFFFFFFFF), (25, 2, 0x000007FF), (25, 3, 0xFFFFFFFF),
    (26, 0, if cfg.cacheParity then 0xF807FFFF else 0x7807FFFF), (27, 0, 0), (28, 0, 0xFFFFFCE1), (28, 1, 0xFFFFFFFF),
    (28, 2, 0xFFFFFCE1), (28, 3, 0xFFFFFFFF), (28, 4, 0xFFFFFFFF), (28, 5, 0xFFFFFFFF), (29, 0, 0xFFFFFFFF),
    (30, 0, 0xFFFFFFFF), (31, 0, 0xFFFFFFFF)]

/-- The bits of a CP0 register that a write can only clear, by a 0: `Status[TS]`, `Status[NMI]` (R97), `Cause[WP]`
(R107). -/
def cp0ClearedByZero (rd : Reg) (sel : BitVec 3) : Word :=
  if sel ≠ 0 then 0 else if rd = 12 then 0x00280000 else if rd = 13 then 0x00400000 else 0

/-- The bits that a write can only clear, by a 1: `WatchHi[I, R, W]` (R127). -/
def cp0ClearedByOne (rd : Reg) : Word := if rd = 19 then 0x00000007 else 0

/-- What each consumer of R974's table may still see old after an `mtc0` (for counting under `Status` R927): the registers
by number and select, with the bits of their rows. `mfc0` may see any register old. -/
def mtc0Rows : Consumer → List ((Reg × BitVec 3) × Word)
  | .readReg => []
  | .copUse => [((12, 0), 0xF4020000)]
  | .eret => [((12, 0), 0x00000006), ((14, 0), 0xFFFFFFFF), ((24, 0), 0xFFFFFFFF), ((30, 0), 0xFFFFFFFF)]
  | .interrupt => [((12, 0), 0x0000FF07), ((13, 0), 0x00000300)]
  | .data => [((10, 0), 0x000000FF), ((12, 0), 0x0200001E), ((16, 0), 0x7E000007), ((18, 0), 0xFFFFFFFF),
      ((18, 1), 0xFFFFFFFF), ((18, 2), 0xFFFFFFFF), ((18, 3), 0xFFFFFFFF), ((19, 0), 0xFFFFFFF8), ((19, 1), 0xFFFFFFF8),
      ((19, 2), 0xFFFFFFF8), ((19, 3), 0xFFFFFFF8), ((23, 0), 0x10000000)]
  | .fetch => [((10, 0), 0x000000FF), ((12, 0), 0x0000001E), ((16, 0), 0x7E000007), ((18, 0), 0xFFFFFFFF),
      ((18, 1), 0xFFFFFFFF), ((18, 2), 0xFFFFFFFF), ((18, 3), 0xFFFFFFFF), ((19, 0), 0xFFFFFFF8), ((19, 1), 0xFFFFFFF8),
      ((19, 2), 0xFFFFFFF8), ((19, 3), 0xFFFFFFF8), ((23, 0), 0x00000100)]
  | .vector => [((12, 1), 0x000003E0), ((12, 2), 0x0000F000), ((12, 3), 0xFFFFFFFF), ((13, 0), 0x00800000),
      ((15, 1), 0xFFFFFFFF)]
  | .shadow => [((12, 2), 0x000003C0)]
  | .tlbOp => [((0, 0), 0xFFFFFFFF), ((2, 0), 0xFFFFFFFF), ((3, 0), 0xFFFFFFFF), ((5, 0), 0xFFFFFFFF),
      ((6, 0), 0xFFFFFFFF), ((10, 0), 0xFFFFFFFF)]
  | .cacheOp => [((26, 0), 0xFFFFFFFF), ((28, 0), 0xFFFFFFFF), ((28, 1), 0xFFFFFFFF), ((28, 2), 0xFFFFFFFF),
      ((28, 3), 0xFFFFFFFF), ((29, 0), 0xFFFFFFFF)]
  | .rdhwr => [((7, 0), 0xFFFFFFFF)]
  | .count => [((9, 0), 0xFFFFFFFF), ((11, 0), 0xFFFFFFFF), ((13, 0), 0x08000000)]
  | .perf => [((12, 0), 0x0000001E), ((25, 0), 0xFFFFFFFF), ((25, 2), 0xFFFFFFFF)]
  | .trace => [((23, 1), 0xFFFFFFFF), ((23, 2), 0xFFFFFFFF), ((23, 3), 0xFFFFFFFF), ((23, 4), 0xFFFFFFFF),
      ((23, 5), 0xFFFFFFFF)]

/-- The bits of a CP0 register that a consumer may see old after an `mtc0` to it (R974); none where no row pairs them. -/
def mtc0Seen (c : Consumer) (rd : Reg) (sel : BitVec 3) : Word :=
  if c = .readReg then 0xFFFFFFFF else ((mtc0Rows c).lookup (rd, sel)).getD 0

/-- What each consumer sees of the CP0 registers after an `mtc0` from `s` to `t` that wrote the bits `wrote` of register
`r`, and of nothing else otherwise than it is (R970, R974): the bits that the table pairs with it all new or all old, and
after a write of `Compare`, apart from them, the timer interrupt `Cause[TI]` old for `mfc0` and an interrupt. -/
def Mtc0Hazard (s t : State) (r : CpReg) (rd : Reg) (sel : BitVec 3) (wrote : Word) : Prop :=
  ∀ c : Consumer,
    let ti : Word := if r = .compare ∧ (c = .readReg ∨ c = .interrupt) then 0x40000000 else 0
    ∃ w ∈ [0, wrote &&& mtc0Seen c rd sel], ∃ v ∈ [0, ti],
      (t.view c).cp0.get r = (t.cp0.get r &&& ~~~w) ||| (s.cp0.get r &&& w) ∧
      (r ≠ .cause → (t.view c).cp0.cause = (t.cp0.cause &&& ~~~v) ||| (s.cp0.cause &&& v)) ∧
      (∀ q, q ≠ r → q ≠ .cause → (t.view c).cp0.get q = t.cp0.get q) ∧
      t.view c = { t with cp0 := (t.view c).cp0 }

/-! ## The TLB -/

/-- An entry maps a virtual page pair in an address space (R212), bit by bit. -/
def TlbEntry.maps (e : TlbEntry) (vpn2 : BitVec 19) (asid : Byte) : Prop :=
  (∀ j, j < 19 → e.mask.getLsbD j = false → vpn2.getLsbD j = e.vpn2.getLsbD j) ∧ (e.g = true ∨ e.asid = asid)

/-- No entry of the TLB maps the page pair. -/
def State.noMatch (s : State) (vpn2 : BitVec 19) : Prop :=
  ∀ j : Fin 64, j.val < s.cfg.tlbEntries → ¬(s.tlb.get j).maps vpn2 s.asid

/-- Entry `i` is the one entry of the TLB that maps the page pair. -/
def State.onlyMatch (s : State) (i : Fin 64) (vpn2 : BitVec 19) : Prop :=
  i.val < s.cfg.tlbEntries ∧ (s.tlb.get i).maps vpn2 s.asid ∧
    ∀ j : Fin 64, j.val < s.cfg.tlbEntries → j ≠ i → ¬(s.tlb.get j).maps vpn2 s.asid

/-- Two entries overlap (R215). -/
def TlbEntry.clashes (a b : TlbEntry) : Prop :=
  (∀ j, j < 19 → a.mask.getLsbD j = false → b.mask.getLsbD j = false → a.vpn2.getLsbD j = b.vpn2.getLsbD j) ∧
    (a.g = true ∨ b.g = true ∨ a.asid = b.asid)

/-- Writing `e` at `i` would create a duplicate of valid entries (R215). -/
def State.duplicates (s : State) (e : TlbEntry) (i : Fin 64) : Prop :=
  (e.page0.v = true ∨ e.page1.v = true) ∧
    ∃ j : Fin 64, j.val < s.cfg.tlbEntries ∧ j ≠ i ∧
      ((s.tlb.get j).page0.v = true ∨ (s.tlb.get j).page1.v = true) ∧ (s.tlb.get j).clashes e

/-- The nine page masks of R87: `4^k - 1`. -/
def TlbEntry.maskLegal (e : TlbEntry) : Prop := ∃ k, k ≤ 8 ∧ e.mask = BitVec.ofNat 16 (4 ^ k - 1)

/-- The entry the staging registers hold (R586). -/
def Cp0.staged (c : Cp0) : TlbEntry where
  vpn2 := c.entryHi.extractLsb' 13 19
  asid := c.entryHi.extractLsb' 0 8
  g := c.entryLo0.getLsbD 0 && c.entryLo1.getLsbD 0
  mask := c.pageMask.extractLsb' 13 16
  page0 := ⟨c.entryLo0.extractLsb' 6 20, c.entryLo0.extractLsb' 3 3, c.entryLo0.getLsbD 2, c.entryLo0.getLsbD 1⟩
  page1 := ⟨c.entryLo1.extractLsb' 6 20, c.entryLo1.extractLsb' 3 3, c.entryLo1.getLsbD 2, c.entryLo1.getLsbD 1⟩

/-! ## Accesses through a translation -/

/-- The loads at `x[base] + offset` or `x[base] + x[index]` that a core may execute, each with its address and the
alignment it asks for (R234): those of a coprocessor where it is usable, the 64-bit ones of an FP register where the
register may be named (R46), `luxc1` where the registers have 64 bits (D26). -/
def State.loads (s : State) (base index rt : Reg) (off : BitVec 16) : List (Instr × Word × Nat) :=
  let va := s.readGpr base + off.signExtend 32
  let vx := s.readGpr base + s.readGpr index
  [(Instr.lb base rt off, va, 1), (Instr.lbu base rt off, va, 1), (Instr.lh base rt off, va, 2), (Instr.lhu base rt off, va, 2),
    (Instr.lw base rt off, va, 4), (Instr.lwl base rt off, va, 1), (Instr.lwr base rt off, va, 1), (Instr.ll base rt off, va, 4)] ++
  (if s.cp1Usable then [(Instr.lwc1 base rt off, va, 4), (Instr.lwxc1 base index rt, vx, 4)] else []) ++
  (if s.cp1Usable && (s.frUse || !rt.getLsbD 0) then [(Instr.ldc1 base rt off, va, 8), (Instr.ldxc1 base index rt, vx, 8)] else []) ++
  (if s.cp1Usable && s.frUse then [(Instr.luxc1 base index rt, vx &&& 0xFFFFFFF8, 8)] else []) ++
  (if s.cp2Usable then [(Instr.lwc2 base rt off, va, 4), (Instr.ldc2 base rt off, va, 8)] else [])

/-- The stores, in the same way. -/
def State.stores (s : State) (base index rt : Reg) (off : BitVec 16) : List (Instr × Word × Nat) :=
  let va := s.readGpr base + off.signExtend 32
  let vx := s.readGpr base + s.readGpr index
  [(Instr.sb base rt off, va, 1), (Instr.sh base rt off, va, 2), (Instr.sw base rt off, va, 4), (Instr.swl base rt off, va, 1),
    (Instr.swr base rt off, va, 1), (Instr.sc base rt off, va, 4)] ++
  (if s.cp1Usable then [(Instr.swc1 base rt off, va, 4), (Instr.swxc1 base index rt, vx, 4)] else []) ++
  (if s.cp1Usable && (s.frUse || !rt.getLsbD 0) then [(Instr.sdc1 base rt off, va, 8), (Instr.sdxc1 base index rt, vx, 8)] else []) ++
  (if s.cp1Usable && s.frUse then [(Instr.suxc1 base index rt, vx &&& 0xFFFFFFF8, 8)] else []) ++
  (if s.cp2Usable then [(Instr.swc2 base rt off, va, 4), (Instr.sdc2 base rt off, va, 8)] else [])

/-- An address of the ordinary segments: dseg is there in debug mode only (R203, D38). -/
def State.outsideDseg (s : State) (va : Word) : Bool := !s.dm || !inDseg va

/-- An aligned data access of `n` bytes at `va` whose translation gives physical address `pa` with a code, which no break,
watch or debug segment turns away. -/
structure MappedAccess (s : State) (k : AccKind) (va pa : Word) (cca : BitVec 3) (n : Nat) : Prop where
  hazards : s.hazards = []
  traps : s.noDataTraps k.isStore = true
  segment : s.outsideDseg va = true
  aligned : va.toNat % n = 0
  translation : s.translate k va = .ok (pa, cca) s
  ram : s.plainRam pa n = true
  gather : s.gather = none

/-- The four bytes of an instruction at a physical address are RAM or ROM and in no scratchpad. -/
def State.plainCode (s : State) (pa : Word) : Bool :=
  (List.range 4).all (fun j =>
    (regionAt s.cfg.physMap (pa.toNat + j) = some .ram || regionAt s.cfg.physMap (pa.toNat + j) = some .rom)
      && s.ispram.offset s.cfg.hasISPRAM (pa + BitVec.ofNat 32 j) = none
      && s.dspram.offset s.cfg.hasDSPRAM (pa + BitVec.ofNat 32 j) = none)

/-! ## Fetching -/

/-- No instruction breakpoint and no instruction watchpoint is enabled. -/
def State.noFetchTraps (s : State) : Bool :=
  !(s.dbg.ib.get 0).ctl.getLsbD 0 && !(s.dbg.ib.get 1).ctl.getLsbD 0 && !(s.dbg.ib.get 2).ctl.getLsbD 0 &&
    !(s.dbg.ib.get 3).ctl.getLsbD 0 && !(s.cp0.watchLo.get 0).getLsbD 2 && !(s.cp0.watchLo.get 1).getLsbD 2

/-- A fetch by kernel code from RAM or ROM through the uncached window kseg1, which nothing turns away. -/
def State.plainFetch (s : State) : Bool :=
  s.hazards = [] && s.mode? = some .kernel && inKseg1 s.pc && s.pc.extractLsb' 0 2 = 0 && s.noFetchTraps &&
    !s.inputs.failFetch && s.plainCode (unmapped s.pc)

/-- The word of memory at a physical address in the order instructions are stored (R230). -/
def State.codeWord (s : State) (pa : Word) : Word :=
  BitVec.ofNat 32 (bytesToNat s.cfg.bigEndian (Memory.readBytes s.mem pa.toNat 4))

end Sys2Proof.Machine
end

