-- ==== Sys2Proof/Certificates/Slice0/Obligations.lean ====
section
/-! DEFINITION. The statements about the machine, for the provers. Each says in its docstring which rule or section of
spec/ it formalises. -/

open Sys2Proof Sys2Proof.Machine

/-! ## Integer arithmetic (40_alu.md) -/

/-- R343, R344, R346 to R354: the additions and subtractions that do not trap, and the logical instructions. -/
def Obligations.AluResults : Prop :=
  ∀ (rs rt rd : Reg) (imm : BitVec 16),
    Computes (.addiu rs rt imm) (0b001001#6 ++ rs ++ rt ++ imm) rt (fun s => s.readGpr rs + imm.signExtend 32) ∧
    Computes (.addu rs rt rd) (0b000000#6 ++ rs ++ rt ++ rd ++ 0b00000#5 ++ 0b100001#6) rd
      (fun s => s.readGpr rs + s.readGpr rt) ∧
    Computes (.subu rs rt rd) (0b000000#6 ++ rs ++ rt ++ rd ++ 0b00000#5 ++ 0b100011#6) rd
      (fun s => s.readGpr rs - s.readGpr rt) ∧
    Computes (.and rs rt rd) (0b000000#6 ++ rs ++ rt ++ rd ++ 0b00000#5 ++ 0b100100#6) rd
      (fun s => s.readGpr rs &&& s.readGpr rt) ∧
    Computes (.andi rs rt imm) (0b001100#6 ++ rs ++ rt ++ imm) rt (fun s => s.readGpr rs &&& imm.setWidth 32) ∧
    Computes (.or rs rt rd) (0b000000#6 ++ rs ++ rt ++ rd ++ 0b00000#5 ++ 0b100101#6) rd
      (fun s => s.readGpr rs ||| s.readGpr rt) ∧
    Computes (.ori rs rt imm) (0b001101#6 ++ rs ++ rt ++ imm) rt (fun s => s.readGpr rs ||| imm.setWidth 32) ∧
    Computes (.xor rs rt rd) (0b000000#6 ++ rs ++ rt ++ rd ++ 0b00000#5 ++ 0b100110#6) rd
      (fun s => s.readGpr rs ^^^ s.readGpr rt) ∧
    Computes (.xori rs rt imm) (0b001110#6 ++ rs ++ rt ++ imm) rt (fun s => s.readGpr rs ^^^ imm.setWidth 32) ∧
    Computes (.nor rs rt rd) (0b000000#6 ++ rs ++ rt ++ rd ++ 0b00000#5 ++ 0b100111#6) rd
      (fun s => ~~~(s.readGpr rs ||| s.readGpr rt)) ∧
    Computes (.lui rt imm) (0b001111#6 ++ 0b00000#5 ++ rt ++ imm) rt (fun _ => imm ++ 0#16)

/-- R341, R342, R345: where the exact sum or difference fits in 32 signed bits it is the result; where it does not,
Integer Overflow is raised with nothing written. -/
def Obligations.TrappingArithmeticResults : Prop :=
  ∀ (rs rt rd : Reg) (imm : BitVec 16) (s : State),
    let traps := fun (i : Instr) (r : Reg) (exact : Int) (v : Word) =>
      (fitsSigned exact → s.canAdvance → ∃ t, exec i s = .next t ∧ GprResult s t r v) ∧
      (¬fitsSigned exact → exec i s = s.raise .ov)
    let x := s.readGpr rs
    let y := s.readGpr rt
    traps (.add rs rt rd) rd (x.toInt + y.toInt) (x + y) ∧
    traps (.addi rs rt imm) rt (x.toInt + imm.toInt) (x + imm.signExtend 32) ∧
    traps (.sub rs rt rd) rd (x.toInt - y.toInt) (x - y)

/-- R355 to R366: set on less than, shifts, rotates. -/
def Obligations.CompareShiftResults : Prop :=
  ∀ (rs rt rd sa : Reg) (imm : BitVec 16),
    Computes (.slt rs rt rd) (0b000000#6 ++ rs ++ rt ++ rd ++ 0b00000#5 ++ 0b101010#6) rd
      (fun s => if (s.readGpr rs).toInt < (s.readGpr rt).toInt then 1 else 0) ∧
    Computes (.slti rs rt imm) (0b001010#6 ++ rs ++ rt ++ imm) rt
      (fun s => if (s.readGpr rs).toInt < imm.toInt then 1 else 0) ∧
    Computes (.sltu rs rt rd) (0b000000#6 ++ rs ++ rt ++ rd ++ 0b00000#5 ++ 0b101011#6) rd
      (fun s => if (s.readGpr rs).toNat < (s.readGpr rt).toNat then 1 else 0) ∧
    Computes (.sltiu rs rt imm) (0b001011#6 ++ rs ++ rt ++ imm) rt
      (fun s => if (s.readGpr rs).toNat < (imm.signExtend 32).toNat then 1 else 0) ∧
    Computes (.sll rt rd sa) (0b000000#6 ++ 0b00000#5 ++ rt ++ rd ++ sa ++ 0b000000#6) rd
      (fun s => s.readGpr rt <<< sa) ∧
    Computes (.srl rt rd sa) (0b000000#6 ++ 0b00000#5 ++ rt ++ rd ++ sa ++ 0b000010#6) rd
      (fun s => s.readGpr rt >>> sa) ∧
    Computes (.sra rt rd sa) (0b000000#6 ++ 0b00000#5 ++ rt ++ rd ++ sa ++ 0b000011#6) rd
      (fun s => (s.readGpr rt).sshiftRight sa.toNat) ∧
    Computes (.sllv rs rt rd) (0b000000#6 ++ rs ++ rt ++ rd ++ 0b00000#5 ++ 0b000100#6) rd
      (fun s => s.readGpr rt <<< (s.readGpr rs).extractLsb' 0 5) ∧
    Computes (.srlv rs rt rd) (0b000000#6 ++ rs ++ rt ++ rd ++ 0b00000#5 ++ 0b000110#6) rd
      (fun s => s.readGpr rt >>> (s.readGpr rs).extractLsb' 0 5) ∧
    Computes (.srav rs rt rd) (0b000000#6 ++ rs ++ rt ++ rd ++ 0b00000#5 ++ 0b000111#6) rd
      (fun s => (s.readGpr rt).sshiftRight ((s.readGpr rs).extractLsb' 0 5).toNat) ∧
    Computes (.rotr rt rd sa) (0b000000#6 ++ 0b00001#5 ++ rt ++ rd ++ sa ++ 0b000010#6) rd
      (fun s => s.readGpr rt >>> sa.toNat ||| s.readGpr rt <<< (32 - sa.toNat)) ∧
    Computes (.rotrv rs rt rd) (0b000000#6 ++ rs ++ rt ++ rd ++ 0b00001#5 ++ 0b000110#6) rd
      (fun s => let n := ((s.readGpr rs).extractLsb' 0 5).toNat
        s.readGpr rt >>> n ||| s.readGpr rt <<< (32 - n))

/-- R367 to R370: the conditional moves; where nothing is moved the destination keeps its value. -/
def Obligations.ConditionalMoves : Prop :=
  ∀ (rs rt rd : Reg) (cc : BitVec 3) (s : State), s.canAdvance →
    (∃ t, exec (.movz rs rt rd) s = .next t ∧
      (if s.readGpr rt = 0 then GprResult s t rd (s.readGpr rs) else NoResult s t)) ∧
    (∃ t, exec (.movn rs rt rd) s = .next t ∧
      (if s.readGpr rt ≠ 0 then GprResult s t rd (s.readGpr rs) else NoResult s t)) ∧
    (s.cp1Usable →
      (∃ t, exec (.movf rs cc rd) s = .next t ∧
        (if s.fcc cc = false then GprResult s t rd (s.readGpr rs) else NoResult s t)) ∧
      (∃ t, exec (.movt rs cc rd) s = .next t ∧
        (if s.fcc cc = true then GprResult s t rd (s.readGpr rs) else NoResult s t)))

/-- R371 to R377: count leading bits (the result `n` is the one number such that the `n` top bits are alike and the next
is not), bit fields, sign extension, byte swap. -/
def Obligations.BitFieldResults : Prop :=
  (∀ (rs rd : Reg) (s : State), s.canAdvance →
    (∃ t n, exec (.clz rs rd rd) s = .next t ∧ GprResult s t rd (BitVec.ofNat 32 n) ∧ n ≤ 32 ∧
      (∀ j, j < n → (s.readGpr rs).getLsbD (31 - j) = false) ∧ (n < 32 → (s.readGpr rs).getLsbD (31 - n) = true)) ∧
    (∃ t n, exec (.clo rs rd rd) s = .next t ∧ GprResult s t rd (BitVec.ofNat 32 n) ∧ n ≤ 32 ∧
      (∀ j, j < n → (s.readGpr rs).getLsbD (31 - j) = true) ∧ (n < 32 → (s.readGpr rs).getLsbD (31 - n) = false))) ∧
  (∀ (rs rt msb lsb : Reg) (s : State), s.canAdvance →
    (lsb.toNat + msb.toNat ≤ 31 →
      ∃ t v, exec (.ext rs rt msb lsb) s = .next t ∧ GprResult s t rt v ∧
        ∀ j, v.getLsbD j = (decide (j ≤ msb.toNat) && (s.readGpr rs).getLsbD (lsb.toNat + j))) ∧
    (lsb.toNat ≤ msb.toNat →
      ∃ t v, exec (.ins rs rt msb lsb) s = .next t ∧ GprResult s t rt v ∧
        ∀ j, j < 32 → v.getLsbD j =
          if lsb.toNat ≤ j ∧ j ≤ msb.toNat then (s.readGpr rs).getLsbD (j - lsb.toNat)
          else (s.readGpr rt).getLsbD j)) ∧
  (∀ rt rd : Reg,
    Computes (.seb rt rd) (0b011111#6 ++ 0b00000#5 ++ rt ++ rd ++ 0b10000#5 ++ 0b100000#6) rd
      (fun s => ((s.readGpr rt).extractLsb' 0 8).signExtend 32) ∧
    Computes (.seh rt rd) (0b011111#6 ++ 0b00000#5 ++ rt ++ rd ++ 0b11000#5 ++ 0b100000#6) rd
      (fun s => ((s.readGpr rt).extractLsb' 0 16).signExtend 32) ∧
    Computes (.wsbh rt rd) (0b011111#6 ++ 0b00000#5 ++ rt ++ rd ++ 0b00010#5 ++ 0b100000#6) rd
      (fun s => let w := s.readGpr rt
        w.extractLsb' 16 8 ++ w.extractLsb' 24 8 ++ w.extractLsb' 0 8 ++ w.extractLsb' 8 8))

/-- Where the architecture calls the operands UNPREDICTABLE the model refuses, whatever the state (93, U3, U4, U39;
the refusal is the spec's decision, log 15). -/
def Obligations.UnpredictableOperandsRefused : Prop :=
  ∀ (i : Instr) (s : State), i.unpredictable → exec i s = .refused .unpredictableOperands

/-! ## Multiply and divide (41_muldiv.md) -/

/-- R421, R422, R425 to R428: the products and multiply-accumulates, in `HI :: LO` modulo 2^64. -/
def Obligations.MultiplyResults : Prop :=
  ∀ rs rt : Reg,
    Accumulates (.mult rs rt) (0b000000#6 ++ rs ++ rt ++ 0b00000#5 ++ 0b00000#5 ++ 0b011000#6)
      (fun s => BitVec.ofInt 64 ((s.readGpr rs).toInt * (s.readGpr rt).toInt)) ∧
    Accumulates (.multu rs rt) (0b000000#6 ++ rs ++ rt ++ 0b00000#5 ++ 0b00000#5 ++ 0b011001#6)
      (fun s => BitVec.ofNat 64 ((s.readGpr rs).toNat * (s.readGpr rt).toNat)) ∧
    Accumulates (.madd rs rt) (0b011100#6 ++ rs ++ rt ++ 0b00000#5 ++ 0b00000#5 ++ 0b000000#6)
      (fun s => (s.hi ++ s.lo) + BitVec.ofInt 64 ((s.readGpr rs).toInt * (s.readGpr rt).toInt)) ∧
    Accumulates (.maddu rs rt) (0b011100#6 ++ rs ++ rt ++ 0b00000#5 ++ 0b00000#5 ++ 0b000001#6)
      (fun s => (s.hi ++ s.lo) + BitVec.ofNat 64 ((s.readGpr rs).toNat * (s.readGpr rt).toNat)) ∧
    Accumulates (.msub rs rt) (0b011100#6 ++ rs ++ rt ++ 0b00000#5 ++ 0b00000#5 ++ 0b000100#6)
      (fun s => (s.hi ++ s.lo) - BitVec.ofInt 64 ((s.readGpr rs).toInt * (s.readGpr rt).toInt)) ∧
    Accumulates (.msubu rs rt) (0b011100#6 ++ rs ++ rt ++ 0b00000#5 ++ 0b00000#5 ++ 0b000101#6)
      (fun s => (s.hi ++ s.lo) - BitVec.ofNat 64 ((s.readGpr rs).toNat * (s.readGpr rt).toNat))

/-- R423, R424, R434: division. The quotient and remainder are the exact ones of the divisor's sign convention; a zero
divisor raises nothing and only `HI` and `LO` change, to values nothing is said of (R435). -/
def Obligations.DivideResults : Prop :=
  ∀ (rs rt : Reg) (s : State), s.canAdvance →
    (s.readGpr rt ≠ 0 →
      (∃ t, exec (.div rs rt) s = .next t ∧
        HiLoResult s t
          (BitVec.ofInt 32 ((s.readGpr rs).toInt - ((s.readGpr rs).toInt.tdiv (s.readGpr rt).toInt) * (s.readGpr rt).toInt))
          (BitVec.ofInt 32 ((s.readGpr rs).toInt.tdiv (s.readGpr rt).toInt))) ∧
      (∃ t, exec (.divu rs rt) s = .next t ∧
        HiLoResult s t (BitVec.ofNat 32 ((s.readGpr rs).toNat % (s.readGpr rt).toNat))
          (BitVec.ofNat 32 ((s.readGpr rs).toNat / (s.readGpr rt).toNat)))) ∧
    (s.readGpr rt = 0 →
      (∃ t hi lo, exec (.div rs rt) s = .next t ∧ HiLoResult s t hi lo) ∧
      (∃ t hi lo, exec (.divu rs rt) s = .next t ∧ HiLoResult s t hi lo))

/-- R429 to R433: `mul` writes the low half of the product (and `HI`, `LO`, of whose values nothing is said, R435), and
the moves to and from `HI` and `LO`. -/
def Obligations.MulAndHiLoMoves : Prop :=
  (∀ (rs rt rd : Reg) (s : State), s.canAdvance →
    ∃ t hi lo, exec (.mul rs rt rd) s = .next t ∧
      GprResult { s with hi := hi, lo := lo } t rd (BitVec.ofNat 32 ((s.readGpr rs).toNat * (s.readGpr rt).toNat))) ∧
  (∀ rd : Reg,
    Computes (.mfhi rd) (0b000000#6 ++ 0b00000#5 ++ 0b00000#5 ++ rd ++ 0b00000#5 ++ 0b010000#6) rd (fun s => s.hi) ∧
    Computes (.mflo rd) (0b000000#6 ++ 0b00000#5 ++ 0b00000#5 ++ rd ++ 0b00000#5 ++ 0b010010#6) rd (fun s => s.lo)) ∧
  (∀ rs : Reg,
    Accumulates (.mthi rs) (0b000000#6 ++ rs ++ 0b00000#5 ++ 0b00000#5 ++ 0b00000#5 ++ 0b010001#6)
      (fun s => s.readGpr rs ++ s.lo) ∧
    Accumulates (.mtlo rs) (0b000000#6 ++ rs ++ 0b00000#5 ++ 0b00000#5 ++ 0b00000#5 ++ 0b010011#6)
      (fun s => s.hi ++ s.readGpr rs))

/-! ## Branches and jumps (42_branch_jump.md) -/

/-- R456 to R463: the conditional branches, to `(pc + 4) + sext(offset :: 00)` where the condition holds; the delay slot
runs in any case. The linking ones write `pc + 8` to register 31 whether they are taken or not, and test the value
their source had. -/
def Obligations.ConditionalBranches : Prop :=
  ∀ (rs rt : Reg) (off : BitVec 16) (s : State), s.canBranch →
    let target := s.pc + 4 + (off ++ 0#2).signExtend 32
    let x := (s.readGpr rs).toInt
    (∃ t, exec (.beq rs rt off) s = .next t ∧ Branched s t (s.readGpr rs = s.readGpr rt) target false) ∧
    (∃ t, exec (.bne rs rt off) s = .next t ∧ Branched s t (s.readGpr rs ≠ s.readGpr rt) target false) ∧
    (∃ t, exec (.blez rs off) s = .next t ∧ Branched s t (x ≤ 0) target false) ∧
    (∃ t, exec (.bgtz rs off) s = .next t ∧ Branched s t (0 < x) target false) ∧
    (∃ t, exec (.bltz rs off) s = .next t ∧ Branched s t (x < 0) target false) ∧
    (∃ t, exec (.bgez rs off) s = .next t ∧ Branched s t (0 ≤ x) target false) ∧
    (rs ≠ 31 →
      (∃ u t, exec (.bltzal rs off) s = .next t ∧ LinkWritten s u 31 ∧ Branched u t (x < 0) target false) ∧
      (∃ u t, exec (.bgezal rs off) s = .next t ∧ LinkWritten s u 31 ∧ Branched u t (0 ≤ x) target false))

/-- R453, R464 to R469, R471, R472: a branch likely that is not taken skips its delay slot; taken, it is as an ordinary
branch. -/
def Obligations.BranchLikely : Prop :=
  ∀ (rs rt : Reg) (off : BitVec 16) (s : State), s.canBranch → s.pc ≠ 0xFFFFFFF8 →
    let target := s.pc + 4 + (off ++ 0#2).signExtend 32
    let x := (s.readGpr rs).toInt
    let likely := fun (u t : State) (taken : Prop) => (taken → Branched u t true target false) ∧ (¬taken → Nullified u t)
    (∃ t, exec (.beql rs rt off) s = .next t ∧ likely s t (s.readGpr rs = s.readGpr rt)) ∧
    (∃ t, exec (.bnel rs rt off) s = .next t ∧ likely s t (s.readGpr rs ≠ s.readGpr rt)) ∧
    (∃ t, exec (.blezl rs off) s = .next t ∧ likely s t (x ≤ 0)) ∧
    (∃ t, exec (.bgtzl rs off) s = .next t ∧ likely s t (0 < x)) ∧
    (∃ t, exec (.bltzl rs off) s = .next t ∧ likely s t (x < 0)) ∧
    (∃ t, exec (.bgezl rs off) s = .next t ∧ likely s t (0 ≤ x)) ∧
    (rs ≠ 31 →
      (∃ u t, exec (.bltzall rs off) s = .next t ∧ LinkWritten s u 31 ∧ likely u t (x < 0)) ∧
      (∃ u t, exec (.bgezall rs off) s = .next t ∧ LinkWritten s u 31 ∧ likely u t (0 ≤ x)))

/-- R473 to R478: the jumps. A register target is read before the link register is written; the barrier forms mark
their delay slot, at whose end every pending hazard is cleared (R972). -/
def Obligations.Jumps : Prop :=
  ∀ (target : BitVec 26) (rs rd : Reg) (s : State), s.canBranch →
    let region := (s.pc + 4).extractLsb' 28 4 ++ target ++ 0#2
    (∃ t, exec (.j target) s = .next t ∧ Branched s t true region false) ∧
    (∃ u t, exec (.jal target) s = .next t ∧ LinkWritten s u 31 ∧ Branched u t true region false) ∧
    ((s.readGpr rs).getLsbD 0 = false →
      (∃ t, exec (.jr rs) s = .next t ∧ Branched s t true (s.readGpr rs) false) ∧
      (∃ t, exec (.jr_hb rs) s = .next t ∧ Branched s t true (s.readGpr rs) true) ∧
      (rs ≠ rd →
        (∃ u t, exec (.jalr rs rd) s = .next t ∧ LinkWritten s u rd ∧ Branched u t true (s.readGpr rs) false) ∧
        (∃ u t, exec (.jalr_hb rs rd) s = .next t ∧ LinkWritten s u rd ∧ Branched u t true (s.readGpr rs) true)))

/-- R470, R480: a control transfer that would enter the compressed instruction set is refused: `jalx` always, a jump to
an odd address outside a delay slot. R454: a branch, a jump or a return in a branch delay slot is refused (coprocessor
branches where the coprocessor is usable, returns where coprocessor 0 is). -/
def Obligations.ControlTransfersRefused : Prop :=
  (∀ (target : BitVec 26) (rs rd : Reg) (s : State),
    exec (.jalx target) s = .refused .mips16 ∧
    (s.slot = .none → (s.readGpr rs).getLsbD 0 = true →
      exec (.jr rs) s = .refused .mips16 ∧ exec (.jr_hb rs) s = .refused .mips16 ∧
      (rs ≠ rd → exec (.jalr rs rd) s = .refused .mips16 ∧ exec (.jalr_hb rs rd) s = .refused .mips16))) ∧
  ∀ (rs rt rd : Reg) (off : BitVec 16) (target : BitVec 26) (cc : BitVec 3) (s : State), s.slot ≠ .none →
    (∀ i ∈ [Instr.beq rs rt off, .bne rs rt off, .blez rs off, .bgtz rs off, .bltz rs off, .bgez rs off,
        .beql rs rt off, .bnel rs rt off, .blezl rs off, .bgtzl rs off, .bltzl rs off, .bgezl rs off,
        .j target, .jal target, .jr rs, .jr_hb rs],
      exec i s = .refused .branchInDelaySlot) ∧
    (rs ≠ 31 → ∀ i ∈ [Instr.bltzal rs off, .bgezal rs off, .bltzall rs off, .bgezall rs off],
      exec i s = .refused .branchInDelaySlot) ∧
    (rs ≠ rd → ∀ i ∈ [Instr.jalr rs rd, .jalr_hb rs rd], exec i s = .refused .branchInDelaySlot) ∧
    (s.cp1Usable → ∀ i ∈ [Instr.bc1f cc off, .bc1t cc off, .bc1fl cc off, .bc1tl cc off],
      exec i s = .refused .branchInDelaySlot) ∧
    (s.cp2Usable → ∀ i ∈ [Instr.bc2f cc off, .bc2t cc off, .bc2fl cc off, .bc2tl cc off],
      exec i s = .refused .branchInDelaySlot) ∧
    (s.cp0Usable → exec .eret s = .refused .branchInDelaySlot ∧
      (s.dm → exec .deret s = .refused .branchInDelaySlot))

/-- R665, R747: the branches on a floating point and on a coprocessor 2 condition, where the coprocessor is usable. -/
def Obligations.CoprocessorBranches : Prop :=
  ∀ (cc : BitVec 3) (off : BitVec 16) (s : State), s.canBranch → s.pc ≠ 0xFFFFFFF8 →
    let target := s.pc + 4 + (off ++ 0#2).signExtend 32
    let likely := fun (t : State) (taken : Bool) =>
      (taken = true → Branched s t true target false) ∧ (taken = false → Nullified s t)
    (s.cp1Usable →
      (∃ t, exec (.bc1f cc off) s = .next t ∧ Branched s t (!s.fcc cc) target false) ∧
      (∃ t, exec (.bc1t cc off) s = .next t ∧ Branched s t (s.fcc cc) target false) ∧
      (∃ t, exec (.bc1fl cc off) s = .next t ∧ likely t (!s.fcc cc)) ∧
      (∃ t, exec (.bc1tl cc off) s = .next t ∧ likely t (s.fcc cc))) ∧
    (s.cp2Usable →
      let c := Config.cp2Cond s.cp2State cc
      (∃ t, exec (.bc2f cc off) s = .next t ∧ Branched s t (!c) target false) ∧
      (∃ t, exec (.bc2t cc off) s = .next t ∧ Branched s t c target false) ∧
      (∃ t, exec (.bc2fl cc off) s = .next t ∧ likely t (!c)) ∧
      (∃ t, exec (.bc2tl cc off) s = .next t ∧ likely t c))

/-! ## Loads and stores (43_load_store.md). An access is stated for a physical address reached through the unmapped
uncached window kseg1, where nothing but memory changes, and for a D-cache line that is present. -/

/-- R501 to R505: the integer loads, from uncached memory and from a D-cache line that is present. -/
def Obligations.LoadResults : Prop :=
  ∀ (base rt : Reg) (off : BitVec 16) (s : State), s.canAdvance →
    let va := s.readGpr base + off.signExtend 32
    let m := s.memNat (unmapped va)
    (s.uncachedAccess false va 1 →
      (∃ t, exec (.lb base rt off) s = .next t ∧ LoadResult s t rt ((BitVec.ofNat 8 (m 1)).signExtend 32)) ∧
      (∃ t, exec (.lbu base rt off) s = .next t ∧ LoadResult s t rt (BitVec.ofNat 32 (m 1)))) ∧
    (s.uncachedAccess false va 2 → va.getLsbD 0 = false →
      (∃ t, exec (.lh base rt off) s = .next t ∧ LoadResult s t rt ((BitVec.ofNat 16 (m 2)).signExtend 32)) ∧
      (∃ t, exec (.lhu base rt off) s = .next t ∧ LoadResult s t rt (BitVec.ofNat 32 (m 2)))) ∧
    (s.uncachedAccess false va 4 → va.extractLsb' 0 2 = 0 →
      ∃ t, exec (.lw base rt off) s = .next t ∧ LoadResult s t rt (BitVec.ofNat 32 (m 4))) ∧
    (s.gather = none → ∀ slot : Nat,
      let u := s.lineUsed slot
      let c := s.lineNat slot (unmapped va)
      (s.cachedBytes false va 1 slot →
        (∃ t, exec (.lb base rt off) s = .next t ∧ LoadResult u t rt ((BitVec.ofNat 8 (c 1)).signExtend 32)) ∧
        (∃ t, exec (.lbu base rt off) s = .next t ∧ LoadResult u t rt (BitVec.ofNat 32 (c 1)))) ∧
      (s.cachedBytes false va 2 slot → va.getLsbD 0 = false →
        (∃ t, exec (.lh base rt off) s = .next t ∧ LoadResult u t rt ((BitVec.ofNat 16 (c 2)).signExtend 32)) ∧
        (∃ t, exec (.lhu base rt off) s = .next t ∧ LoadResult u t rt (BitVec.ofNat 32 (c 2)))) ∧
      (s.cachedBytes false va 4 slot → va.extractLsb' 0 2 = 0 →
        ∃ t, exec (.lw base rt off) s = .next t ∧ LoadResult u t rt (BitVec.ofNat 32 (c 4))))

/-- R506, R507: the partial loads merge the word at the aligned address with the old register. -/
def Obligations.PartialLoadResults : Prop :=
  ∀ (base rt : Reg) (off : BitVec 16) (s : State), s.canAdvance →
    let va := s.readGpr base + off.signExtend 32
    let w := s.memWord (unmapped (wordAt va))
    s.uncachedAccess false (wordAt va) 4 →
      (∃ t, exec (.lwl base rt off) s = .next t ∧
        LoadResult s t rt (spliceLeft w (s.readGpr rt) (s.skipLeft va))) ∧
      (∃ t, exec (.lwr base rt off) s = .next t ∧
        LoadResult s t rt (spliceRight (s.readGpr rt) w (s.skipRight va)))

/-- R508 to R510, R260: the integer stores write exactly the bytes named, in the byte order of the access: to uncached
memory, or into a D-cache line that is present, which is dirty then while memory is as it was. -/
def Obligations.StoreResults : Prop :=
  ∀ (base rt : Reg) (off : BitVec 16) (s : State), s.canAdvance →
    let va := s.readGpr base + off.signExtend 32
    let x := (s.readGpr rt).toNat
    (s.uncachedAccess true va 1 →
      ∃ t, exec (.sb base rt off) s = .next t ∧ StoreResult s t (unmapped va) (natToBytes s.bigData 1 x)) ∧
    (s.uncachedAccess true va 2 → va.getLsbD 0 = false →
      ∃ t, exec (.sh base rt off) s = .next t ∧ StoreResult s t (unmapped va) (natToBytes s.bigData 2 x)) ∧
    (s.uncachedAccess true va 4 → va.extractLsb' 0 2 = 0 →
      ∃ t, exec (.sw base rt off) s = .next t ∧ StoreResult s t (unmapped va) (natToBytes s.bigData 4 x)) ∧
    (∀ slot : Nat,
      let u := fun (n : Nat) => s.lineWritten slot (unmapped va) (natToBytes s.bigData n x)
      (s.cachedBytes true va 1 slot → ∃ t, exec (.sb base rt off) s = .next t ∧ NoResult (u 1) t) ∧
      (s.cachedBytes true va 2 slot → va.getLsbD 0 = false →
        ∃ t, exec (.sh base rt off) s = .next t ∧ NoResult (u 2) t) ∧
      (s.cachedBytes true va 4 slot → va.extractLsb' 0 2 = 0 →
        ∃ t, exec (.sw base rt off) s = .next t ∧ NoResult (u 4) t))

/-- R511, R512: the partial stores change the named part of the aligned word and no byte outside it. -/
def Obligations.PartialStoreResults : Prop :=
  ∀ (base rt : Reg) (off : BitVec 16) (s : State), s.canAdvance →
    let va := s.readGpr base + off.signExtend 32
    let pa := unmapped (wordAt va)
    s.uncachedAccess true (wordAt va) 4 →
      (∃ t, exec (.swl base rt off) s = .next t ∧
        WordStoreResult s t pa (spliceRight (s.memWord pa) (s.readGpr rt) (s.skipLeft va))) ∧
      (∃ t, exec (.swr base rt off) s = .next t ∧
        WordStoreResult s t pa (spliceLeft (s.readGpr rt) (s.memWord pa) (s.skipRight va)))

/-- R513, R514 on a D-cache line that is present: `ll` loads the word and makes the reservation; an `sc` whose
reservation stands stores into the line and answers 1; one without the link bit stores nothing and answers 0. The link
bit is clear after either. -/
def Obligations.LinkedLoadAndStore : Prop :=
  ∀ (base rt : Reg) (imm : BitVec 16) (s : State) (slot : Nat), s.canAdvance →
    let va := s.readGpr base + imm.signExtend 32
    let line := lineBytes s.cfg true
    let off := (unmapped va).toNat % line
    let block := (unmapped va).toNat / 2 ^ s.cfg.llGranuleLog2 * 2 ^ s.cfg.llGranuleLog2
    let set := slot % numSets s.cfg true
    va.extractLsb' 0 2 = 0 →
    (s.cachedAccess false va slot → s.gather = none →
      ∃ t, exec (.ll base rt imm) s = .next t ∧
        t.readGpr rt = (if rt = 0 then 0 else BitVec.ofNat 32 (bytesToNat s.bigData (s.dcache.bytes line slot off 4))) ∧
        OtherGprsKept s t rt ∧ t.llBit = true ∧ t.llBlock.toNat = block ∧ t.llTouched = false ∧ MemoryKept s t ∧
        t.dcache = s.dcache.used set ∧
        t = { s with
          gpr := t.gpr, dcache := t.dcache, llBit := t.llBit, llBlock := t.llBlock, llTouched := t.llTouched,
          pc := t.pc, npc := t.npc, slot := t.slot, hazards := t.hazards } ∧ Moved s t) ∧
    (s.cachedAccess true va slot →
      (s.llBit = true → s.llTouched = false → s.llBlock.toNat = block →
        ∃ t, exec (.sc base rt imm) s = .next t ∧
          t.readGpr rt = (if rt = 0 then 0 else 1) ∧ OtherGprsKept s t rt ∧ t.llBit = false ∧ MemoryKept s t ∧
          t.dcache = (((s.dcache.used set).setBytes line slot off (natToBytes s.bigData 4 (s.readGpr rt).toNat)).setTag slot
            { s.dcache.tag slot with d := true }) ∧
          t = { s with
            gpr := t.gpr, dcache := t.dcache, llBit := t.llBit, llTouched := true,
            pc := t.pc, npc := t.npc, slot := t.slot, hazards := t.hazards } ∧ Moved s t) ∧
      (s.llBit = false →
        ∃ t, exec (.sc base rt imm) s = .next t ∧
          t.readGpr rt = 0 ∧ OtherGprsKept s t rt ∧ MemoryKept s t ∧
          t = { s with
            gpr := t.gpr, llBit := false, pc := t.pc, npc := t.npc, slot := t.slot, hazards := t.hazards } ∧
          Moved s t))

/-- R234, R503 to R505, R509, R510, R513, R514, and for the coprocessors 45_fpu.md section 4 and 46_cop2_corextend.md
section 1: an access of two, four or eight bytes at an address that is no multiple of its size raises Address Error, for
a load or for a store, in any mode, where no data break or watch comes first; the coprocessor's where it is usable. -/
def Obligations.MisalignedAccessTraps : Prop :=
  ∀ (base index rt : Reg) (off : BitVec 16) (s : State), s.hazards = [] →
    (s.noDataTraps false → ∀ p ∈ s.loads base index rt off, p.2.1.toNat % p.2.2 ≠ 0 →
      exec p.1 s = s.raise (.addrError false p.2.1)) ∧
    (s.noDataTraps true → ∀ p ∈ s.stores base index rt off, p.2.1.toNat % p.2.2 ≠ 0 →
      exec p.1 s = s.raise (.addrError true p.2.1))

/-- The frame of the integer loads and stores, whichever way the access goes (uncached, cached, a scratchpad, the debug
segment): when one takes no exception only `rt` of a load changes among the registers of the core, CP0 keeps all but the
watch bits, and the pc goes on, or the instruction waits for a silent probe (R891). A load stores to no byte of memory, a
store to those of its access only; any other byte that changes was gathered before and sent out by the access (R244), or
stood in a dirty D-cache line that its refill evicted (R260). -/
def Obligations.LoadStoreFrame : Prop :=
  ∀ (base rt : Reg) (off : BitVec 16) (s t : State),
    let va := s.readGpr base + off.signExtend 32
    (∀ i ∈ [Instr.lb base rt off, .lbu base rt off, .lh base rt off, .lhu base rt off, .lw base rt off,
        .lwl base rt off, .lwr base rt off],
      exec i s = .next t → t.excCount = s.excCount →
        OtherGprsKept s t rt ∧ AccessFrame s t ∧ MemoryMoved s t (fun _ => False) ∧ t.dspram = s.dspram) ∧
    (∀ p ∈ [(Instr.sb base rt off, naturalAccess va 1), (.sh base rt off, naturalAccess va 2),
        (.sw base rt off, naturalAccess va 4), (.swl base rt off, leftAccess s.bigAccess va),
        (.swr base rt off, rightAccess s.bigAccess va)],
      exec p.1 s = .next t → t.excCount = s.excCount →
        t.gpr = s.gpr ∧ AccessFrame s t ∧ MemoryMoved s t (s.storesTo p.2))

/-- R515, R516: a prefetch writes no register and raises no exception, whatever the hint and wherever the address lies; on
an uncached address it does nothing but make an `sc` to come uncertain (R251; log 32 for what the rules leave open),
except that hint 25 writes a line that is present back and removes it. -/
def Obligations.PrefetchHasNoResult : Prop :=
  ∀ (base index hint : Reg) (off : BitVec 16) (s : State),
    (∀ t, exec (.pref base hint off) s = .next t →
      t.gpr = s.gpr ∧ t.fpr = s.fpr ∧ t.cp0 = s.cp0 ∧ CoreKept s t) ∧
    (s.cp1Usable → ∀ t, exec (.prefx base index hint) s = .next t →
      t.gpr = s.gpr ∧ t.fpr = s.fpr ∧ t.cp0 = s.cp0 ∧ CoreKept s t) ∧
    (s.canAdvance → s.hazards = [] → s.mode? = some .kernel →
      let nothing := fun (i : Instr) (va : Word) => inKseg1 va →
        (hint = 25 → lineBytes s.cfg true = 0 ∨ s.dcache.lookup s.cfg true va (unmapped va) = none) →
        ∃ t, exec i s = .next t ∧ NoResult { s with llTouched := true } t
      let removed := fun (i : Instr) (va : Word) => inKseg1 va → s.plainRam (unmapped va) 1 → lineBytes s.cfg true ≠ 0 →
        ∀ slot, s.dcache.lookup s.cfg true va (unmapped va) = some slot →
        ∃ t, exec i s = .next t ∧ t.gpr = s.gpr ∧ t.fpr = s.fpr ∧ t.cp0 = s.cp0 ∧ CoreKept s t ∧ Moved s t ∧
          LineWrittenBack s t slot ∧ (t.dcache.tag slot).v = false ∧ (t.dcache.tag slot).l = false
      let va := s.readGpr base + off.signExtend 32
      let vx := s.readGpr base + s.readGpr index
      nothing (.pref base hint off) va ∧ removed (.pref base 25 off) va ∧
      (s.cp1Usable → nothing (.prefx base index hint) vx ∧ removed (.prefx base index 25) vx))

/-- R518, R244: `sync` performs the gathered stores, each byte at its physical address, and changes nothing else, in
memory or out of it; a gather buffer that is empty leaves it nothing to do. -/
def Obligations.SyncFlushes : Prop :=
  ∀ (stype : Reg) (s : State), s.canAdvance →
    ∃ t, exec (.sync stype) s = .next t ∧ t.gather = none ∧ Moved s t ∧
      t = { s with mem := t.mem, gather := none, pc := t.pc, npc := t.npc, slot := t.slot, hazards := t.hazards } ∧
      GatherWritten s t

/-- R519: `synci` on an uncached address does nothing; on a line present in the D-cache that line ends valid and clean, its
bytes written back if it was dirty, no other byte of memory and no other D-cache line changed; a line the address hits
in the I-cache ends invalid. -/
def Obligations.SynciCleansAndInvalidates : Prop :=
  ∀ (base : Reg) (off : BitVec 16) (s : State), s.canAdvance → s.hazards = [] → s.mode? = some .kernel →
    let va := s.readGpr base + off.signExtend 32
    (inKseg1 va → ∃ t, exec (.synci base off) s = .next t ∧ NoResult s t) ∧
    (∀ slot, s.cachedAccess false va slot →
      ∃ t, exec (.synci base off) s = .next t ∧ t.pc = s.npc ∧ t.gpr = s.gpr ∧ CoreKept s t ∧
        t.dcache.tag slot = { s.dcache.tag slot with d := false } ∧ LineWrittenBack s t slot ∧
        (lineBytes s.cfg false ≠ 0 → ∀ k, s.icache.lookup s.cfg false va (unmapped va) = some k →
          (t.icache.tag k).v = false))

/-- R520, R521: cache operations of kernel code on a kseg0 address, outside the cache test modes: the tag loads and stores,
the index and the hit operations of both caches (what a dirty line holds goes to its address, and nowhere else), Fill and
Fetch and Lock of a line that is present or absent, and the operations that are no-ops (log 30 for what the rules leave
open). What Index Load Tag wrote only a `mfc0` may see late (R974). That the I-cache operations Fill and Fetch and Lock
take the bus's answer to a data read, and no answer to a fetch, is the model's choice too (log 18). -/
def Obligations.CacheOperations : Prop :=
  ∀ (base op : Reg) (off : BitVec 16) (s : State), s.canAdvance → s.hazards = [] → s.mode? = some .kernel →
    let va := s.readGpr base + off.signExtend 32
    (cacheNoOp op → ∃ t, exec (.cache base op off) s = .next t ∧ NoResult { s with llTouched := true } t) ∧
    (inKseg0 va → s.cp0.errCtl &&& 0x78000000 = 0 →
      (lineBytes s.cfg true ≠ 0 →
        ∃ t, exec (.cache base 0x09 off) s = .next t ∧ MemoryKept s t ∧ t.gpr = s.gpr ∧ CoreKept s t ∧
          ∀ k, t.dcache.tag k = if k = indexSlot s.cfg true va then
              ⟨s.cp0.tagLo1.extractLsb' 12 20, s.cp0.tagLo1.getLsbD 7, s.cp0.tagLo1.getLsbD 6, s.cp0.tagLo1.getLsbD 5⟩
            else s.dcache.tag k) ∧
      (lineBytes s.cfg false ≠ 0 →
        ∃ t, exec (.cache base 0x08 off) s = .next t ∧ MemoryKept s t ∧ t.gpr = s.gpr ∧ CoreKept s t ∧
          ∀ k, t.icache.tag k = if k = indexSlot s.cfg false va then
              ⟨s.cp0.tagLo0.extractLsb' 12 20, s.cp0.tagLo0.getLsbD 7, false, s.cp0.tagLo0.getLsbD 5⟩
            else s.icache.tag k) ∧
      (lineBytes s.cfg false ≠ 0 →
        let k := indexSlot s.cfg false va
        let line := lineBytes s.cfg false
        (∃ t, exec (.cache base 0x00 off) s = .next t ∧ MemoryKept s t ∧ t.gpr = s.gpr ∧ CoreKept s t ∧
          (t.icache.tag k).v = false ∧ (t.icache.tag k).l = false ∧ ∀ j, j ≠ k → t.icache.tag j = s.icache.tag j) ∧
        (∃ t, exec (.cache base 0x04 off) s = .next t ∧ MemoryKept s t ∧ t.gpr = s.gpr ∧ CoreKept s t ∧
          t.icache = s.icache ∧ t.dcache = s.dcache ∧
          t.cp0 = { s.cp0 with
            tagLo0 := t.cp0.tagLo0, dataLo0 := t.cp0.dataLo0, dataHi0 := t.cp0.dataHi0, errCtl := t.cp0.errCtl } ∧
          t.cp0.tagLo0.extractLsb' 12 20 = (s.icache.tag k).ptag ∧ t.cp0.tagLo0.getLsbD 7 = (s.icache.tag k).v ∧
          t.cp0.tagLo0.getLsbD 6 = false ∧ t.cp0.tagLo0.getLsbD 5 = (s.icache.tag k).l ∧
          (t.cp0.dataHi0 ++ t.cp0.dataLo0).toNat =
            bytesToNat s.cfg.bigEndian (s.icache.bytes line k (va.toNat % line / 8 * 8) 8) ∧
          ∀ c : Consumer, c ≠ .readReg → t.view c = t)) ∧
      (lineBytes s.cfg true ≠ 0 →
        let k := indexSlot s.cfg true va
        let line := lineBytes s.cfg true
        (∃ t, exec (.cache base 0x01 off) s = .next t ∧ SlotWrittenBack s t k ∧ t.gpr = s.gpr ∧ CoreKept s t ∧
          (t.dcache.tag k).v = false ∧ (t.dcache.tag k).l = false ∧ ∀ j, j ≠ k → t.dcache.tag j = s.dcache.tag j) ∧
        (∃ t, exec (.cache base 0x05 off) s = .next t ∧ MemoryKept s t ∧ t.gpr = s.gpr ∧ CoreKept s t ∧
          t.icache = s.icache ∧ t.dcache = s.dcache ∧
          t.cp0 = { s.cp0 with tagLo1 := t.cp0.tagLo1, dataLo1 := t.cp0.dataLo1, errCtl := t.cp0.errCtl } ∧
          t.cp0.tagLo1.extractLsb' 12 20 = (s.dcache.tag k).ptag ∧ t.cp0.tagLo1.getLsbD 7 = (s.dcache.tag k).v ∧
          t.cp0.tagLo1.getLsbD 6 = (s.dcache.tag k).d ∧ t.cp0.tagLo1.getLsbD 5 = (s.dcache.tag k).l ∧
          t.cp0.dataLo1.toNat = bytesToNat s.cfg.bigEndian (s.dcache.bytes line k (va.toNat % line / 4 * 4) 4) ∧
          ∀ c : Consumer, c ≠ .readReg → t.view c = t))) ∧
    (inKseg0 va → lineBytes s.cfg false ≠ 0 →
      (∀ slot, s.icache.lookup s.cfg false va (unmapped va) = some slot →
        ∃ t, exec (.cache base 0x10 off) s = .next t ∧ MemoryKept s t ∧ t.gpr = s.gpr ∧ CoreKept s t ∧
          (t.icache.tag slot).v = false ∧ (t.icache.tag slot).l = false ∧
          ∀ k, k ≠ slot → t.icache.tag k = s.icache.tag k) ∧
      (s.icache.lookup s.cfg false va (unmapped va) = none →
        ∃ t, exec (.cache base 0x10 off) s = .next t ∧ NoResult { s with llTouched := true } t)) ∧
    (inKseg0 va → ∀ p ∈ [((0x14 : Reg), false, false), (0x1C, false, true), (0x1D, true, true)],
      let d := p.2.1
      let lock := p.2.2
      let line := lineBytes s.cfg d
      let first := lineBase s.cfg d (unmapped va)
      line ≠ 0 →
        (∀ slot, (s.cache d).lookup s.cfg d va (unmapped va) = some slot →
          ∃ t, exec (.cache base p.1 off) s = .next t ∧ MemoryKept s t ∧ t.gpr = s.gpr ∧ CoreKept s t ∧
            (t.cache d).data = (s.cache d).data ∧
            ∀ k, (t.cache d).tag k =
              if k = slot ∧ lock = true then { (s.cache d).tag k with l := true } else (s.cache d).tag k) ∧
        ((s.cache d).lookup s.cfg d va (unmapped va) = none → s.gather = none → s.inputs.failData = false →
          s.plainRam (BitVec.ofNat 32 first) line →
          (∃ w, w < numWays s.cfg d ∧
            ((s.cache d).tag (slotOf s.cfg d w (setIndex s.cfg d va (unmapped va)))).l = false) →
          ∃ t w, let slot := slotOf s.cfg d w (setIndex s.cfg d va (unmapped va))
            w < numWays s.cfg d ∧ ((s.cache d).tag slot).l = false ∧ exec (.cache base p.1 off) s = .next t ∧
            t.gpr = s.gpr ∧ CoreKept s t ∧ (t.cache d).lookup s.cfg d va (unmapped va) = some slot ∧
            (t.cache d).tag slot = ⟨(unmapped va).extractLsb' 12 20, true, false, lock⟩ ∧
            (∀ k, k ≠ slot → (t.cache d).tag k = (s.cache d).tag k) ∧
            (t.cache d).bytes line slot 0 line = Memory.readBytes s.mem first line ∧
            (if d then SlotWrittenBack s t slot else MemoryKept s t))) ∧
    (∀ slot, s.cachedAccess false va slot →
      (∃ t, exec (.cache base 0x11 off) s = .next t ∧ MemoryKept s t ∧ t.gpr = s.gpr ∧ CoreKept s t ∧
        (t.dcache.tag slot).v = false ∧ (t.dcache.tag slot).l = false ∧
        (∀ k, k ≠ slot → t.dcache.tag k = s.dcache.tag k)) ∧
      (∃ t, exec (.cache base 0x19 off) s = .next t ∧ t.gpr = s.gpr ∧ CoreKept s t ∧
        t.dcache.tag slot = { s.dcache.tag slot with d := false } ∧ LineWrittenBack s t slot) ∧
      (∃ t, exec (.cache base 0x15 off) s = .next t ∧ t.gpr = s.gpr ∧ CoreKept s t ∧
        (t.dcache.tag slot).v = false ∧ (t.dcache.tag slot).l = false ∧ LineWrittenBack s t slot))

/-! ## Coprocessor loads and stores (45_fpu.md, 46_cop2_corextend.md) -/

/-- R636, R637, R640 to R642: the floating point loads from uncached memory, of the format's size, the 64-bit ones into a
register that may hold them; `luxc1` ignores the low three address bits. -/
def Obligations.FpLoadResults : Prop :=
  ∀ (base index ft : Reg) (off : BitVec 16) (s : State), s.canAdvance → s.cp1Usable →
    let word := fun (i : Instr) (va : Word) =>
      s.uncachedAccess false va 4 → va.extractLsb' 0 2 = 0 →
        ∃ t, exec i s = .next t ∧ FpLoadResult s t .single ft (BitVec.ofNat 64 (s.memNat (unmapped va) 4))
    let double := fun (i : Instr) (va : Word) =>
      s.uncachedAccess false va 8 → va.extractLsb' 0 3 = 0 →
        ∃ t, exec i s = .next t ∧ FpLoadResult s t .double ft (BitVec.ofNat 64 (s.memNat (unmapped va) 8))
    let va := s.readGpr base + off.signExtend 32
    let vx := s.readGpr base + s.readGpr index
    word (.lwc1 base ft off) va ∧ word (.lwxc1 base index ft) vx ∧
    (s.frUse ∨ ft.getLsbD 0 = false → double (.ldc1 base ft off) va ∧ double (.ldxc1 base index ft) vx) ∧
    (s.frUse → double (.luxc1 base index ft) (vx &&& 0xFFFFFFF8))

/-- R638, R639, R643 to R645: the floating point stores to uncached memory. -/
def Obligations.FpStoreResults : Prop :=
  ∀ (base index ft : Reg) (off : BitVec 16) (s : State), s.canAdvance → s.cp1Usable →
    let word := fun (i : Instr) (va : Word) =>
      s.uncachedAccess true va 4 → va.extractLsb' 0 2 = 0 →
        ∃ t, exec i s = .next t ∧ StoreResult s t (unmapped va) (natToBytes s.bigData 4 (s.readFprW ft).toNat)
    let double := fun (i : Instr) (va : Word) =>
      s.uncachedAccess true va 8 → va.extractLsb' 0 3 = 0 →
        ∃ t, exec i s = .next t ∧ StoreResult s t (unmapped va) (natToBytes s.bigData 8 (s.readFprD ft).toNat)
    let va := s.readGpr base + off.signExtend 32
    let vx := s.readGpr base + s.readGpr index
    word (.swc1 base ft off) va ∧ word (.swxc1 base index ft) vx ∧
    (s.frUse ∨ ft.getLsbD 0 = false → double (.sdc1 base ft off) va ∧ double (.sdxc1 base index ft) vx) ∧
    (s.frUse → double (.suxc1 base index ft) (vx &&& 0xFFFFFFF8))

/-- R748 to R751: the coprocessor 2 loads and stores from and to uncached memory, through the coprocessor's interface. -/
def Obligations.Cop2MemoryResults : Prop :=
  ∀ (base rt : Reg) (off : BitVec 16) (s : State), s.canAdvance → s.cp2Usable →
    let va := s.readGpr base + off.signExtend 32
    let m := s.memNat (unmapped va)
    let loads := fun (i : Instr) (c : Nat) =>
      ∃ t, exec i s = .next t ∧ MemoryKept s t ∧ Moved s t ∧
        t = { s with cp2State := c, llTouched := true, pc := t.pc, npc := t.npc, slot := t.slot, hazards := t.hazards }
    (s.uncachedAccess false va 4 → va.extractLsb' 0 2 = 0 →
      loads (.lwc2 base rt off) (Config.cp2LoadWord s.cp2State rt (BitVec.ofNat 32 (m 4)))) ∧
    (s.uncachedAccess false va 8 → va.extractLsb' 0 3 = 0 →
      loads (.ldc2 base rt off) (Config.cp2LoadDouble s.cp2State rt (BitVec.ofNat 64 (m 8)))) ∧
    (s.uncachedAccess true va 4 → va.extractLsb' 0 2 = 0 →
      ∃ t, exec (.swc2 base rt off) s = .next t ∧
        StoreResult s t (unmapped va) (natToBytes s.bigData 4 (Config.cp2StoreWord s.cp2State rt).toNat)) ∧
    (s.uncachedAccess true va 8 → va.extractLsb' 0 3 = 0 →
      ∃ t, exec (.sdc2 base rt off) s = .next t ∧
        StoreResult s t (unmapped va) (natToBytes s.bigData 8 (Config.cp2StoreDouble s.cp2State rt).toNat))

/-! ## Coprocessor 2 and CorExtend (46_cop2_corextend.md) -/

/-- R740 to R746, R752: the moves to and from coprocessor 2 and its operations, where it is usable. An operation
completes in any case: where the coprocessor refuses it, with the entry of the coprocessor's own exception. -/
def Obligations.Cop2Moves : Prop :=
  ∀ (rt rd : Reg) (impl : BitVec 16) (func : BitVec 25) (s : State), s.canAdvance → s.cp2Usable →
    let c := s.cp2State
    let x := s.readGpr rt
    let writes := fun (i : Instr) (n : Nat) => ∃ t, exec i s = .next t ∧ NoResult { s with cp2State := n } t
    (∃ t, exec (.mfc2 rt impl) s = .next t ∧ GprResult s t rt ((Config.cp2Read c impl).extractLsb' 0 32)) ∧
    (∃ t, exec (.mfhc2 rt impl) s = .next t ∧ GprResult s t rt ((Config.cp2Read c impl).extractLsb' 32 32)) ∧
    (∃ t, exec (.cfc2 rt rd) s = .next t ∧ GprResult s t rt (Config.cp2ReadCtl c rd)) ∧
    writes (.mtc2 rt impl) (Config.cp2Write c impl x) ∧
    writes (.mthc2 rt impl) (Config.cp2WriteHi c impl x) ∧
    writes (.ctc2 rt rd) (Config.cp2WriteCtl c rd x) ∧
    (match Config.cp2Op c func with
      | some n => writes (.cop2 func) n
      | none => exec (.cop2 func) s = s.raise .c2e) ∧
    (s.dm = false → s.hazards = [] → (s.exl = true ∨ s.setOk s.ess = true) →
      ∃ t, exec (.cop2 func) s = .next t ∧
        (Config.cp2Op c func = none → GeneralEntry s t 18 0x180 0x00000002 ∧ AddressesKept s t))

/-- R760, R761: a CorExtend word, where the block is fitted and enabled, gives the block its new state and writes the
result it answers, if any, or raises the block's exception; the block sees the word itself and the two registers it
names. -/
def Obligations.CorExtendResults : Prop :=
  ∀ (rs rt rd r4 : Reg) (fn : BitVec 4) (s : State),
    let i := Instr.udi (rs ++ rt ++ rd ++ r4) fn
    let word : Word := 0b011100#6 ++ rs ++ rt ++ rd ++ r4 ++ 0b01#2 ++ fn
    let answer := Config.udi word (s.readGpr rs) (s.readGpr rt) s.udiState
    encode i = word ∧
    (s.cfg.hasCorExtend = false → exec i s = s.raise .ri) ∧
    (s.cfg.hasCorExtend = true → s.hazards = [] →
      (s.cfg.corExtendNeedsCEE = true → s.cee = false → exec i s = s.raise .ceu) ∧
      (s.cfg.corExtendNeedsCEE = false ∨ s.cee = true →
        (match answer with
          | none => exec i s = s.raise .is1
          | some (n, none) => s.canAdvance → ∃ t, exec i s = .next t ∧ NoResult { s with udiState := n } t
          | some (n, some v) => s.canAdvance → ∃ t, exec i s = .next t ∧ GprResult { s with udiState := n } t rd v) ∧
        (s.canAdvance → s.dm = false → (s.exl = true ∨ s.setOk s.ess = true) →
          ∃ t, exec i s = .next t ∧ (answer = none → GeneralEntry s t 16 0x180 0x00000002 ∧ AddressesKept s t))))

/-- R592, R783, R740, R620: an instruction of a coprocessor that is not usable raises Coprocessor Unusable with its number,
before anything else it would do: the instructions named, and every constructor whose word lies in the coprocessor's
opcode space (R311). -/
def Obligations.CoprocessorUnusable : Prop :=
  ∀ (rs rt rd : Reg) (sel cc : BitVec 3) (off : BitVec 16) (func : BitVec 25) (s : State),
    (s.cp0Usable = false →
      ∀ i ∈ [Instr.mfc0 rt rd sel, .mtc0 rt rd sel, .di rt, .ei rt, .rdpgpr rt rd, .wrpgpr rt rd, .eret, .deret, .wait,
          .tlbr, .tlbwi, .tlbwr, .tlbp, .cache rs rt off],
        exec i s = s.raise (.cpu 0)) ∧
    (s.cp1Usable = false →
      ∀ i ∈ [Instr.mfc1 rt rd, .mtc1 rt rd, .mfhc1 rt rd, .mthc1 rt rd, .cfc1 rt rd, .ctc1 rt rd, .movf rs cc rd,
          .movt rs cc rd, .lwc1 rs rt off, .ldc1 rs rt off, .swc1 rs rt off, .sdc1 rs rt off, .lwxc1 rs rt rd,
          .ldxc1 rs rt rd, .luxc1 rs rt rd, .swxc1 rs rt rd, .sdxc1 rs rt rd, .suxc1 rs rt rd, .prefx rs rt rd,
          .bc1f cc off, .bc1t cc off, .bc1fl cc off, .bc1tl cc off, .add_s rt rs rd, .add_d rt rs rd, .mul_d rt rs rd,
          .c_lt_s rt rs cc, .cvt_w_d rs rd, .round_l_s rs rd, .mov_d rs rd, .madd_d rs rt rs rd],
        exec i s = s.raise (.cpu 1)) ∧
    (s.cp2Usable = false →
      ∀ i ∈ [Instr.mfc2 rt off, .mtc2 rt off, .mfhc2 rt off, .mthc2 rt off, .cfc2 rt rd, .ctc2 rt rd, .lwc2 rs rt off,
          .swc2 rs rt off, .ldc2 rs rt off, .sdc2 rs rt off, .bc2f cc off, .bc2t cc off, .bc2fl cc off, .bc2tl cc off,
          .cop2 func],
        exec i s = s.raise (.cpu 2)) ∧
    ∀ i : Instr,
      let op := (encode i).extractLsb' 26 6
      let fn := (encode i).extractLsb' 0 6
      (op = 0x10 ∨ op = 0x2F → s.cp0Usable = false → exec i s = s.raise (.cpu 0)) ∧
      (op = 0x11 ∨ op = 0x13 ∨ op = 0x31 ∨ op = 0x35 ∨ op = 0x39 ∨ op = 0x3D ∨ (op = 0 ∧ fn = 1) →
        s.cp1Usable = false → exec i s = s.raise (.cpu 1)) ∧
      (op = 0x12 ∨ op = 0x32 ∨ op = 0x36 ∨ op = 0x3A ∨ op = 0x3E →
        s.cp2Usable = false → exec i s = s.raise (.cpu 2))

/-! ## Encoding (30_encoding.md) -/

/-- R290 to R292: words written out from the encodings of spec/ decode to the instructions they stand for. -/
def Obligations.DecodeSampleWords : Prop :=
  decode 0x24A2FFF6 = .ok (.addiu 5 2 0xFFF6) ∧
  decode 0x00C02821 = .ok (.addu 6 0 5) ∧
  decode 0x0000000C = .ok (.syscall 0) ∧
  decode 0x42000018 = .ok .eret ∧
  decode 0x40027801 = .ok (.mfc0 2 15 1) ∧
  decode 0x7C02103B = .ok (.rdhwr 2 2) ∧
  decode 0x000000C0 = .ok .ehb ∧
  decode 0x00000000 = .ok .nop ∧
  decode 0x00000035 = .error .reservedSpecial

/-- R290, R310, R359, R589 to R591: every well-formed instruction is what its encoded word decodes to, with every operand
at every value. -/
def Obligations.DecodeEncode : Prop := ∀ i : Instr, i.wellFormed → decode (encode i) = .ok i

/-- R290, R310: a word that decodes is the word of a well-formed instruction, every field of it accounted for (in a `wait`
its hint code aside, log 43, in a register jump bits 9:6, log 49). -/
def Obligations.DecodedWordIsEncoding : Prop :=
  ∀ (w : Word) (i : Instr), decode w = .ok i → i.wellFormed ∧ encode i = canonicalWord w

/-! ## Reset and the machine as a whole -/

/-- R961, R962: what reset leaves, by the event and in the state the machine starts in: the entry point, kernel mode with
`BEV` and `ERL`, no pending exception and no deferred watch, and the value of every field of CP0, of the debug unit and of the trace unit that
the table gives one, but for constants and what the parameters fix. Memory outside the core is as it was. -/
def Obligations.ResetValues : Prop :=
  State.reset.pc = 0xBFC00000 ∧ State.reset.mode? = some .kernel ∧
  ∀ s : State, let t := applyEvent .reset s
    t.pc = 0xBFC00000 ∧ t.npc = 0xBFC00004 ∧ t.slot = .none ∧ t.sleeping = false ∧ t.hazards = [] ∧ t.gather = none ∧
    t.pendDBE = [] ∧ t.dbeHeld = false ∧ t.pendCacheErr = false ∧ t.pendCacheErrData = false ∧
    t.dbg.pendBreaks = [] ∧ t.dbg.served = [] ∧ t.dbg.stepCount = 0 ∧ t.cp0.cause.getLsbD 22 = false ∧
    t.cp0.status &&& 0x89B800E4 = 0x00000004 ∧ t.bev = true ∧ t.dm = false ∧
    t.cp0.random = BitVec.ofNat 32 (s.cfg.tlbEntries - 1) ∧ t.cp0.wired = 0 ∧ t.cp0.hwrena = 0 ∧
    t.cp0.intCtl.extractLsb' 5 5 = 0 ∧ t.css = 0 ∧ t.pss = 0 ∧ t.ess = 0 ∧ t.cp0.srsMap = 0 ∧ t.dc = false ∧
    t.cp0.ebase = 0x80000000 ∧ t.cp0.config.extractLsb' 0 3 = 2 ∧ t.cp0.config7 = 0 ∧
    (s.cfg.mmu = .tlb → t.cp0.config.extractLsb' 25 6 = 0) ∧
    (∀ i : Fin 4, (t.cp0.watchLo.get i).extractLsb' 0 3 = 0 ∧ (t.cp0.watchHi.get i).getLsbD 31 = decide (i ≠ 3)) ∧
    t.cp0.debug &&& 0x73FF833F = 0x02010000 ∧ t.cp0.traceControl.getLsbD 31 = false ∧
    t.cp0.perfCtl0.getLsbD 4 = false ∧ t.cp0.perfCtl1.getLsbD 4 = false ∧ t.cp0.errCtl.extractLsb' 27 5 = 0 ∧
    (∀ i : Fin 4, (t.dbg.ib.get i).ctl.getLsbD 0 = false ∧ (t.dbg.ib.get i).ctl.getLsbD 2 = false) ∧
    (∀ i : Fin 2, (t.dbg.db.get i).ctl.getLsbD 0 = false ∧ (t.dbg.db.get i).ctl.getLsbD 2 = false) ∧
    t.dbg.ibs = 0 ∧ t.dbg.dbs = 0 ∧ t.dbg.ejtagControl &&& 0x80150000 = 0x80000000 ∧ t.dbg.pcSample.isNew = false ∧
    t.dbg.tracing = false ∧ t.dbg.armed = false ∧ t.dbg.triggered = false ∧
    t.dcrInte = true ∧ t.dcrNmie = true ∧ t.dcrNmip = false ∧ t.dbg.dcr.extractLsb' 6 3 = 7 ∧
    t.probEn = s.dbg.bootArmed ∧ t.probTrap = s.dbg.bootArmed ∧ t.ejtagBrk = s.dbg.bootArmed ∧
    t.cfg = s.cfg ∧ (∀ r : Reg, r = 0 → t.readGpr r = 0) ∧ MemoryKept s t

/-- The invariants hold in the state after reset. That the reserved bits and every memory start as they do is the model's
choice where the reset table is silent (log 1, 2, 5). -/
def Obligations.InvariantsAtReset : Prop :=
  State.reset.memWf = true ∧ State.reset.pcOk = true ∧ State.reset.reservedOk = true

/-- Every step keeps every memory of the machine (RAM, caches, scratchpads, gather buffer) in its one canonical form, so
that equal contents are equal data. The form is the model's own choice, and no rule of the spec (log 2). -/
def Obligations.StepKeepsMemoryForm : Prop := ∀ s t : State, s.memWf → step s = .next t → t.memWf

/-- R36, R452, R470: whatever an instruction, an exception or the environment does, the pc never takes the ISA mode bit,
and outside a delay slot with a jump pending the next instruction follows the current one. -/
def Obligations.StepKeepsPcSequential : Prop := ∀ s t : State, s.pcOk → step s = .next t → t.pcOk

/-- R8, R51, R82, R94: no step changes the parameters of the core, and the reserved bits of `FCSR` and `Status` stay 0. -/
def Obligations.StepKeepsReservedBits : Prop :=
  ∀ s t : State, step s = .next t → t.cfg = s.cfg ∧ (s.reservedOk → t.reservedOk)

/-- R10, R237, R820: where nothing stands before the next instruction, a step is the execution of the instruction the
word at the pc decodes to, in the state with the next draw number, and then the end of the step, or where the fetch raises
an exception the taking of that; the fetch of an instruction from memory through kseg1 takes its word and changes nothing. The end of a step touches the performance
counters and the single-step count only, and closes the dmseg transfer of an instruction that waits no longer (R891;
log 25). The draw number is the model's own (log 9). -/
def Obligations.StepRunsDecoded : Prop :=
  (∀ (s t : State) (w : Word) (i : Instr), s.quiet →
    let b : State := { s with freeCtr := s.freeCtr + 1 }
    b.fetchWord b.pc = .ok w t → decode w = .ok i →
      step s = endOut (fun u => b.endStep u (some (instrInfo i))) (exec i t)) ∧
  (∀ (s t : State) (e : Exc), s.quiet →
    let b : State := { s with freeCtr := s.freeCtr + 1 }
    b.fetchWord b.pc = .exc e t → step s = endOut (fun u => b.endStep u none) (t.raise e)) ∧
  (∀ (s : State) (i : Instr), s.quiet → s.plainFetch → decode (s.codeWord (unmapped s.pc)) = .ok i →
    let b : State := { s with freeCtr := s.freeCtr + 1 }
    step s = endOut (fun u => b.endStep u (some (instrInfo i))) (exec i b)) ∧
  (∀ (s t : State) (info : Option InstrInfo),
    let waiting : Bool := t.dbg.ejtagControl.getLsbD 18 && t.excCount = s.excCount
    endOut (fun u => s.endStep u info) (.next t) = .next (s.endStep t info) ∧
    (s.endStep t info) = { t with
      cp0 := { t.cp0 with
        perfCnt0 := (s.endStep t info).cp0.perfCnt0, perfCnt1 := (s.endStep t info).cp0.perfCnt1 }
      dbg := { t.dbg with
        stepCount := if s.dm = false ∧ t.dm = false then t.dbg.stepCount + 1 else t.dbg.stepCount
        served := if waiting then t.dbg.served else []
        ejtagControl := if waiting then t.dbg.ejtagControl else t.dbg.ejtagControl &&& 0xFFFBFFFF } }) ∧
  (∀ (s : State) (info : Option InstrInfo) (f : Fault) (r : Refusal),
    endOut (fun u => s.endStep u info) (.fault f) = .fault f ∧
    endOut (fun u => s.endStep u info) (.refused r) = .refused r)

/-- R310, R311: a word that is no instruction raises Coprocessor Unusable where it lies in the opcode space of a
coprocessor that is not usable (for coprocessor 1 SPECIAL MOVCI too), and Reserved Instruction everywhere else. -/
def Obligations.UndecodedWordsTrap : Prop :=
  ∀ (s : State) (w : Word), (∀ i, decode w ≠ .ok i) →
    let op := w.extractLsb' 26 6
    let cop0 := op = 0x10
    let cop1 := op = 0x11 ∨ op = 0x13 ∨ op = 0x31 ∨ op = 0x35 ∨ op = 0x39 ∨ op = 0x3D ∨ (op = 0 ∧ w.extractLsb' 0 6 = 1)
    let cop2 := op = 0x12 ∨ op = 0x32 ∨ op = 0x36 ∨ op = 0x3A ∨ op = 0x3E
    (cop0 → s.cp0Usable = false → s.runWord w = s.raise (.cpu 0)) ∧
    (cop1 → s.cp1Usable = false → s.runWord w = s.raise (.cpu 1)) ∧
    (cop2 → s.cp2Usable = false → s.runWord w = s.raise (.cpu 2)) ∧
    ((cop0 → s.cp0Usable = true) → (cop1 → s.cp1Usable = true) → (cop2 → s.cp2Usable = true) →
      s.runWord w = s.raise .ri)

/-- R592, R782: code that may not use coprocessor 0 (user or supervisor code without `Status[CU0]`) changes no CP0
register, no TLB entry, no other register set and no parameter by any instruction, unless an exception is taken. -/
def Obligations.UnprivilegedCodeKeepsCp0 : Prop :=
  ∀ (i : Instr) (s t : State), s.cp0Usable = false → s.hazards = [] → exec i s = .next t → t.excCount = s.excCount →
    t.cp0 = s.cp0 ∧ t.tlb = s.tlb ∧ t.cfg = s.cfg ∧ t.dbg.dcr = s.dbg.dcr ∧
      ∀ (set : BitVec 4) (r : Reg), set ≠ s.curSet → t.readSet set r = s.readSet set r

/-! ## Exceptions (60_exceptions.md, 61_debug.md) -/

/-- R560, R561, R563 to R574: the instructions that raise System Call and Breakpoint, and the traps: raised where the
condition holds, nothing done where it does not. -/
def Obligations.SystemCallsAndTraps : Prop :=
  ∀ (rs rt : Reg) (imm : BitVec 16) (code : BitVec 20) (c : BitVec 10) (s : State),
    let x := s.readGpr rs
    let y := s.readGpr rt
    let z : Word := imm.signExtend 32
    let traps := fun (i : Instr) (cond : Prop) =>
      (cond → exec i s = s.raise .tr) ∧ (¬cond → s.canAdvance → ∃ t, exec i s = .next t ∧ NoResult s t)
    exec (.syscall code) s = s.raise .sys ∧ exec (.break_ code) s = s.raise .bp ∧
    traps (.tge rs rt c) (x.toInt ≥ y.toInt) ∧ traps (.tgeu rs rt c) (x.toNat ≥ y.toNat) ∧
    traps (.tlt rs rt c) (x.toInt < y.toInt) ∧ traps (.tltu rs rt c) (x.toNat < y.toNat) ∧
    traps (.teq rs rt c) (x = y) ∧ traps (.tne rs rt c) (x ≠ y) ∧
    traps (.tgei rs imm) (x.toInt ≥ z.toInt) ∧ traps (.tgeiu rs imm) (x.toNat ≥ z.toNat) ∧
    traps (.tlti rs imm) (x.toInt < z.toInt) ∧ traps (.tltiu rs imm) (x.toNat < z.toNat) ∧
    traps (.teqi rs imm) (x = z) ∧ traps (.tnei rs imm) (x ≠ z)

/-- R785, R800 to R802, R806, R808, R826: general exception entry outside debug mode, for every exception that reports no
address, and the system call and breakpoint instructions that are nothing else. The register set it selects exists. -/
def Obligations.ExceptionEntry : Prop :=
  ∀ s : State, s.dm = false → s.hazards = [] → (s.exl = true ∨ s.setOk s.ess = true) →
    (∀ p ∈ [(Exc.ibe, (6 : BitVec 5)), (.dbe, 7), (.sys, 8), (.bp, 9), (.ri, 10), (.ov, 12), (.tr, 13), (.fpe, 15),
        (.is1, 16), (.ceu, 17), (.c2e, 18), (.watch, 23)],
      ∃ t, s.raise p.1 = .next t ∧ GeneralEntry s t p.2 0x180 0x00000002 ∧ AddressesKept s t) ∧
    (∀ n : BitVec 2, ∃ t, s.raise (.cpu n) = .next t ∧ GeneralEntry s t 11 0x180 0x00000002 ∧ AddressesKept s t ∧
      t.cp0.cause.extractLsb' 28 2 = n) ∧
    (∃ t, s.raise .mcheck = .next t ∧ GeneralEntry s t 24 0x180 0x00200002 ∧ AddressesKept s t) ∧
    (∀ code : BitVec 20,
      (∃ t, exec (.syscall code) s = .next t ∧ GeneralEntry s t 8 0x180 0x00000002 ∧ AddressesKept s t) ∧
      (∃ t, exec (.break_ code) s = .next t ∧ GeneralEntry s t 9 0x180 0x00000002 ∧ AddressesKept s t))

/-- R213, R787, R788, R805: the exceptions that report an address; a TLB refill outside exception level has its own entry
point. -/
def Obligations.AddressExceptionEntry : Prop :=
  ∀ (s : State) (va : Word), s.dm = false → s.hazards = [] → (s.exl = true ∨ s.setOk s.ess = true) →
    (∃ t, s.raise (.addrError false va) = .next t ∧ GeneralEntry s t 4 0x180 2 ∧ AddressErrorRecorded s t va) ∧
    (∃ t, s.raise (.addrError true va) = .next t ∧ GeneralEntry s t 5 0x180 2 ∧ AddressErrorRecorded s t va) ∧
    (∃ t, s.raise (.tlbMod va) = .next t ∧ GeneralEntry s t 1 0x180 2 ∧ TlbMissRecorded s t va) ∧
    (∃ t, s.raise (.tlbInvalid false va) = .next t ∧ GeneralEntry s t 2 0x180 2 ∧ TlbMissRecorded s t va) ∧
    (∃ t, s.raise (.tlbInvalid true va) = .next t ∧ GeneralEntry s t 3 0x180 2 ∧ TlbMissRecorded s t va) ∧
    (∃ t, s.raise (.tlbRefill false va) = .next t ∧ GeneralEntry s t 2 0x000 2 ∧ TlbMissRecorded s t va) ∧
    (∃ t, s.raise (.tlbRefill true va) = .next t ∧ GeneralEntry s t 3 0x000 2 ∧ TlbMissRecorded s t va)

/-- R562, R882, R885, R963, R803: `sdbbp` and the hardware causes enter debug mode; in debug mode every exception is a
nested one; NMI and Cache Error entry. -/
def Obligations.DebugNmiCacheErrorEntry : Prop :=
  (∀ (s : State) (code : BitVec 20), s.dm = false → s.dbg.pendBreaks = [] →
    (∃ t, exec (.sdbbp code) s = .next t ∧ DebugEntry s t 0x00000002) ∧
    (∀ c ∈ [(0x00000001 : Word), 0x00000004, 0x00000008, 0x00000010, 0x00000020],
      ∃ t, s.raise (.debug c) = .next t ∧ DebugEntry s t c)) ∧
  (∀ (s : State) (va : Word) (n : BitVec 2) (store : Bool), s.dm = true →
    ∀ p ∈ [(Exc.tlbMod va, (1 : BitVec 5)), (.tlbRefill store va, if store then 3 else 2),
        (.tlbInvalid store va, if store then 3 else 2), (.addrError store va, if store then 5 else 4), (.ibe, 6), (.dbe, 7),
        (.sys, 8), (.bp, 9), (.ri, 10), (.cpu n, 11), (.ov, 12), (.tr, 13), (.fpe, 15), (.is1, 16), (.ceu, 17), (.c2e, 18),
        (.mcheck, 24), (.cacheError, 30), (.sdbbp, 9)],
      ∃ t, s.raise p.1 = .next t ∧ NestedEntry s t p.2) ∧
  (∀ s : State, ∃ t, s.takeNmi = .next t ∧ EntryFrame s t 0xBFC00000 ∧ t.llTouched = s.llTouched ∧
    t.cp0 = { s.cp0 with errorEPC := s.returnAddress, status := (s.cp0.status &&& 0xFF87FFFF) ||| 0x00480004 } ∧
    t.dbg = { s.dbg with dcr := s.dbg.dcr &&& 0xFFFFFFFB }) ∧
  (∀ s : State, s.dm = false → s.hazards = [] →
    ∃ t, s.raise .cacheError = .next t ∧
      EntryFrame s t (if s.bev then 0xBFC00300 else 0xA0000000 ||| (s.cp0.ebase &&& 0x1FFFF000) ||| 0x100) ∧
      t.cp0 = { s.cp0 with
        errorEPC := s.returnAddress, status := s.cp0.status ||| 4, cacheErr := t.cp0.cacheErr } ∧ t.dbg = s.dbg)

/-- R805, R807, R811 to R814: a pending, unmasked, enabled interrupt is taken by the next step, asleep or not, where no
debug condition, NMI or deferred imprecise exception comes first: at the general vector, at the special one, or with
`VS` set at the vector of the highest request or of the level the external controller presents. That `Cause[RIPL]` and
`SRSCtl[EICSS]` are captured from a controller also where the entry is not that of EIC mode is the model's choice
(log 34). -/
def Obligations.InterruptIsTaken : Prop :=
  ∀ s : State, s.env = [] → s.hazards = [] → s.dm = false → s.sst = false → s.dintPending = false →
    s.dbg.pendBreaks = [] → (s.dcrNmip && s.dcrNmie) = false → s.cacheEP = false → s.dbusEP = false →
    s.dcrInte = true →
    s.ie = true → s.exl = false → s.erl = false →
    let spacing := (s.cp0.intCtl.extractLsb' 5 5).toNat
    let taken := fun (set : BitVec 4) (off : Word) => ∃ t, step s = .next t ∧
      t.pc = (if s.bev then 0xBFC00200 + off else (s.cp0.ebase &&& 0xFFFFF000) ||| off) ∧ t.npc = t.pc + 4 ∧
      t.slot = .none ∧ t.sleeping = false ∧ t.cp0.epc = s.returnAddress ∧ t.cp0.cause.extractLsb' 2 5 = 0 ∧
      t.cp0.cause.getLsbD 31 = decide (s.slot ≠ .none) ∧ t.cp0.status = s.cp0.status ||| 2 ∧ t.gpr = s.gpr ∧
      t.fpr = s.fpr ∧ t.tlb = s.tlb ∧ GatherWritten s t ∧
      (if s.cfg.numShadowSets > 1 ∧ s.bev = false then t.css = set ∧ t.pss = s.css else t.css = s.css ∧ t.pss = s.pss) ∧
      (s.cfg.eicPresent = true → t.cp0.cause.extractLsb' 10 6 = s.inputs.eicRIPL ∧
        t.cp0.srsCtl.extractLsb' 18 4 = s.inputs.eicSS)
    let pending := if s.cfg.eicPresent then s.ipl.toNat < s.inputs.eicRIPL.toNat else s.ip &&& s.im ≠ 0
    (pending → s.setOk s.ess →
      (s.iv = false → taken s.ess 0x180) ∧ (s.iv = true → s.bev = true ∨ spacing = 0 → taken s.ess 0x200)) ∧
    (s.iv = true → s.bev = false → spacing ∈ [1, 2, 4, 8, 16] →
      (∀ n : Nat, n < 8 → s.cfg.eicPresent = false → (s.ip &&& s.im).getLsbD n = true →
        (∀ m, n < m → m < 8 → (s.ip &&& s.im).getLsbD m = false) → s.setOk (s.cp0.srsMap.extractLsb' (4 * n) 4) →
        taken (s.cp0.srsMap.extractLsb' (4 * n) 4) (BitVec.ofNat 32 (0x200 + n * (spacing * 32)))) ∧
      (s.cfg.eicPresent = true → s.ipl.toNat < s.inputs.eicRIPL.toNat → s.setOk s.inputs.eicSS →
        taken s.inputs.eicSS (BitVec.ofNat 32 (0x200 + s.inputs.eicRIPL.toNat * (spacing * 32)))))

/-! ## System instructions (44_system.md) -/

/-- R575, R576, R825, R887: the returns. A deferred bus error no longer waits for a handler after one (R886; log 50). An
odd return address would enter the compressed instruction set and is refused (R470). -/
def Obligations.Returns : Prop :=
  (∀ s : State, s.cp0Usable → s.slot = .none → s.hazards = [] →
    let back := fun (t : State) (target : Word) => t.pc = target ∧ t.npc = target + 4 ∧
      t = { s with pc := t.pc, npc := t.npc, llBit := false, dbeHeld := false, cp0 := t.cp0 }
    (s.erl = true →
      (s.cp0.errorEPC.getLsbD 0 = false → ∃ t, exec .eret s = .next t ∧ back t s.cp0.errorEPC ∧
        t.cp0 = { s.cp0 with status := s.cp0.status &&& 0xFFFFFFFB }) ∧
      (s.cp0.errorEPC.getLsbD 0 = true → exec .eret s = .refused .mips16)) ∧
    (s.erl = false → s.setOk s.pss →
      (s.cp0.epc.getLsbD 0 = false → ∃ t, exec .eret s = .next t ∧ back t s.cp0.epc ∧
        t.cp0 = { s.cp0 with status := s.cp0.status &&& 0xFFFFFFFD, srsCtl := t.cp0.srsCtl } ∧
        t.cp0.srsCtl &&& 0xFFFFFFF0 = s.cp0.srsCtl &&& 0xFFFFFFF0 ∧
        t.css = (if s.cfg.numShadowSets > 1 ∧ s.bev = false then s.pss else s.css)) ∧
      (s.cp0.epc.getLsbD 0 = true → exec .eret s = .refused .mips16)) ∧
    (s.dm = false → exec .deret s = s.raise .ri) ∧
    (s.dm = true →
      (s.cp0.depc.getLsbD 0 = false → ∃ t, exec .deret s = .next t ∧ t.pc = s.cp0.depc ∧ t.npc = s.cp0.depc + 4 ∧
        t = { s with
          pc := t.pc, npc := t.npc, dbeHeld := false, cp0 := { s.cp0 with debug := s.cp0.debug &&& 0xBFEFFFFF },
          dbg := { s.dbg with stepCount := 0 } }) ∧
      (s.cp0.depc.getLsbD 0 = true → exec .deret s = .refused .mips16))) ∧
  (∀ s t : State, exec .eret s = .next t ∨ exec .deret s = .next t → t.hazards = [])

/-- R36, R452, R577, R589 to R591, R972, R973: the no-operations (in the delay slot of a jump control goes to the target
the jump left, and after a hazard barrier jump no hazard is pending), the execution hazard barrier, and `wait`: the core
sleeps unless something wakes it at once (an unmasked request, in EIC mode the level of the controller, an NMI, a debug
interrupt outside debug mode), and asleep a step changes nothing but the draw number and the pending hazards (the model's
own bookkeeping, log 8, 9). That with a controller fitted both the level and the unmasked software requests wake the core
in compatibility mode, that an NMI held back wakes it and that a debug interrupt in debug mode does not are the model's
choices (log 34, 47). -/
def Obligations.NopsBarrierAndWait : Prop :=
  let compat := fun (s : State) => s.bev = true ∨ s.iv = false ∨ s.cp0.intCtl.extractLsb' 5 5 = 0
  let requested := fun (s : State) =>
    if s.cfg.eicPresent then s.inputs.eicRIPL ≠ 0 ∨ (compat s ∧ s.ip &&& s.im &&& 3 ≠ 0) else s.ip &&& s.im ≠ 0
  (∀ (s : State) (hb : Bool), s.slot = .jump hb →
    ∃ t, exec .nop s = .next t ∧ t.pc = s.npc ∧ t.npc = s.npc + 4 ∧ t.slot = .none ∧
      t.hazards = (if hb then [] else s.hazards)) ∧
  (∀ s : State, s.canAdvance →
    (∃ t, exec .nop s = .next t ∧ NoResult s t) ∧ (∃ t, exec .ssnop s = .next t ∧ NoResult s t) ∧
    (∃ t, exec .ehb s = .next t ∧ Went s t ∧ (∀ h ∈ t.hazards, h.exec = false) ∧
      (s.slot ≠ .jump true → t.hazards.map Hazard.old = s.hazards.map Hazard.old ∧
        t.hazards.map Hazard.fetch = s.hazards.map Hazard.fetch) ∧
      t = { s with pc := t.pc, npc := t.npc, slot := t.slot, hazards := t.hazards }) ∧
    (s.cp0Usable → ∃ t, exec .wait s = .next t ∧ NoResult { s with sleeping := t.sleeping } t ∧
      (requested s → t.sleeping = false) ∧
      (s.dcrNmip = true → t.sleeping = false) ∧ (s.dm = false → s.dintPending = true → t.sleeping = false) ∧
      (¬ requested s → s.dcrNmip = false → (s.dm = true ∨ s.dintPending = false) → t.sleeping = true))) ∧
  (∀ s : State, applyEvent .wake s = { s with sleeping := false }) ∧
  (∀ s : State, s.env = [] → s.sleeping = true → s.wakes = false →
    ∃ t, step s = .next t ∧ t = { s with freeCtr := t.freeCtr, hazards := t.hazards })

/-- R82, R93, R97, R150, R578 to R581: `mfc0` reads the stored word of the register with the bits its configuration fixes
(`Random`, `Cause` by what R84 and R105 to R108 say, `CacheErr` any value), a pair that names none and a register the
core does not have read 0; `mtc0` writes exactly the writable bits of the register it names (R83 to R149: of the others
those that a 0 or a 1 clears take part in that, the rest keep their value) and no other register but `Cause[TI]` where it
is `Compare` and `Random` where it is `Wired`; the consumers R974 pairs with it may see those bits old, and no others;
a register the core does not have ignores it; `di` and `ei` answer the old `Status` and write `IE`, which only an
interrupt may see late (R974). The bits of `TagLo` that R142 and R143 mark `x` and give no access (11:10 in the mask of
`cp0Fields`, and in way-select mode 31:24, 7:5 and 0) are written bits by the model's choice and by no rule (log 55). -/
def Obligations.Cp0Moves : Prop :=
  ∀ (rt rd : Reg) (sel : BitVec 3) (s : State), s.canAdvance → s.cp0Usable → s.hazards = [] →
    let x := s.readGpr rt
    let only := fun (t : State) =>
      t = { s with cp0 := t.cp0, pc := t.pc, npc := t.npc, slot := t.slot, hazards := t.hazards } ∧ Went s t
    (∃ t v, exec (.mfc0 rt rd sel) s = .next t ∧ GprResult s t rt v ∧
      (cpRegOf rd sel = none → v = 0) ∧ (∀ r, cpRegOf rd sel = some r → cpPresent s.cfg r = false → v = 0) ∧
      (∀ r, cpRegOf rd sel = some r → cpPresent s.cfg r = true → r ≠ .random → r ≠ .cause → r ≠ .cacheErr →
        v = s.cp0.get r ||| cpConst s.cfg r) ∧
      (rd = 8 → sel = 0 → v = s.cp0.badVAddr) ∧ (rd = 9 → sel = 0 → v = s.cp0.count) ∧
      (rd = 11 → sel = 0 → v = s.cp0.compare) ∧ (rd = 12 → sel = 0 → v = s.cp0.status) ∧
      (rd = 14 → sel = 0 → v = s.cp0.epc) ∧ (rd = 30 → sel = 0 → v = s.cp0.errorEPC) ∧
      (rd = 15 → sel = 0 → v.extractLsb' 8 8 = 0x93) ∧
      (rd = 15 → sel = 1 → v = s.cp0.ebase ||| 0x80000000 ||| s.cfg.cpuNum.setWidth 32) ∧
      (rd = 13 → sel = 0 → s.cfg.eicPresent = false →
        v.extractLsb' 8 8 = (s.ip &&& 0xFC) ||| (s.cp0.cause.extractLsb' 8 2).setWidth 8) ∧
      (rd = 13 → sel = 0 → v &&& 0xFBFF03FF = s.cp0.cause &&& 0xFBFF03FF ∧ v.getLsbD 26 = s.pciPending ∧
        (s.cfg.eicPresent = true → v.extractLsb' 10 6 = s.cp0.cause.extractLsb' 10 6)) ∧
      (rd = 1 → sel = 0 → s.cfg.mmu = .tlb → s.cp0.wired.toNat % 64 < s.cfg.tlbEntries → s.cfg.tlbEntries ≤ 64 →
        s.cp0.wired.toNat % 64 ≤ v.toNat ∧ v.toNat < s.cfg.tlbEntries)) ∧
    (cpRegOf rd sel = none → ∃ t, exec (.mtc0 rt rd sel) s = .next t ∧ NoResult s t) ∧
    (∀ r, cpRegOf rd sel = some r → cpPresent s.cfg r = false → ∃ t, exec (.mtc0 rt rd sel) s = .next t ∧ NoResult s t) ∧
    (∀ r, cpRegOf rd sel = some r → cpPresent s.cfg r = true → s.cpWriteRefused r x = none →
      ∃ t m, (rd, sel, m) ∈ cp0Fields s.cfg ∧ exec (.mtc0 rt rd sel) s = .next t ∧ only t ∧
        t.cp0.get r = (x &&& m) ||| (s.cp0.get r &&& ~~~m &&& ~~~(cp0ClearedByZero rd sel &&& ~~~x) &&&
          ~~~(cp0ClearedByOne rd &&& x)) ∧
        (∀ q, q ≠ r → q ≠ .cause → q ≠ .random → t.cp0.get q = s.cp0.get q) ∧
        (r ≠ .cause → t.cp0.cause = if r = .compare then s.cp0.cause &&& 0xBFFFFFFF else s.cp0.cause) ∧
        (r ≠ .random → t.cp0.random =
          if r = .wired then BitVec.ofNat 32 (s.cfg.tlbEntries - 1) else s.cp0.random) ∧
        Mtc0Hazard s t r rd sel (m ||| (cp0ClearedByZero rd sel &&& ~~~x) ||| (cp0ClearedByOne rd &&& x)) ∧
        (r = .status → t.cp0.status &&& 0x80280000 = s.cp0.status &&& x &&& 0x00280000 ||| (s.cp0.status &&& 0x80000000))) ∧
    (∃ t, exec (.di rt) s = .next t ∧ t.readGpr rt = (if rt = 0 then 0 else s.cp0.status) ∧ OtherGprsKept s t rt ∧
      t.cp0 = { s.cp0 with status := s.cp0.status &&& 0xFFFFFFFE } ∧ Went s t ∧ MemoryKept s t ∧
      (∀ c : Consumer, c ≠ .interrupt → t.view c = t) ∧
      t = { s with gpr := t.gpr, cp0 := t.cp0, pc := t.pc, npc := t.npc, slot := t.slot, hazards := t.hazards }) ∧
    (∃ t, exec (.ei rt) s = .next t ∧ t.readGpr rt = (if rt = 0 then 0 else s.cp0.status) ∧ OtherGprsKept s t rt ∧
      t.cp0 = { s.cp0 with status := s.cp0.status ||| 0x00000001 } ∧ Went s t ∧ MemoryKept s t ∧
      (∀ c : Consumer, c ≠ .interrupt → t.view c = t) ∧
      t = { s with gpr := t.gpr, cp0 := t.cp0, pc := t.pc, npc := t.npc, slot := t.slot, hazards := t.hazards })

/-- R582 to R584, R593: the moves from and to the previous register set, and the hardware registers. That `rdhwr` of user
or supervisor code with `Status[CU0] = 1` reads a register whose bit of `HWREna` is 0 is the model's choice, of R584 over
the table of R782, which names the bit alone (log 48). -/
def Obligations.ShadowAndHardwareMoves : Prop :=
  ∀ (rt rd : Reg) (s : State), s.canAdvance → s.hazards = [] →
    let prev : BitVec 4 := if s.cfg.numShadowSets ≤ 1 then 0 else s.pss
    (s.cp0Usable →
      (s.cfg.numShadowSets ≤ 1 ∨ s.pss.toNat < s.cfg.numShadowSets →
        (∃ t, exec (.rdpgpr rt rd) s = .next t ∧ GprResult s t rd (s.readSet prev rt)) ∧
        (∃ t, exec (.wrpgpr rt rd) s = .next t ∧ t.readSet prev rd = (if rd = 0 then 0 else s.readGpr rt) ∧
          (∀ (set : BitVec 4) (q : Reg), ¬(set = prev ∧ q = rd) → t.readSet set q = s.readSet set q) ∧
          MemoryKept s t ∧ OnlyGprChanged s t ∧ Moved s t)) ∧
      (1 < s.cfg.numShadowSets → s.cfg.numShadowSets ≤ s.pss.toNat →
        exec (.rdpgpr rt rd) s = .refused .shadowSetRange ∧ exec (.wrpgpr rt rd) s = .refused .shadowSetRange)) ∧
    let i := lineBytes s.cfg false
    let d := lineBytes s.cfg true
    let step1 : Word := if i = 0 ∧ d = 0 then s.cfg.synciStep
      else BitVec.ofNat 32 (if i = 0 then d else if d = 0 then i else min i d)
    (∀ v : Word,
      (rd = 0 ∧ v = s.cfg.cpuNum.setWidth 32) ∨ (rd = 1 ∧ v = step1) ∨ (rd = 2 ∧ v = s.cp0.count) ∨
        (rd = 3 ∧ v = s.cfg.ccRes) →
      (s.cp0Usable = true ∨ s.cp0.hwrena.getLsbD rd.toNat = true →
        ∃ t, exec (.rdhwr rt rd) s = .next t ∧ GprResult s t rt v) ∧
      (s.cp0Usable = false → s.cp0.hwrena.getLsbD rd.toNat = false → exec (.rdhwr rt rd) s = s.raise .ri)) ∧
    (3 < rd.toNat → exec (.rdhwr rt rd) s = s.raise .ri)

/-- R217, R585 to R588: the TLB instructions on a TLB core; a fixed-mapping core reserves them. What `tlbr` and `tlbp` wrote
only a `mfc0` may see late (R974). That the Machine Check of a duplicate sets `Status[TS]` in debug mode too is the
model's choice (log 42). -/
def Obligations.TlbInstructions : Prop :=
  ∀ s : State, s.cp0Usable → s.hazards = [] →
    (s.cfg.mmu = .fmt → ∀ i ∈ [Instr.tlbr, .tlbwi, .tlbwr, .tlbp], exec i s = s.raise .ri) ∧
    (s.canAdvance → s.cfg.mmu = .tlb → s.cfg.tlbEntries ≤ 64 →
      let written := fun (t : State) (i : Fin 64) => t.tlb.get i = s.cp0.staged ∧
        (∀ j, j ≠ i → t.tlb.get j = s.tlb.get j) ∧ Went s t ∧
        t = { s with tlb := t.tlb, pc := t.pc, npc := t.npc, slot := t.slot, hazards := t.hazards }
      let read := fun (t : State) => Went s t ∧ (∀ c : Consumer, c ≠ .readReg → t.view c = t) ∧
        t = { s with cp0 := t.cp0, pc := t.pc, npc := t.npc, slot := t.slot, hazards := t.hazards }
      (∀ i : Fin 64, (s.cp0.index &&& indexMask s.cfg.tlbEntries).toNat = i.val → i.val < s.cfg.tlbEntries →
        let e := s.tlb.get i
        (∃ t, exec .tlbr s = .next t ∧ read t ∧ t.cp0 = { s.cp0 with
          pageMask := 0#3 ++ e.mask ++ 0#13
          entryHi := e.vpn2 ++ 0#5 ++ e.asid
          entryLo0 := 0#6 ++ e.page0.pfn ++ e.page0.c ++ BitVec.ofBool e.page0.d ++ BitVec.ofBool e.page0.v ++
            BitVec.ofBool e.g
          entryLo1 := 0#6 ++ e.page1.pfn ++ e.page1.c ++ BitVec.ofBool e.page1.d ++ BitVec.ofBool e.page1.v ++
            BitVec.ofBool e.g }) ∧
        (s.cp0.staged.maskLegal → ¬s.duplicates s.cp0.staged i → ∃ t, exec .tlbwi s = .next t ∧ written t i) ∧
        (s.cp0.staged.maskLegal → s.duplicates s.cp0.staged i →
          exec .tlbwi s = State.raise { s with cp0 := { s.cp0 with status := s.cp0.status ||| 0x00200000 } } .mcheck)) ∧
      (s.cp0.wired.toNat % 64 < s.cfg.tlbEntries → s.cp0.staged.maskLegal →
        (∀ i : Fin 64, ¬s.duplicates s.cp0.staged i) →
        ∃ t i, exec .tlbwr s = .next t ∧ written t i ∧ s.cp0.wired.toNat % 64 ≤ i.val ∧ i.val < s.cfg.tlbEntries) ∧
      (∀ i, s.onlyMatch i (s.cp0.entryHi.extractLsb' 13 19) →
        ∃ t, exec .tlbp s = .next t ∧ read t ∧ t.cp0 = { s.cp0 with index := BitVec.ofNat 32 i.val }) ∧
      (s.noMatch (s.cp0.entryHi.extractLsb' 13 19) →
        ∃ t, exec .tlbp s = .next t ∧ read t ∧ t.cp0.index.getLsbD 31 = true ∧
          t.cp0 = { s.cp0 with index := t.cp0.index }))

/-! ## Address translation (20_memory.md) -/

/-- R200, R202, R204, R205, R212, R213: the unmapped segments, the segments a mode may not touch, fixed mapping, and the TLB:
refill, invalid, modified, and the physical address of a page that is there. R236, R237, R500, R519, R520, R787, R788:
each load and store, `synci`, `cache` and the fetch raise the exception their translation answers, where the address is
aligned and no break or watch comes first; a fetch at an address that is no multiple of four raises Address Error. Where
the translation answers a physical address the integer loads and stores read and write there, uncached or in a D-cache
line that is present, and the fetch takes the word there. -/
def Obligations.AddressTranslation : Prop :=
  (∀ (s : State) (k : AccKind) (va : Word), s.hazards = [] →
    let top := va.extractLsb' 29 3
    (s.mode? = some .user → va.getLsbD 31 = true → s.translate k va = .exc (.addrError k.isStore va) s) ∧
    (s.mode? = some .supervisor → va.getLsbD 31 = true → top ≠ 6 → s.translate k va = .exc (.addrError k.isStore va) s) ∧
    (s.mode? = some .kernel ∨ s.mode? = some .debug →
      (top = 4 → s.translate k va = .ok (va &&& 0x1FFFFFFF, s.cp0.config.extractLsb' 0 3) s) ∧
      (top = 5 → s.translate k va = .ok (va &&& 0x1FFFFFFF, 2) s) ∧
      (va.getLsbD 31 = false → s.erl = true → s.translate k va = .ok (va, 2) s)) ∧
    (s.mode? ≠ none → (va.getLsbD 31 = false ∧ s.erl = false) ∨
        ((top = 6 ∨ top = 7) ∧ (s.mode? = some .kernel ∨ s.mode? = some .debug)) ∨
        (top = 6 ∧ s.mode? = some .supervisor) →
      (s.cfg.mmu = .fmt → s.translate k va =
        if va.getLsbD 31 then .ok (va, s.cp0.config.extractLsb' 28 3) s
        else .ok (va + 0x40000000, s.cp0.config.extractLsb' 25 3) s) ∧
      (s.cfg.mmu = .tlb →
        (s.noMatch (va.extractLsb' 13 19) → s.translate k va = .exc (.tlbRefill k.isStore va) s) ∧
        (∀ (i : Fin 64) (n : Nat), n ≤ 8 → (s.tlb.get i).mask = BitVec.ofNat 16 (4 ^ n - 1) →
          s.onlyMatch i (va.extractLsb' 13 19) →
          let p := if va.getLsbD (12 + 2 * n) then (s.tlb.get i).page1 else (s.tlb.get i).page0
          (p.v = false → s.translate k va = .exc (.tlbInvalid k.isStore va) s) ∧
          (p.v = true → p.d = false → k = .store → s.translate k va = .exc (.tlbMod va) s) ∧
          (p.v = true → p.d = true ∨ k ≠ .store →
            ∃ pa, s.translate k va = .ok (pa, p.c) s ∧
              ∀ j, j < 32 → pa.getLsbD j = if j < 12 + 2 * n then va.getLsbD j else p.pfn.getLsbD (j - 12)))))) ∧
  (∀ (base index rt : Reg) (off : BitVec 16) (s u : State) (e : Exc), s.hazards = [] →
    let va := s.readGpr base + off.signExtend 32
    (s.noDataTraps false → ∀ p ∈ s.loads base index rt off, p.2.1.toNat % p.2.2 = 0 → s.outsideDseg p.2.1 →
      s.translate .load p.2.1 = .exc e u → exec p.1 s = u.raise e) ∧
    (s.noDataTraps true → ∀ p ∈ s.stores base index rt off, p.2.1.toNat % p.2.2 = 0 → s.outsideDseg p.2.1 →
      s.translate .store p.2.1 = .exc e u → exec p.1 s = u.raise e) ∧
    (s.outsideDseg va → s.translate .load va = .exc e u → exec (.synci base off) s = u.raise e ∧
      (s.cp0Usable → cacheNoOp rt = false → exec (.cache base rt off) s = u.raise e))) ∧
  (∀ (base rt : Reg) (off : BitVec 16) (s : State) (pa : Word), s.canAdvance →
    let va := s.readGpr base + off.signExtend 32
    let x := (s.readGpr rt).toNat
    (∀ p ∈ [(Instr.lb base rt off, 1, fun m => (BitVec.ofNat 8 m).signExtend 32), (.lbu base rt off, 1, BitVec.ofNat 32),
        (.lh base rt off, 2, fun m => (BitVec.ofNat 16 m).signExtend 32), (.lhu base rt off, 2, BitVec.ofNat 32),
        (.lw base rt off, 4, BitVec.ofNat 32)],
      (MappedAccess s .load va pa 2 p.2.1 → s.inputs.failData = false →
        ∃ t, exec p.1 s = .next t ∧ LoadResult s t rt (p.2.2 (s.memNat pa p.2.1))) ∧
      (∀ slot, MappedAccess s .load va pa 3 p.2.1 → lineBytes s.cfg true ≠ 0 →
        s.dcache.lookup s.cfg true va pa = some slot →
        ∃ t, exec p.1 s = .next t ∧ LoadResult (s.lineUsed slot) t rt (p.2.2 (s.lineNat slot pa p.2.1)))) ∧
    (∀ p ∈ [(Instr.sb base rt off, 1), (.sh base rt off, 2), (.sw base rt off, 4)],
      let bs := natToBytes s.bigData p.2 x
      (MappedAccess s .store va pa 2 p.2 → ∃ t, exec p.1 s = .next t ∧ StoreResult s t pa bs) ∧
      (∀ slot, MappedAccess s .store va pa 3 p.2 → lineBytes s.cfg true ≠ 0 →
        s.dcache.lookup s.cfg true va pa = some slot →
        ∃ t, exec p.1 s = .next t ∧ NoResult (s.lineWritten slot pa bs) t))) ∧
  (∀ (s u : State) (e : Exc) (pa : Word), s.hazards = [] → s.noFetchTraps →
    (s.pc.toNat % 4 ≠ 0 → s.runNext = s.raise (.addrError false s.pc)) ∧
    (s.pc.toNat % 4 = 0 → s.outsideDseg s.pc →
      (s.translate .fetch s.pc = .exc e u → s.runNext = u.raise e) ∧
      (s.translate .fetch s.pc = .ok (pa, 2) s → s.pendCacheErr = false → s.inputs.failFetch = false →
        s.plainCode pa → s.runNext = s.runWord (s.codeWord pa))))

/-! ## Floating point (45_fpu.md) -/

/-- R630 to R635: the moves between the register files and the FP control registers, whose views R53 to R55 give. An
`ctc1` that leaves an enabled cause raises Floating Point with the register written (R57), whichever register it names
(R634, R794). That one to `FIR`, which changes no register, raises it too is the model's choice, of the pseudocode of
R634 over the 'no effect' of R52 (log 56). -/
def Obligations.FpTransfers : Prop :=
  ∀ (rt fs : Reg) (s : State), s.fpReady →
    let x := s.readGpr rt
    let odd : Reg := fs ||| 1
    let reg := fun (q : Reg) => s.fpr.get q.toFin
    let control := fun (n : Reg) (f : Word) =>
      let stops := f.getLsbD 17 = true ∨ f.extractLsb' 12 5 &&& f.extractLsb' 7 5 ≠ 0
      (stops → exec (.ctc1 rt n) s = State.raise { s with fcsr := f } .fpe) ∧
      (¬stops → ∃ t, exec (.ctc1 rt n) s = .next t ∧ NoResult { s with fcsr := f } t)
    (∃ t, exec (.mfc1 rt fs) s = .next t ∧ GprResult s t rt ((reg fs).extractLsb' 0 32)) ∧
    (∃ t, exec (.mtc1 rt fs) s = .next t ∧ FprResult s t .single fs (x.setWidth 64) s.fcsr ∧
      (s.fr = false → (t.fpr.get fs.toFin).extractLsb' 32 32 = (reg fs).extractLsb' 32 32)) ∧
    (s.fr = true →
      (∃ t, exec (.mfhc1 rt fs) s = .next t ∧ GprResult s t rt ((reg fs).extractLsb' 32 32)) ∧
      (∃ t, exec (.mthc1 rt fs) s = .next t ∧
        FprResult s t .double fs (x ++ (reg fs).extractLsb' 0 32) s.fcsr)) ∧
    (s.fr = false → fs.getLsbD 0 = false →
      (∃ t, exec (.mfhc1 rt fs) s = .next t ∧ GprResult s t rt ((reg odd).extractLsb' 0 32)) ∧
      (∃ t, exec (.mthc1 rt fs) s = .next t ∧
        FprResult s t .double fs (x ++ (reg fs).extractLsb' 0 32) s.fcsr)) ∧
    (∀ (n : Reg) (v : Word),
      (n = 25 ∧ v = 0#24 ++ s.fcsr.extractLsb' 25 7 ++ s.fcsr.extractLsb' 23 1) ∨ (n = 26 ∧ v = s.fcsr &&& 0x0003F07C) ∨
        (n = 28 ∧ v = (s.fcsr &&& 0x00000F83) ||| (s.fcsr.extractLsb' 24 1).setWidth 32 <<< 2) ∨ (n = 31 ∧ v = s.fcsr) ∨
        (n = 0 ∧ v = 0x01739300 ||| s.cfg.firRevision.setWidth 32) →
      ∃ t, exec (.cfc1 rt n) s = .next t ∧ GprResult s t rt v) ∧
    control 0 s.fcsr ∧
    control 25 ((s.fcsr &&& 0x017FFFFF) ||| (x.extractLsb' 1 7 ++ 0#1 ++ x.extractLsb' 0 1 ++ 0#23)) ∧
    control 26 ((s.fcsr &&& 0xFFFC0F83) ||| (x &&& 0x0003F07C)) ∧
    control 28 ((s.fcsr &&& 0xFEFFF07C) ||| (x &&& 0x00000F83) ||| (x.extractLsb' 2 1).setWidth 32 <<< 24) ∧
    control 31 (x &&& 0xFFE3FFFF) ∧
    (∀ n : Reg, n ∉ [(0 : Reg), 25, 26, 28, 31] →
      exec (.cfc1 rt n) s = .refused .fpControlNumber ∧ exec (.ctc1 rt n) s = .refused .fpControlNumber)

/-- R652, R655 to R657: the moves between FP registers copy the bits of the format, the conditional ones where their
condition holds; no condition flag changes. -/
def Obligations.FpMoves : Prop :=
  ∀ (fs fd rt : Reg) (cc : BitVec 3) (s : State), s.fpReady →
    let low : DWord := (s.readFprW fs).setWidth 64
    let moves := fun (i : Instr) (f : FpFmt) (v : DWord) (go : Bool) =>
      ∃ t, exec i s = .next t ∧ (if go then FprResult s t f fd v s.fcsr else NoResult s t)
    moves (.mov_s fs fd) .single low true ∧
    moves (.movf_s cc fs fd) .single low (s.fcc cc = false) ∧ moves (.movt_s cc fs fd) .single low (s.fcc cc = true) ∧
    moves (.movz_s rt fs fd) .single low (s.readGpr rt = 0) ∧ moves (.movn_s rt fs fd) .single low (s.readGpr rt ≠ 0) ∧
    (s.fr = true ∨ (fs.getLsbD 0 = false ∧ fd.getLsbD 0 = false) →
      let v := s.readFprD fs
      moves (.mov_d fs fd) .double v true ∧
      moves (.movf_d cc fs fd) .double v (s.fcc cc = false) ∧ moves (.movt_d cc fs fd) .double v (s.fcc cc = true) ∧
      moves (.movz_d rt fs fd) .double v (s.readGpr rt = 0) ∧ moves (.movn_d rt fs fd) .double v (s.readGpr rt ≠ 0))

/-- R623, R624, R627, R647 to R651, R653, R654, R658, R659, R661 to R664: with tiny numbers flushed and no condition enabled
every arithmetic instruction completes on every operand, with the operation's result and conditions; no register but
the destination changes. Where the rules leave a result open the operation's value is free, and a product inside a
multiply-add is rounded as the model chose (log 26, 27).
The values of the sign operations and of the approximations, for every environment and operand, tiny numbers flushed or
not: `abs` and `neg` set or invert the sign bit of anything but a NaN; a signalling NaN gives the default quiet NaN and
Invalid, a quiet one itself or, of the approximations, the default; `recip` of a number lies within one unit in the last
place of `1/q` where that is twice the smallest normal number or more, `rsqrt` of a positive one within two units of
`1/sqrt q`, each Inexact exactly where it is not that number; zero gives a signed infinity and Divide by Zero, an infinity
gives zero, and a negative number has no root. -/
def Obligations.FpArithmeticCompletes : Prop :=
  (∀ f ∈ [FpFmt.single, .double], ∀ (e : FpEnv) (a : DWord),
    let q := (f.value a).rat
    f.qnan = (if f.is64 then 0x7FF7FFFFFFFFFFFF else 0x7FBFFFFF) ∧
    (f.isNan a = false → ∀ g ∈ [(fun _ => false), not], ∃ w, fpSign f g a = .val w .none ∧
      f.signOf w = g (f.signOf a) ∧ f.expOf w = f.expOf a ∧ f.fracOf w = f.fracOf a) ∧
    (f.isSnan a = true → (∀ g, fpSign f g a = .val f.qnan .invalid) ∧
      ∀ op ∈ [fpSqrt, fpRecip, fpRsqrt], op f e a = .val f.qnan .invalid) ∧
    (f.isNan a = true → f.isSnan a = false → (∀ g, fpSign f g a = .val a .none) ∧
      ∀ op ∈ [fpSqrt, fpRecip, fpRsqrt], ∃ w ∈ [a, f.qnan], op f e a = .val w .none) ∧
    (∀ sign, f.value a = .inf sign → fpRecip f e a = .val (f.zero sign) .none ∧
      fpRsqrt f e a = if sign then .val f.qnan .invalid else .val (f.zero false) .none) ∧
    (∀ sign mant x, f.tiny a = false → f.value a = .fin sign mant x →
      (mant = 0 → fpRecip f e a = .val (f.inf sign) .divZero ∧ fpRsqrt f e a = .val (f.inf sign) .divZero) ∧
      (mant ≠ 0 → sign = true → fpRsqrt f e a = .val f.qnan .invalid) ∧
      (q ≠ 0 → |q| ≤ 2 ^ (f.bias - 2) → ∃ w m' x', f.value w = .fin sign m' x' ∧
        NearValue (f.frac + 1) 1 (f.value w).rat q⁻¹ ∧
        fpRecip f e a = .val w (.inexact (decide ((f.value w).rat ≠ q⁻¹)))) ∧
      (0 < q → ∃ w m' x', f.value w = .fin false m' x' ∧ NearRoot (f.frac + 1) 2 (f.value w).rat q⁻¹ ∧
        fpRsqrt f e a = .val w (.inexact (decide ((f.value w).rat ^ 2 ≠ q⁻¹)))))) ∧
  ∀ (fr fs ft fd : Reg) (s : State), s.fpReady → s.fpForgiving →
    let e := s.fpEnv
    let at1 := fun (f : FpFmt) (z x y : DWord) (add sub mul div sqrt recip rsqrt abs neg madd msub nmadd nmsub : Instr) =>
      FpCompletes add s f fd (fpAdd f false e x y) ∧ FpCompletes sub s f fd (fpAdd f true e x y) ∧
      FpCompletes mul s f fd (fpMul f e x y) ∧ FpCompletes div s f fd (fpDiv f e x y) ∧
      FpCompletes sqrt s f fd (fpSqrt f e x) ∧ FpCompletes recip s f fd (fpRecip f e x) ∧
      FpCompletes rsqrt s f fd (fpRsqrt f e x) ∧
      FpCompletes abs s f fd (fpSign f (fun _ => false) x) ∧ FpCompletes neg s f fd (fpSign f not x) ∧
      FpCompletes madd s f fd (fpMulAdd f false e z x y) ∧ FpCompletes msub s f fd (fpMulAdd f true e z x y) ∧
      FpCompletes nmadd s f fd ((fpMulAdd f false e z x y).negated f) ∧
      FpCompletes nmsub s f fd ((fpMulAdd f true e z x y).negated f)
    at1 .single (s.readFpr .single fr) (s.readFpr .single fs) (s.readFpr .single ft)
      (.add_s ft fs fd) (.sub_s ft fs fd) (.mul_s ft fs fd) (.div_s ft fs fd) (.sqrt_s fs fd) (.recip_s fs fd)
      (.rsqrt_s fs fd) (.abs_s fs fd) (.neg_s fs fd) (.madd_s fr ft fs fd) (.msub_s fr ft fs fd) (.nmadd_s fr ft fs fd)
      (.nmsub_s fr ft fs fd) ∧
    (s.fr = true ∨ (∀ q ∈ [fr, fs, ft, fd], q.getLsbD 0 = false) →
      at1 .double (s.readFprD fr) (s.readFprD fs) (s.readFprD ft)
        (.add_d ft fs fd) (.sub_d ft fs fd) (.mul_d ft fs fd) (.div_d ft fs fd) (.sqrt_d fs fd) (.recip_d fs fd)
        (.rsqrt_d fs fd) (.abs_d fs fd) (.neg_d fs fd) (.madd_d fr ft fs fd) (.msub_d fr ft fs fd) (.nmadd_d fr ft fs fd)
        (.nmsub_d fr ft fs fd))

/-- R622, R628, R666 to R677: with tiny numbers flushed and no condition enabled every conversion completes: to W under the
rounding mode the instruction names, to L and from L with 64-bit registers only (log 26, 27, 38 for what the rules
leave open).
The values, for every environment and operand: a finite number is rounded to an integer by the mode, Inexact where it
differs, and where the integer does not fit the format, or the operand is a NaN or an infinity, the largest integer
results and Invalid; an integer becomes the number it stands for, rounded; a number of the other format too, an infinity
stays one, a signalling NaN gives the default one and Invalid and a quiet NaN some quiet NaN. -/
def Obligations.FpConversionsComplete : Prop :=
  (∀ src ∈ [FpFmt.single, .double], ∀ (e : FpEnv) (a : DWord),
    let q := src.operandRat e a
    let dst := if src.is64 then FpFmt.single else .double
    (∀ sign mant x, src.value a = .fin sign mant x → ∀ rm : BitVec 2, ∃ v : Int, RoundsToInt rm q v ∧
      fpToInt src .word (fun _ => rm) e a =
        (if -2 ^ 31 ≤ v ∧ v ≤ 2 ^ 31 - 1 then .val ((BitVec.ofInt 32 v).setWidth 64) (.inexact (decide ((v : ℚ) ≠ q)))
        else .val 0x7FFFFFFF .invalid) ∧
      fpToInt src .long (fun _ => rm) e a =
        (if -2 ^ 63 ≤ v ∧ v ≤ 2 ^ 63 - 1 then .val (BitVec.ofInt 64 v) (.inexact (decide ((v : ℚ) ≠ q)))
        else .val 0x7FFFFFFFFFFFFFFF .invalid)) ∧
    ((∀ sign mant x, src.value a ≠ .fin sign mant x) → ∀ rm : BitVec 2,
      fpToInt src .word (fun _ => rm) e a = .val 0x7FFFFFFF .invalid ∧
      fpToInt src .long (fun _ => rm) e a = .val 0x7FFFFFFFFFFFFFFF .invalid) ∧
    ((src.isSnan a = true → fpToFp src dst e a = .val dst.qnan .invalid) ∧
      (src.isNan a = true → src.isSnan a = false →
        ∃ w, dst.isNan w = true ∧ dst.isSnan w = false ∧ fpToFp src dst e a = .val w .none) ∧
      (∀ sign, src.value a = .inf sign → fpToFp src dst e a = .val (dst.inf sign) .none) ∧
      (∀ sign mant x, src.value a = .fin sign mant x →
        (q = 0 → fpToFp src dst e a = .val (dst.zero sign) .none) ∧
        (q ≠ 0 → ∃ z : FpExact, z.Stands (dst.frac + 1) q ∧ fpToFp src dst e a = dst.roundExact e z)))) ∧
  (∀ dst ∈ [FpFmt.single, .double], ∀ (e : FpEnv) (a : DWord),
    ∀ p ∈ [(FpFmt.word, (a.setWidth 32).toInt), (.long, a.toInt)],
      (p.2 = 0 → fpOfInt p.1 dst e a = .val (dst.zero false) .none) ∧
      (p.2 ≠ 0 → ∃ z : FpExact, z.Stands (dst.frac + 1) (p.2 : ℚ) ∧ fpOfInt p.1 dst e a = dst.roundExact e z)) ∧
  ∀ (fs fd : Reg) (s : State), s.fpReady → s.fpForgiving →
    let e := s.fpEnv
    let w := s.readFpr .single fs
    let d := s.readFprD fs
    let even := fun (r : Reg) => s.fr = true ∨ r.getLsbD 0 = false
    (∀ p ∈ [(Instr.round_w_s fs fd, (0 : BitVec 2)), (.trunc_w_s fs fd, 1), (.ceil_w_s fs fd, 2), (.floor_w_s fs fd, 3),
        (.cvt_w_s fs fd, s.rm)],
      FpCompletes p.1 s .word fd (fpToInt .single .word (fun _ => p.2) e w)) ∧
    (even fs → ∀ p ∈ [(Instr.round_w_d fs fd, (0 : BitVec 2)), (.trunc_w_d fs fd, 1), (.ceil_w_d fs fd, 2),
        (.floor_w_d fs fd, 3), (.cvt_w_d fs fd, s.rm)],
      FpCompletes p.1 s .word fd (fpToInt .double .word (fun _ => p.2) e d)) ∧
    FpCompletes (.cvt_s_w fs fd) s .single fd (fpOfInt .word .single e w) ∧
    (even fd → FpCompletes (.cvt_d_w fs fd) s .double fd (fpOfInt .word .double e w)) ∧
    (even fd → FpCompletes (.cvt_d_s fs fd) s .double fd (fpToFp .single .double e w)) ∧
    (even fs → FpCompletes (.cvt_s_d fs fd) s .single fd (fpToFp .double .single e d)) ∧
    (s.fr = true →
      (∀ p ∈ [(Instr.round_l_s fs fd, (0 : BitVec 2)), (.trunc_l_s fs fd, 1), (.ceil_l_s fs fd, 2), (.floor_l_s fs fd, 3),
          (.cvt_l_s fs fd, s.rm)],
        FpCompletes p.1 s .long fd (fpToInt .single .long (fun _ => p.2) e w)) ∧
      (∀ p ∈ [(Instr.round_l_d fs fd, (0 : BitVec 2)), (.trunc_l_d fs fd, 1), (.ceil_l_d fs fd, 2), (.floor_l_d fs fd, 3),
          (.cvt_l_d fs fd, s.rm)],
        FpCompletes p.1 s .long fd (fpToInt .double .long (fun _ => p.2) e d)) ∧
      FpCompletes (.cvt_s_l fs fd) s .single fd (fpOfInt .long .single e d) ∧
      FpCompletes (.cvt_d_l fs fd) s .double fd (fpOfInt .long .double e d)) ∧
    (s.fr = false → ∀ i ∈ [Instr.round_l_s fs fd, .round_l_d fs fd, .trunc_l_s fs fd, .trunc_l_d fs fd, .ceil_l_s fs fd,
        .ceil_l_d fs fd, .floor_l_s fs fd, .floor_l_d fs fd, .cvt_l_s fs fd, .cvt_l_d fs fd, .cvt_s_l fs fd, .cvt_d_l fs fd],
      exec i s = .refused .fr0LongFormat)

/-- R660: the compares. A condition holds where the operands compare as one of its bits says (less, equal, unordered);
Invalid is met on a signalling NaN, and by the signalling conditions on any NaN. Only the condition code, `Cause` and
`Flags` change. Less and equal are those of the numbers, tiny ones too, with the infinities at the ends. -/
def Obligations.FpCompares : Prop :=
  (∀ a b : FpVal, (∀ g, a ≠ .nan g) → (∀ g, b ≠ .nan g) →
    ((compareVal a b).1 = true ↔ match a, b with
      | .inf sa, .inf sb => sa = true ∧ sb = false
      | .inf sa, _ => sa = true
      | _, .inf sb => sb = false
      | _, _ => a.rat < b.rat) ∧
    ((compareVal a b).2 = true ↔ match a, b with
      | .inf sa, .inf sb => sa = sb
      | .inf _, _ => False
      | _, .inf _ => False
      | _, _ => a.rat = b.rat)) ∧
  ∀ (fs ft : Reg) (cc : BitVec 3) (s : State), s.fpReady → s.fcsr.getLsbD 11 = false →
    let compares := fun (f : FpFmt) (x y : DWord) (p : BitVec 4 × Instr) =>
      let r := compareVal (f.value x) (f.value y)
      let un := f.isNan x || f.isNan y
      let invalid := f.isSnan x || f.isSnan y || (un && p.1.getLsbD 3)
      ∃ t, exec p.2 s = .next t ∧
        t.fcc cc = (if un then p.1.getLsbD 0 else (p.1.getLsbD 2 && r.1) || (p.1.getLsbD 1 && r.2)) ∧
        (∀ j, j ≠ fccPos cc → t.fcsr.getLsbD j =
          if j = 16 then invalid else if 12 ≤ j ∧ j ≤ 17 then false
          else if j = 6 then s.fcsr.getLsbD 6 || invalid else s.fcsr.getLsbD j) ∧
        MemoryKept s t ∧ Moved s t ∧
        t = { s with fcsr := t.fcsr, pc := t.pc, npc := t.npc, slot := t.slot, hazards := t.hazards }
    (∀ p ∈ [((0 : BitVec 4), Instr.c_f_s ft fs cc), (1, .c_un_s ft fs cc), (2, .c_eq_s ft fs cc), (3, .c_ueq_s ft fs cc),
        (4, .c_olt_s ft fs cc), (5, .c_ult_s ft fs cc), (6, .c_ole_s ft fs cc), (7, .c_ule_s ft fs cc),
        (8, .c_sf_s ft fs cc), (9, .c_ngle_s ft fs cc), (10, .c_seq_s ft fs cc), (11, .c_ngl_s ft fs cc),
        (12, .c_lt_s ft fs cc), (13, .c_nge_s ft fs cc), (14, .c_le_s ft fs cc), (15, .c_ngt_s ft fs cc)],
      compares .single (s.readFpr .single fs) (s.readFpr .single ft) p) ∧
    (s.fr = true ∨ (fs.getLsbD 0 = false ∧ ft.getLsbD 0 = false) →
      ∀ p ∈ [((0 : BitVec 4), Instr.c_f_d ft fs cc), (1, .c_un_d ft fs cc), (2, .c_eq_d ft fs cc), (3, .c_ueq_d ft fs cc),
          (4, .c_olt_d ft fs cc), (5, .c_ult_d ft fs cc), (6, .c_ole_d ft fs cc), (7, .c_ule_d ft fs cc),
          (8, .c_sf_d ft fs cc), (9, .c_ngle_d ft fs cc), (10, .c_seq_d ft fs cc), (11, .c_ngl_d ft fs cc),
          (12, .c_lt_d ft fs cc), (13, .c_nge_d ft fs cc), (14, .c_le_d ft fs cc), (15, .c_ngt_d ft fs cc)],
        compares .double (s.readFprD fs) (s.readFprD ft) p)

/-- R624, R626, R627: every arithmetic instruction, conversion and compare that meets an enabled condition (Invalid,
Divide by Zero, Overflow, Underflow, Inexact), or a tiny operand or result where tiny numbers are not flushed, raises
Floating Point with the conditions (or `E`) in `Cause`; the destination and `Flags` are as they were. Which conditions an
operation meets: a tiny operand not flushed, a signalling NaN, a zero divisor, the root of a negative number here; an
overflow, a tiny or an inexact result with the values in the statement of rounding. That a tiny operand comes before a NaN
is the model's choice (log 27). -/
def Obligations.FpExceptionKeepsDestination : Prop :=
  ∀ (fr fs ft fd : Reg) (cc : BitVec 3) (s : State), s.fpReady →
    let e := s.fpEnv
    let traps := fun (i : Instr) (cause : Word) =>
      exec i s = State.raise { s with fcsr := (s.fcsr &&& 0xFFFC0FFF) ||| cause } .fpe
    let at1 := fun (f : FpFmt) (z x y : DWord) (add sub mul div sqrt recip rsqrt abs neg madd msub nmadd nmsub : Instr) =>
      (FpTrapsOn add s (fpAdd f false e x y) ∧ FpTrapsOn sub s (fpAdd f true e x y) ∧
        FpTrapsOn mul s (fpMul f e x y) ∧ FpTrapsOn div s (fpDiv f e x y) ∧
        FpTrapsOn sqrt s (fpSqrt f e x) ∧ FpTrapsOn recip s (fpRecip f e x) ∧
        FpTrapsOn rsqrt s (fpRsqrt f e x) ∧
        FpTrapsOn abs s (fpSign f (fun _ => false) x) ∧ FpTrapsOn neg s (fpSign f not x) ∧
        FpTrapsOn madd s (fpMulAdd f false e z x y) ∧ FpTrapsOn msub s (fpMulAdd f true e z x y) ∧
        FpTrapsOn nmadd s ((fpMulAdd f false e z x y).negated f) ∧
        FpTrapsOn nmsub s ((fpMulAdd f true e z x y).negated f)) ∧
      ((f.tiny x ∨ f.tiny y) → s.fs = false → s.fo = false →
        ∀ i ∈ [add, sub, mul, div, madd, msub, nmadd, nmsub], traps i 0x00020000) ∧
      (f.tiny x → s.fs = false → s.fo = false → ∀ i ∈ [sqrt, recip, rsqrt], traps i 0x00020000) ∧
      (f.isSnan x = true ∨ f.isSnan y = true → f.tiny x = false → f.tiny y = false → s.fcsr.getLsbD 11 = true →
        ∀ i ∈ [add, sub, mul, div], traps i 0x00010000) ∧
      (f.isSnan x = true → s.fcsr.getLsbD 11 = true →
        ∀ i ∈ [sqrt, recip, rsqrt, abs, neg], traps i 0x00010000) ∧
      (∀ sx mx ex sy ey, f.tiny x = false → f.value x = .fin sx mx ex → mx ≠ 0 → f.value y = .fin sy 0 ey →
        s.fcsr.getLsbD 10 = true → traps div 0x00008000) ∧
      (∀ sx ex, f.value x = .fin sx 0 ex → s.fcsr.getLsbD 10 = true → ∀ i ∈ [recip, rsqrt], traps i 0x00008000) ∧
      (∀ mx ex, f.tiny x = false → f.value x = .fin true mx ex → mx ≠ 0 → s.fcsr.getLsbD 11 = true →
        ∀ i ∈ [sqrt, rsqrt], traps i 0x00010000)
    let w := s.readFpr .single fs
    let d := s.readFprD fs
    let even := fun (r : Reg) => s.fr = true ∨ r.getLsbD 0 = false
    let invalid := fun (f : FpFmt) (x y : DWord) (p : BitVec 4 × Instr) =>
      f.isSnan x || f.isSnan y || (f.isNan x || f.isNan y) && p.1.getLsbD 3 → s.fcsr.getLsbD 11 = true →
        traps p.2 0x00010000
    at1 .single (s.readFpr .single fr) (s.readFpr .single fs) (s.readFpr .single ft)
      (.add_s ft fs fd) (.sub_s ft fs fd) (.mul_s ft fs fd) (.div_s ft fs fd) (.sqrt_s fs fd) (.recip_s fs fd)
      (.rsqrt_s fs fd) (.abs_s fs fd) (.neg_s fs fd) (.madd_s fr ft fs fd) (.msub_s fr ft fs fd) (.nmadd_s fr ft fs fd)
      (.nmsub_s fr ft fs fd) ∧
    (s.fr = true ∨ (∀ q ∈ [fr, fs, ft, fd], q.getLsbD 0 = false) →
      at1 .double (s.readFprD fr) (s.readFprD fs) (s.readFprD ft)
        (.add_d ft fs fd) (.sub_d ft fs fd) (.mul_d ft fs fd) (.div_d ft fs fd) (.sqrt_d fs fd) (.recip_d fs fd)
        (.rsqrt_d fs fd) (.abs_d fs fd) (.neg_d fs fd) (.madd_d fr ft fs fd) (.msub_d fr ft fs fd) (.nmadd_d fr ft fs fd)
        (.nmsub_d fr ft fs fd)) ∧
    (∀ p ∈ [(Instr.round_w_s fs fd, (0 : BitVec 2)), (.trunc_w_s fs fd, 1), (.ceil_w_s fs fd, 2), (.floor_w_s fs fd, 3),
        (.cvt_w_s fs fd, s.rm)],
      FpTrapsOn p.1 s (fpToInt .single .word (fun _ => p.2) e w)) ∧
    (even fs → ∀ p ∈ [(Instr.round_w_d fs fd, (0 : BitVec 2)), (.trunc_w_d fs fd, 1), (.ceil_w_d fs fd, 2),
        (.floor_w_d fs fd, 3), (.cvt_w_d fs fd, s.rm)],
      FpTrapsOn p.1 s (fpToInt .double .word (fun _ => p.2) e d)) ∧
    FpTrapsOn (.cvt_s_w fs fd) s (fpOfInt .word .single e w) ∧
    (even fd → FpTrapsOn (.cvt_d_w fs fd) s (fpOfInt .word .double e w)) ∧
    (even fd → FpTrapsOn (.cvt_d_s fs fd) s (fpToFp .single .double e w)) ∧
    (even fs → FpTrapsOn (.cvt_s_d fs fd) s (fpToFp .double .single e d)) ∧
    (s.fr = true →
      (∀ p ∈ [(Instr.round_l_s fs fd, (0 : BitVec 2)), (.trunc_l_s fs fd, 1), (.ceil_l_s fs fd, 2), (.floor_l_s fs fd, 3),
          (.cvt_l_s fs fd, s.rm)],
        FpTrapsOn p.1 s (fpToInt .single .long (fun _ => p.2) e w)) ∧
      (∀ p ∈ [(Instr.round_l_d fs fd, (0 : BitVec 2)), (.trunc_l_d fs fd, 1), (.ceil_l_d fs fd, 2), (.floor_l_d fs fd, 3),
          (.cvt_l_d fs fd, s.rm)],
        FpTrapsOn p.1 s (fpToInt .double .long (fun _ => p.2) e d)) ∧
      FpTrapsOn (.cvt_s_l fs fd) s (fpOfInt .long .single e d) ∧
      FpTrapsOn (.cvt_d_l fs fd) s (fpOfInt .long .double e d)) ∧
    (∀ p ∈ [((0 : BitVec 4), Instr.c_f_s ft fs cc), (1, .c_un_s ft fs cc), (2, .c_eq_s ft fs cc), (3, .c_ueq_s ft fs cc),
        (4, .c_olt_s ft fs cc), (5, .c_ult_s ft fs cc), (6, .c_ole_s ft fs cc), (7, .c_ule_s ft fs cc),
        (8, .c_sf_s ft fs cc), (9, .c_ngle_s ft fs cc), (10, .c_seq_s ft fs cc), (11, .c_ngl_s ft fs cc),
        (12, .c_lt_s ft fs cc), (13, .c_nge_s ft fs cc), (14, .c_le_s ft fs cc), (15, .c_ngt_s ft fs cc)],
      invalid .single (s.readFpr .single fs) (s.readFpr .single ft) p) ∧
    (s.fr = true ∨ (fs.getLsbD 0 = false ∧ ft.getLsbD 0 = false) →
      ∀ p ∈ [((0 : BitVec 4), Instr.c_f_d ft fs cc), (1, .c_un_d ft fs cc), (2, .c_eq_d ft fs cc), (3, .c_ueq_d ft fs cc),
          (4, .c_olt_d ft fs cc), (5, .c_ult_d ft fs cc), (6, .c_ole_d ft fs cc), (7, .c_ule_d ft fs cc),
          (8, .c_sf_d ft fs cc), (9, .c_ngle_d ft fs cc), (10, .c_seq_d ft fs cc), (11, .c_ngl_d ft fs cc),
          (12, .c_lt_d ft fs cc), (13, .c_nge_d ft fs cc), (14, .c_le_d ft fs cc), (15, .c_ngt_d ft fs cc)],
        invalid .double (s.readFprD fs) (s.readFprD ft) p)

/-- R623, R624, R627, R629, R647 to R651, for the formats S and D. Rounding: an exact result longer than the precision
rounds to a value of that precision at the distance its mode allows (at most half a unit to nearest, ties to even; less
than a unit towards zero, up, down) and is inexact where it differs; one known only to lie between two neighbouring
integers does so too; a short one is exact. Range: a rounded result whose exponent the format has is the result, a larger
one overflows, a smaller one is flushed under `FS` or `FO` without `FN` and is Unimplemented without any of the three.
Exact results: for finite operands that are not tiny, `add`, `sub`, `mul`, `div` and `sqrt` give the rational sum,
difference, product, quotient and the square root, rounded so; an exact zero has its sign by the rules; a multiply-add is
the multiplication and then the addition where the product is not tiny. -/
def Obligations.RoundingIsCorrect : Prop :=
  (∀ (x : FpExact) (rm : BitVec 2) (p : Nat), 2 ≤ p → x.more = false → 2 ^ p ≤ x.mant →
    let r := x.round rm p
    let unit : Int := 2 ^ (x.mant.log2 + 1 - p)
    let d : Int := (r.mant : Int) * 2 ^ (r.exp - x.exp).toNat - x.mant
    x.exp < r.exp ∧ 2 ^ (p - 1) ≤ r.mant ∧ r.mant < 2 ^ p ∧ (r.inexact = true ↔ d ≠ 0) ∧
    (rm = 0 → -unit ≤ 2 * d ∧ 2 * d ≤ unit ∧ (2 * d = unit ∨ 2 * d = -unit → r.mant % 2 = 0)) ∧
    (rm = 1 → -unit < d ∧ d ≤ 0) ∧
    (rm = 2 → if x.sign then -unit < d ∧ d ≤ 0 else 0 ≤ d ∧ d < unit) ∧
    (rm = 3 → if x.sign then 0 ≤ d ∧ d < unit else -unit < d ∧ d ≤ 0)) ∧
  (∀ (x : FpExact) (rm : BitVec 2) (p : Nat), 2 ≤ p → x.more = true → 2 ^ (p + 1) ≤ x.mant →
    let r := x.round rm p
    let unit : Int := 2 ^ (x.mant.log2 + 1 - p)
    let d : Int := (r.mant : Int) * 2 ^ (r.exp - x.exp).toNat - x.mant
    let down := -unit ≤ d - 1 ∧ d ≤ 0
    let up := 1 ≤ d ∧ d ≤ unit
    x.exp < r.exp ∧ 2 ^ (p - 1) ≤ r.mant ∧ r.mant < 2 ^ p ∧ r.inexact = true ∧
    (rm = 0 → -unit ≤ 2 * (d - 1) ∧ 2 * d ≤ unit) ∧ (rm = 1 → down) ∧
    (rm = 2 → if x.sign then down else up) ∧ (rm = 3 → if x.sign then up else down)) ∧
  (∀ (x : FpExact) (rm : BitVec 2) (p : Nat), x.more = false → 0 < x.mant → x.mant < 2 ^ p →
    let r := x.round rm p
    r.inexact = false ∧ r.exp ≤ x.exp ∧ r.mant = x.mant * 2 ^ (x.exp - r.exp).toNat ∧
      2 ^ (p - 1) ≤ r.mant ∧ r.mant < 2 ^ p) ∧
  (∀ f ∈ [FpFmt.single, .double], ∀ (e : FpEnv) (x : FpExact), 0 < x.mant →
    (x.more = true → 2 ^ (f.frac + 2) ≤ x.mant) →
    let r := x.round e.rm (f.frac + 1)
    let away := (e.rm = 2 ∧ x.sign = false) ∨ (e.rm = 3 ∧ x.sign = true)
    (1 ≤ f.expField r → f.expField r < f.maxExp →
      ∃ w, f.roundExact e x = .val w (.inexact r.inexact) ∧ f.value w = .fin x.sign r.mant r.exp) ∧
    (f.maxExp ≤ f.expField r →
      f.roundExact e x = .val (if e.rm = 0 ∨ away then f.inf x.sign else f.maxFinite x.sign) .overflow) ∧
    (f.expField r < 1 → e.fn = false →
      (e.fs = true ∨ e.fo = true →
        f.roundExact e x = .val (if away then f.minNorm x.sign else f.zero x.sign) .underflow) ∧
      (e.fs = false → e.fo = false → f.roundExact e x = .unimplemented))) ∧
  (∀ f ∈ [FpFmt.single, .double], ∀ (e : FpEnv) (x y : DWord) (sx sy : Bool) (mx my : Nat) (ex ey : Int),
    f.tiny x = false → f.tiny y = false → f.value x = .fin sx mx ex → f.value y = .fin sy my ey →
    let q := (f.value x).rat
    let u := (f.value y).rat
    let rounds := fun (out : FpOut) (v : ℚ) => ∃ z : FpExact, z.Stands (f.frac + 1) v ∧ out = f.roundExact e z
    (q + u ≠ 0 → rounds (fpAdd f false e x y) (q + u)) ∧ (q - u ≠ 0 → rounds (fpAdd f true e x y) (q - u)) ∧
    (q * u ≠ 0 → rounds (fpMul f e x y) (q * u)) ∧ (q ≠ 0 → u ≠ 0 → rounds (fpDiv f e x y) (q / u)) ∧
    (0 < q → ∃ z : FpExact, z.StandsForRoot (f.frac + 1) q ∧ fpSqrt f e x = f.roundExact e z) ∧
    (q + u = 0 → fpAdd f false e x y = .val (f.zero (if sx = sy then sx else e.rm = 3)) .none) ∧
    (q - u = 0 → fpAdd f true e x y = .val (f.zero (if sx = !sy then sx else e.rm = 3)) .none) ∧
    (q * u = 0 → fpMul f e x y = .val (f.zero (sx != sy)) .none) ∧
    (q = 0 → u ≠ 0 → fpDiv f e x y = .val (f.zero (sx != sy)) .none) ∧
    (q = 0 → fpSqrt f e x = .val (f.zero sx) .none) ∧
    (∀ (sub : Bool) (c w : DWord) (k : FpFlags), q * u ≠ 0 → fpMul f e x y = .val w k → k.u = false →
      f.tiny c = false → fpMulAdd f sub e c x y = (fpAdd f sub e w c).also k))
end

