-- ==== Sys2Proof/Laws/Bits.lean ====
section
/-! SUPPORT. What merging fields into a word does, bit by bit and under a mask. -/

namespace Sys2Proof.Machine

theorem getLsbD_merge (o n m : Word) (j : Nat) :
    (merge o n m).getLsbD j = if m.getLsbD j then n.getLsbD j else o.getLsbD j := by
  unfold merge
  by_cases hj : j < 32
  · rw [BitVec.getLsbD_or, BitVec.getLsbD_and, BitVec.getLsbD_and, BitVec.getLsbD_not]
    cases m.getLsbD j <;> simp [hj]
  · have : ∀ w : Word, w.getLsbD j = false := fun w => BitVec.getLsbD_of_ge w j (by omega)
    simp [this]

theorem getLsbD_bitAt (i : Nat) (b : Bool) (j : Nat) (hi : i < 32) : (bitAt i b).getLsbD j = (b && decide (j = i)) := by
  unfold bitAt
  by_cases hj : j < 32
  · cases b
    · simp
    · simp only [if_true, BitVec.getLsbD_shiftLeft, hj, decide_true, Bool.true_and, BitVec.getLsbD_one]
      by_cases h : j = i
      · subst h; simp
      · simp only [h, decide_false]
        by_cases h2 : j < i
        · simp [h2]
        · have : j - i ≠ 0 := by omega
          simp [this]
  · rw [BitVec.getLsbD_of_ge _ _ (by omega)]
    have : j ≠ i := by omega
    simp [this]

theorem getLsbD_putBit (w : Word) (i : Nat) (b : Bool) (j : Nat) (hi : i < 32) :
    (putBit w i b).getLsbD j = if j = i then b else w.getLsbD j := by
  unfold putBit
  have e : (1#32 <<< i) = bitAt i true := rfl
  rw [getLsbD_merge, e, getLsbD_bitAt i true j hi, getLsbD_bitAt i b j hi]
  by_cases h : j = i <;> simp [h]

theorem getElem_merge (o n m : Word) (j : Nat) (hj : j < 32) : (merge o n m)[j] = if m[j] then n[j] else o[j] := by
  simpa [BitVec.getLsbD_eq_getElem hj] using getLsbD_merge o n m j

theorem getElem_putBit (w : Word) (i : Nat) (b : Bool) (j : Nat) (hi : i < 32) (hj : j < 32) :
    (putBit w i b)[j] = if j = i then b else w[j] := by
  simpa [BitVec.getLsbD_eq_getElem hj] using getLsbD_putBit w i b j hi

/-- Two words agree under a mask when they agree on its bits. -/
theorem and_eq_and_iff (x y k : Word) : x &&& k = y &&& k ↔ ∀ j, k.getLsbD j = true → x.getLsbD j = y.getLsbD j := by
  constructor
  · intro h j hj
    have := congrArg (fun w : Word => w.getLsbD j) h
    simpa [BitVec.getLsbD_and, hj] using this
  · intro h
    apply BitVec.eq_of_getLsbD_eq
    intro j _
    rw [BitVec.getLsbD_and, BitVec.getLsbD_and]
    cases hk : k.getLsbD j
    · simp
    · rw [h j hk]

theorem getLsbD_of_and_zero {m k : Word} (h : m &&& k = 0) {j : Nat} (hk : k.getLsbD j = true) : m.getLsbD j = false := by
  have := congrArg (fun w : Word => w.getLsbD j) h
  simpa [BitVec.getLsbD_and, hk] using this

/-- Outside the mask a merge changes nothing. -/
theorem merge_and_out (o n : Word) {m k : Word} (h : m &&& k = 0) : merge o n m &&& k = o &&& k := by
  rw [and_eq_and_iff]
  intro j hj
  rw [getLsbD_merge, getLsbD_of_and_zero h hj]
  rfl

/-- Inside the mask a merge takes the new bits. -/
theorem merge_and_in (o n : Word) {m k : Word} (h : ~~~m &&& k = 0) : merge o n m &&& k = n &&& k := by
  rw [and_eq_and_iff]
  intro j hj
  have hj32 : j < 32 := by
    rcases Nat.lt_or_ge j 32 with h | h
    · exact h
    · rw [BitVec.getLsbD_of_ge _ _ h] at hj; cases hj
  have h2 := getLsbD_of_and_zero h hj
  rw [BitVec.getLsbD_not] at h2
  have h3 : m.getLsbD j = true := by simpa [hj32] using h2
  rw [getLsbD_merge, h3]
  rfl

/-- Setting a bit outside a mask changes nothing under it. -/
theorem putBit_and_out (w : Word) (i : Nat) (b : Bool) {k : Word} (h : 1#32 <<< i &&& k = 0) :
    putBit w i b &&& k = w &&& k := merge_and_out _ _ h

/-- A field outside the mask keeps its value. -/
theorem extract_merge_out (o n : Word) (m : Word) (i l : Nat) (h : ∀ j, j < l → m.getLsbD (i + j) = false) :
    (merge o n m).extractLsb' i l = o.extractLsb' i l := by
  apply BitVec.eq_of_getLsbD_eq
  intro j hj
  rw [BitVec.getLsbD_extractLsb', BitVec.getLsbD_extractLsb', getLsbD_merge, h j hj]
  rfl

/-- A field inside the mask takes the new value. -/
theorem extract_merge_in (o n : Word) (m : Word) (i l : Nat) (h : ∀ j, j < l → m.getLsbD (i + j) = true) :
    (merge o n m).extractLsb' i l = n.extractLsb' i l := by
  apply BitVec.eq_of_getLsbD_eq
  intro j hj
  rw [BitVec.getLsbD_extractLsb', BitVec.getLsbD_extractLsb', getLsbD_merge, h j hj]
  rfl

end Sys2Proof.Machine
end

