-- ==== Sys2Proof/Laws/State.lean ====
section
/-! SUPPORT. What each named update of the state leaves as it was, field by field; the view of a state without
hazards. -/

namespace Sys2Proof.Machine

/-! `State.writeSet` changes gpr only. -/

@[simp] theorem writeSet_cfg (s : State) (set : BitVec 4) (r : Reg) (v : Word) : (s.writeSet set r v).cfg = s.cfg := by unfold State.writeSet; split <;> rfl
@[simp] theorem writeSet_pc (s : State) (set : BitVec 4) (r : Reg) (v : Word) : (s.writeSet set r v).pc = s.pc := by unfold State.writeSet; split <;> rfl
@[simp] theorem writeSet_npc (s : State) (set : BitVec 4) (r : Reg) (v : Word) : (s.writeSet set r v).npc = s.npc := by unfold State.writeSet; split <;> rfl
@[simp] theorem writeSet_slot (s : State) (set : BitVec 4) (r : Reg) (v : Word) : (s.writeSet set r v).slot = s.slot := by unfold State.writeSet; split <;> rfl
@[simp] theorem writeSet_hi (s : State) (set : BitVec 4) (r : Reg) (v : Word) : (s.writeSet set r v).hi = s.hi := by unfold State.writeSet; split <;> rfl
@[simp] theorem writeSet_lo (s : State) (set : BitVec 4) (r : Reg) (v : Word) : (s.writeSet set r v).lo = s.lo := by unfold State.writeSet; split <;> rfl
@[simp] theorem writeSet_fpr (s : State) (set : BitVec 4) (r : Reg) (v : Word) : (s.writeSet set r v).fpr = s.fpr := by unfold State.writeSet; split <;> rfl
@[simp] theorem writeSet_fcsr (s : State) (set : BitVec 4) (r : Reg) (v : Word) : (s.writeSet set r v).fcsr = s.fcsr := by unfold State.writeSet; split <;> rfl
@[simp] theorem writeSet_cp0 (s : State) (set : BitVec 4) (r : Reg) (v : Word) : (s.writeSet set r v).cp0 = s.cp0 := by unfold State.writeSet; split <;> rfl
@[simp] theorem writeSet_tlb (s : State) (set : BitVec 4) (r : Reg) (v : Word) : (s.writeSet set r v).tlb = s.tlb := by unfold State.writeSet; split <;> rfl
@[simp] theorem writeSet_llBit (s : State) (set : BitVec 4) (r : Reg) (v : Word) : (s.writeSet set r v).llBit = s.llBit := by unfold State.writeSet; split <;> rfl
@[simp] theorem writeSet_llBlock (s : State) (set : BitVec 4) (r : Reg) (v : Word) : (s.writeSet set r v).llBlock = s.llBlock := by unfold State.writeSet; split <;> rfl
@[simp] theorem writeSet_llTouched (s : State) (set : BitVec 4) (r : Reg) (v : Word) : (s.writeSet set r v).llTouched = s.llTouched := by unfold State.writeSet; split <;> rfl
@[simp] theorem writeSet_sleeping (s : State) (set : BitVec 4) (r : Reg) (v : Word) : (s.writeSet set r v).sleeping = s.sleeping := by unfold State.writeSet; split <;> rfl
@[simp] theorem writeSet_mem (s : State) (set : BitVec 4) (r : Reg) (v : Word) : (s.writeSet set r v).mem = s.mem := by unfold State.writeSet; split <;> rfl
@[simp] theorem writeSet_icache (s : State) (set : BitVec 4) (r : Reg) (v : Word) : (s.writeSet set r v).icache = s.icache := by unfold State.writeSet; split <;> rfl
@[simp] theorem writeSet_dcache (s : State) (set : BitVec 4) (r : Reg) (v : Word) : (s.writeSet set r v).dcache = s.dcache := by unfold State.writeSet; split <;> rfl
@[simp] theorem writeSet_gather (s : State) (set : BitVec 4) (r : Reg) (v : Word) : (s.writeSet set r v).gather = s.gather := by unfold State.writeSet; split <;> rfl
@[simp] theorem writeSet_ispram (s : State) (set : BitVec 4) (r : Reg) (v : Word) : (s.writeSet set r v).ispram = s.ispram := by unfold State.writeSet; split <;> rfl
@[simp] theorem writeSet_dspram (s : State) (set : BitVec 4) (r : Reg) (v : Word) : (s.writeSet set r v).dspram = s.dspram := by unfold State.writeSet; split <;> rfl
@[simp] theorem writeSet_dbg (s : State) (set : BitVec 4) (r : Reg) (v : Word) : (s.writeSet set r v).dbg = s.dbg := by unfold State.writeSet; split <;> rfl
@[simp] theorem writeSet_inputs (s : State) (set : BitVec 4) (r : Reg) (v : Word) : (s.writeSet set r v).inputs = s.inputs := by unfold State.writeSet; split <;> rfl
@[simp] theorem writeSet_pendDBE (s : State) (set : BitVec 4) (r : Reg) (v : Word) : (s.writeSet set r v).pendDBE = s.pendDBE := by unfold State.writeSet; split <;> rfl
@[simp] theorem writeSet_dbeHeld (s : State) (set : BitVec 4) (r : Reg) (v : Word) : (s.writeSet set r v).dbeHeld = s.dbeHeld := by unfold State.writeSet; split <;> rfl
@[simp] theorem writeSet_pendCacheErr (s : State) (set : BitVec 4) (r : Reg) (v : Word) : (s.writeSet set r v).pendCacheErr = s.pendCacheErr := by unfold State.writeSet; split <;> rfl
@[simp] theorem writeSet_pendCacheErrData (s : State) (set : BitVec 4) (r : Reg) (v : Word) : (s.writeSet set r v).pendCacheErrData = s.pendCacheErrData := by unfold State.writeSet; split <;> rfl
@[simp] theorem writeSet_hazards (s : State) (set : BitVec 4) (r : Reg) (v : Word) : (s.writeSet set r v).hazards = s.hazards := by unfold State.writeSet; split <;> rfl
@[simp] theorem writeSet_cp2State (s : State) (set : BitVec 4) (r : Reg) (v : Word) : (s.writeSet set r v).cp2State = s.cp2State := by unfold State.writeSet; split <;> rfl
@[simp] theorem writeSet_udiState (s : State) (set : BitVec 4) (r : Reg) (v : Word) : (s.writeSet set r v).udiState = s.udiState := by unfold State.writeSet; split <;> rfl
@[simp] theorem writeSet_excCount (s : State) (set : BitVec 4) (r : Reg) (v : Word) : (s.writeSet set r v).excCount = s.excCount := by unfold State.writeSet; split <;> rfl
@[simp] theorem writeSet_freeCtr (s : State) (set : BitVec 4) (r : Reg) (v : Word) : (s.writeSet set r v).freeCtr = s.freeCtr := by unfold State.writeSet; split <;> rfl
@[simp] theorem writeSet_env (s : State) (set : BitVec 4) (r : Reg) (v : Word) : (s.writeSet set r v).env = s.env := by unfold State.writeSet; split <;> rfl
@[simp] theorem writeSet_choices (s : State) (set : BitVec 4) (r : Reg) (v : Word) : (s.writeSet set r v).choices = s.choices := by unfold State.writeSet; split <;> rfl

/-! `State.writeGpr` changes gpr only. -/

@[simp] theorem writeGpr_cfg (s : State) (r : Reg) (v : Word) : (s.writeGpr r v).cfg = s.cfg := by simp [State.writeGpr]
@[simp] theorem writeGpr_pc (s : State) (r : Reg) (v : Word) : (s.writeGpr r v).pc = s.pc := by simp [State.writeGpr]
@[simp] theorem writeGpr_npc (s : State) (r : Reg) (v : Word) : (s.writeGpr r v).npc = s.npc := by simp [State.writeGpr]
@[simp] theorem writeGpr_slot (s : State) (r : Reg) (v : Word) : (s.writeGpr r v).slot = s.slot := by simp [State.writeGpr]
@[simp] theorem writeGpr_hi (s : State) (r : Reg) (v : Word) : (s.writeGpr r v).hi = s.hi := by simp [State.writeGpr]
@[simp] theorem writeGpr_lo (s : State) (r : Reg) (v : Word) : (s.writeGpr r v).lo = s.lo := by simp [State.writeGpr]
@[simp] theorem writeGpr_fpr (s : State) (r : Reg) (v : Word) : (s.writeGpr r v).fpr = s.fpr := by simp [State.writeGpr]
@[simp] theorem writeGpr_fcsr (s : State) (r : Reg) (v : Word) : (s.writeGpr r v).fcsr = s.fcsr := by simp [State.writeGpr]
@[simp] theorem writeGpr_cp0 (s : State) (r : Reg) (v : Word) : (s.writeGpr r v).cp0 = s.cp0 := by simp [State.writeGpr]
@[simp] theorem writeGpr_tlb (s : State) (r : Reg) (v : Word) : (s.writeGpr r v).tlb = s.tlb := by simp [State.writeGpr]
@[simp] theorem writeGpr_llBit (s : State) (r : Reg) (v : Word) : (s.writeGpr r v).llBit = s.llBit := by simp [State.writeGpr]
@[simp] theorem writeGpr_llBlock (s : State) (r : Reg) (v : Word) : (s.writeGpr r v).llBlock = s.llBlock := by simp [State.writeGpr]
@[simp] theorem writeGpr_llTouched (s : State) (r : Reg) (v : Word) : (s.writeGpr r v).llTouched = s.llTouched := by simp [State.writeGpr]
@[simp] theorem writeGpr_sleeping (s : State) (r : Reg) (v : Word) : (s.writeGpr r v).sleeping = s.sleeping := by simp [State.writeGpr]
@[simp] theorem writeGpr_mem (s : State) (r : Reg) (v : Word) : (s.writeGpr r v).mem = s.mem := by simp [State.writeGpr]
@[simp] theorem writeGpr_icache (s : State) (r : Reg) (v : Word) : (s.writeGpr r v).icache = s.icache := by simp [State.writeGpr]
@[simp] theorem writeGpr_dcache (s : State) (r : Reg) (v : Word) : (s.writeGpr r v).dcache = s.dcache := by simp [State.writeGpr]
@[simp] theorem writeGpr_gather (s : State) (r : Reg) (v : Word) : (s.writeGpr r v).gather = s.gather := by simp [State.writeGpr]
@[simp] theorem writeGpr_ispram (s : State) (r : Reg) (v : Word) : (s.writeGpr r v).ispram = s.ispram := by simp [State.writeGpr]
@[simp] theorem writeGpr_dspram (s : State) (r : Reg) (v : Word) : (s.writeGpr r v).dspram = s.dspram := by simp [State.writeGpr]
@[simp] theorem writeGpr_dbg (s : State) (r : Reg) (v : Word) : (s.writeGpr r v).dbg = s.dbg := by simp [State.writeGpr]
@[simp] theorem writeGpr_inputs (s : State) (r : Reg) (v : Word) : (s.writeGpr r v).inputs = s.inputs := by simp [State.writeGpr]
@[simp] theorem writeGpr_pendDBE (s : State) (r : Reg) (v : Word) : (s.writeGpr r v).pendDBE = s.pendDBE := by simp [State.writeGpr]
@[simp] theorem writeGpr_dbeHeld (s : State) (r : Reg) (v : Word) : (s.writeGpr r v).dbeHeld = s.dbeHeld := by simp [State.writeGpr]
@[simp] theorem writeGpr_pendCacheErr (s : State) (r : Reg) (v : Word) : (s.writeGpr r v).pendCacheErr = s.pendCacheErr := by simp [State.writeGpr]
@[simp] theorem writeGpr_pendCacheErrData (s : State) (r : Reg) (v : Word) : (s.writeGpr r v).pendCacheErrData = s.pendCacheErrData := by simp [State.writeGpr]
@[simp] theorem writeGpr_hazards (s : State) (r : Reg) (v : Word) : (s.writeGpr r v).hazards = s.hazards := by simp [State.writeGpr]
@[simp] theorem writeGpr_cp2State (s : State) (r : Reg) (v : Word) : (s.writeGpr r v).cp2State = s.cp2State := by simp [State.writeGpr]
@[simp] theorem writeGpr_udiState (s : State) (r : Reg) (v : Word) : (s.writeGpr r v).udiState = s.udiState := by simp [State.writeGpr]
@[simp] theorem writeGpr_excCount (s : State) (r : Reg) (v : Word) : (s.writeGpr r v).excCount = s.excCount := by simp [State.writeGpr]
@[simp] theorem writeGpr_freeCtr (s : State) (r : Reg) (v : Word) : (s.writeGpr r v).freeCtr = s.freeCtr := by simp [State.writeGpr]
@[simp] theorem writeGpr_env (s : State) (r : Reg) (v : Word) : (s.writeGpr r v).env = s.env := by simp [State.writeGpr]
@[simp] theorem writeGpr_choices (s : State) (r : Reg) (v : Word) : (s.writeGpr r v).choices = s.choices := by simp [State.writeGpr]

/-! `State.link` changes gpr only. -/

@[simp] theorem link_cfg (s : State) (r : Reg) : (s.link r).cfg = s.cfg := by simp [State.link]
@[simp] theorem link_pc (s : State) (r : Reg) : (s.link r).pc = s.pc := by simp [State.link]
@[simp] theorem link_npc (s : State) (r : Reg) : (s.link r).npc = s.npc := by simp [State.link]
@[simp] theorem link_slot (s : State) (r : Reg) : (s.link r).slot = s.slot := by simp [State.link]
@[simp] theorem link_hi (s : State) (r : Reg) : (s.link r).hi = s.hi := by simp [State.link]
@[simp] theorem link_lo (s : State) (r : Reg) : (s.link r).lo = s.lo := by simp [State.link]
@[simp] theorem link_fpr (s : State) (r : Reg) : (s.link r).fpr = s.fpr := by simp [State.link]
@[simp] theorem link_fcsr (s : State) (r : Reg) : (s.link r).fcsr = s.fcsr := by simp [State.link]
@[simp] theorem link_cp0 (s : State) (r : Reg) : (s.link r).cp0 = s.cp0 := by simp [State.link]
@[simp] theorem link_tlb (s : State) (r : Reg) : (s.link r).tlb = s.tlb := by simp [State.link]
@[simp] theorem link_llBit (s : State) (r : Reg) : (s.link r).llBit = s.llBit := by simp [State.link]
@[simp] theorem link_llBlock (s : State) (r : Reg) : (s.link r).llBlock = s.llBlock := by simp [State.link]
@[simp] theorem link_llTouched (s : State) (r : Reg) : (s.link r).llTouched = s.llTouched := by simp [State.link]
@[simp] theorem link_sleeping (s : State) (r : Reg) : (s.link r).sleeping = s.sleeping := by simp [State.link]
@[simp] theorem link_mem (s : State) (r : Reg) : (s.link r).mem = s.mem := by simp [State.link]
@[simp] theorem link_icache (s : State) (r : Reg) : (s.link r).icache = s.icache := by simp [State.link]
@[simp] theorem link_dcache (s : State) (r : Reg) : (s.link r).dcache = s.dcache := by simp [State.link]
@[simp] theorem link_gather (s : State) (r : Reg) : (s.link r).gather = s.gather := by simp [State.link]
@[simp] theorem link_ispram (s : State) (r : Reg) : (s.link r).ispram = s.ispram := by simp [State.link]
@[simp] theorem link_dspram (s : State) (r : Reg) : (s.link r).dspram = s.dspram := by simp [State.link]
@[simp] theorem link_dbg (s : State) (r : Reg) : (s.link r).dbg = s.dbg := by simp [State.link]
@[simp] theorem link_inputs (s : State) (r : Reg) : (s.link r).inputs = s.inputs := by simp [State.link]
@[simp] theorem link_pendDBE (s : State) (r : Reg) : (s.link r).pendDBE = s.pendDBE := by simp [State.link]
@[simp] theorem link_dbeHeld (s : State) (r : Reg) : (s.link r).dbeHeld = s.dbeHeld := by simp [State.link]
@[simp] theorem link_pendCacheErr (s : State) (r : Reg) : (s.link r).pendCacheErr = s.pendCacheErr := by simp [State.link]
@[simp] theorem link_pendCacheErrData (s : State) (r : Reg) : (s.link r).pendCacheErrData = s.pendCacheErrData := by simp [State.link]
@[simp] theorem link_hazards (s : State) (r : Reg) : (s.link r).hazards = s.hazards := by simp [State.link]
@[simp] theorem link_cp2State (s : State) (r : Reg) : (s.link r).cp2State = s.cp2State := by simp [State.link]
@[simp] theorem link_udiState (s : State) (r : Reg) : (s.link r).udiState = s.udiState := by simp [State.link]
@[simp] theorem link_excCount (s : State) (r : Reg) : (s.link r).excCount = s.excCount := by simp [State.link]
@[simp] theorem link_freeCtr (s : State) (r : Reg) : (s.link r).freeCtr = s.freeCtr := by simp [State.link]
@[simp] theorem link_env (s : State) (r : Reg) : (s.link r).env = s.env := by simp [State.link]
@[simp] theorem link_choices (s : State) (r : Reg) : (s.link r).choices = s.choices := by simp [State.link]

/-! `State.setCp` changes cp0 and hazards only. -/

@[simp] theorem setCp_cfg (s : State) (p : Producer) (r : CpReg) (m w : Word) : (s.setCp p r m w).cfg = s.cfg := rfl
@[simp] theorem setCp_pc (s : State) (p : Producer) (r : CpReg) (m w : Word) : (s.setCp p r m w).pc = s.pc := rfl
@[simp] theorem setCp_npc (s : State) (p : Producer) (r : CpReg) (m w : Word) : (s.setCp p r m w).npc = s.npc := rfl
@[simp] theorem setCp_slot (s : State) (p : Producer) (r : CpReg) (m w : Word) : (s.setCp p r m w).slot = s.slot := rfl
@[simp] theorem setCp_gpr (s : State) (p : Producer) (r : CpReg) (m w : Word) : (s.setCp p r m w).gpr = s.gpr := rfl
@[simp] theorem setCp_hi (s : State) (p : Producer) (r : CpReg) (m w : Word) : (s.setCp p r m w).hi = s.hi := rfl
@[simp] theorem setCp_lo (s : State) (p : Producer) (r : CpReg) (m w : Word) : (s.setCp p r m w).lo = s.lo := rfl
@[simp] theorem setCp_fpr (s : State) (p : Producer) (r : CpReg) (m w : Word) : (s.setCp p r m w).fpr = s.fpr := rfl
@[simp] theorem setCp_fcsr (s : State) (p : Producer) (r : CpReg) (m w : Word) : (s.setCp p r m w).fcsr = s.fcsr := rfl
@[simp] theorem setCp_tlb (s : State) (p : Producer) (r : CpReg) (m w : Word) : (s.setCp p r m w).tlb = s.tlb := rfl
@[simp] theorem setCp_llBit (s : State) (p : Producer) (r : CpReg) (m w : Word) : (s.setCp p r m w).llBit = s.llBit := rfl
@[simp] theorem setCp_llBlock (s : State) (p : Producer) (r : CpReg) (m w : Word) : (s.setCp p r m w).llBlock = s.llBlock := rfl
@[simp] theorem setCp_llTouched (s : State) (p : Producer) (r : CpReg) (m w : Word) : (s.setCp p r m w).llTouched = s.llTouched := rfl
@[simp] theorem setCp_sleeping (s : State) (p : Producer) (r : CpReg) (m w : Word) : (s.setCp p r m w).sleeping = s.sleeping := rfl
@[simp] theorem setCp_mem (s : State) (p : Producer) (r : CpReg) (m w : Word) : (s.setCp p r m w).mem = s.mem := rfl
@[simp] theorem setCp_icache (s : State) (p : Producer) (r : CpReg) (m w : Word) : (s.setCp p r m w).icache = s.icache := rfl
@[simp] theorem setCp_dcache (s : State) (p : Producer) (r : CpReg) (m w : Word) : (s.setCp p r m w).dcache = s.dcache := rfl
@[simp] theorem setCp_gather (s : State) (p : Producer) (r : CpReg) (m w : Word) : (s.setCp p r m w).gather = s.gather := rfl
@[simp] theorem setCp_ispram (s : State) (p : Producer) (r : CpReg) (m w : Word) : (s.setCp p r m w).ispram = s.ispram := rfl
@[simp] theorem setCp_dspram (s : State) (p : Producer) (r : CpReg) (m w : Word) : (s.setCp p r m w).dspram = s.dspram := rfl
@[simp] theorem setCp_dbg (s : State) (p : Producer) (r : CpReg) (m w : Word) : (s.setCp p r m w).dbg = s.dbg := rfl
@[simp] theorem setCp_inputs (s : State) (p : Producer) (r : CpReg) (m w : Word) : (s.setCp p r m w).inputs = s.inputs := rfl
@[simp] theorem setCp_pendDBE (s : State) (p : Producer) (r : CpReg) (m w : Word) : (s.setCp p r m w).pendDBE = s.pendDBE := rfl
@[simp] theorem setCp_dbeHeld (s : State) (p : Producer) (r : CpReg) (m w : Word) : (s.setCp p r m w).dbeHeld = s.dbeHeld := rfl
@[simp] theorem setCp_pendCacheErr (s : State) (p : Producer) (r : CpReg) (m w : Word) : (s.setCp p r m w).pendCacheErr = s.pendCacheErr := rfl
@[simp] theorem setCp_pendCacheErrData (s : State) (p : Producer) (r : CpReg) (m w : Word) : (s.setCp p r m w).pendCacheErrData = s.pendCacheErrData := rfl
@[simp] theorem setCp_cp2State (s : State) (p : Producer) (r : CpReg) (m w : Word) : (s.setCp p r m w).cp2State = s.cp2State := rfl
@[simp] theorem setCp_udiState (s : State) (p : Producer) (r : CpReg) (m w : Word) : (s.setCp p r m w).udiState = s.udiState := rfl
@[simp] theorem setCp_excCount (s : State) (p : Producer) (r : CpReg) (m w : Word) : (s.setCp p r m w).excCount = s.excCount := rfl
@[simp] theorem setCp_freeCtr (s : State) (p : Producer) (r : CpReg) (m w : Word) : (s.setCp p r m w).freeCtr = s.freeCtr := rfl
@[simp] theorem setCp_env (s : State) (p : Producer) (r : CpReg) (m w : Word) : (s.setCp p r m w).env = s.env := rfl
@[simp] theorem setCp_choices (s : State) (p : Producer) (r : CpReg) (m w : Word) : (s.setCp p r m w).choices = s.choices := rfl

/-! `State.pushHazard` changes hazards only. -/

@[simp] theorem pushHazard_cfg (s : State) (h : HazardOld) : (s.pushHazard h).cfg = s.cfg := rfl
@[simp] theorem pushHazard_pc (s : State) (h : HazardOld) : (s.pushHazard h).pc = s.pc := rfl
@[simp] theorem pushHazard_npc (s : State) (h : HazardOld) : (s.pushHazard h).npc = s.npc := rfl
@[simp] theorem pushHazard_slot (s : State) (h : HazardOld) : (s.pushHazard h).slot = s.slot := rfl
@[simp] theorem pushHazard_gpr (s : State) (h : HazardOld) : (s.pushHazard h).gpr = s.gpr := rfl
@[simp] theorem pushHazard_hi (s : State) (h : HazardOld) : (s.pushHazard h).hi = s.hi := rfl
@[simp] theorem pushHazard_lo (s : State) (h : HazardOld) : (s.pushHazard h).lo = s.lo := rfl
@[simp] theorem pushHazard_fpr (s : State) (h : HazardOld) : (s.pushHazard h).fpr = s.fpr := rfl
@[simp] theorem pushHazard_fcsr (s : State) (h : HazardOld) : (s.pushHazard h).fcsr = s.fcsr := rfl
@[simp] theorem pushHazard_cp0 (s : State) (h : HazardOld) : (s.pushHazard h).cp0 = s.cp0 := rfl
@[simp] theorem pushHazard_tlb (s : State) (h : HazardOld) : (s.pushHazard h).tlb = s.tlb := rfl
@[simp] theorem pushHazard_llBit (s : State) (h : HazardOld) : (s.pushHazard h).llBit = s.llBit := rfl
@[simp] theorem pushHazard_llBlock (s : State) (h : HazardOld) : (s.pushHazard h).llBlock = s.llBlock := rfl
@[simp] theorem pushHazard_llTouched (s : State) (h : HazardOld) : (s.pushHazard h).llTouched = s.llTouched := rfl
@[simp] theorem pushHazard_sleeping (s : State) (h : HazardOld) : (s.pushHazard h).sleeping = s.sleeping := rfl
@[simp] theorem pushHazard_mem (s : State) (h : HazardOld) : (s.pushHazard h).mem = s.mem := rfl
@[simp] theorem pushHazard_icache (s : State) (h : HazardOld) : (s.pushHazard h).icache = s.icache := rfl
@[simp] theorem pushHazard_dcache (s : State) (h : HazardOld) : (s.pushHazard h).dcache = s.dcache := rfl
@[simp] theorem pushHazard_gather (s : State) (h : HazardOld) : (s.pushHazard h).gather = s.gather := rfl
@[simp] theorem pushHazard_ispram (s : State) (h : HazardOld) : (s.pushHazard h).ispram = s.ispram := rfl
@[simp] theorem pushHazard_dspram (s : State) (h : HazardOld) : (s.pushHazard h).dspram = s.dspram := rfl
@[simp] theorem pushHazard_dbg (s : State) (h : HazardOld) : (s.pushHazard h).dbg = s.dbg := rfl
@[simp] theorem pushHazard_inputs (s : State) (h : HazardOld) : (s.pushHazard h).inputs = s.inputs := rfl
@[simp] theorem pushHazard_pendDBE (s : State) (h : HazardOld) : (s.pushHazard h).pendDBE = s.pendDBE := rfl
@[simp] theorem pushHazard_dbeHeld (s : State) (h : HazardOld) : (s.pushHazard h).dbeHeld = s.dbeHeld := rfl
@[simp] theorem pushHazard_pendCacheErr (s : State) (h : HazardOld) : (s.pushHazard h).pendCacheErr = s.pendCacheErr := rfl
@[simp] theorem pushHazard_pendCacheErrData (s : State) (h : HazardOld) : (s.pushHazard h).pendCacheErrData = s.pendCacheErrData := rfl
@[simp] theorem pushHazard_cp2State (s : State) (h : HazardOld) : (s.pushHazard h).cp2State = s.cp2State := rfl
@[simp] theorem pushHazard_udiState (s : State) (h : HazardOld) : (s.pushHazard h).udiState = s.udiState := rfl
@[simp] theorem pushHazard_excCount (s : State) (h : HazardOld) : (s.pushHazard h).excCount = s.excCount := rfl
@[simp] theorem pushHazard_freeCtr (s : State) (h : HazardOld) : (s.pushHazard h).freeCtr = s.freeCtr := rfl
@[simp] theorem pushHazard_env (s : State) (h : HazardOld) : (s.pushHazard h).env = s.env := rfl
@[simp] theorem pushHazard_choices (s : State) (h : HazardOld) : (s.pushHazard h).choices = s.choices := rfl

/-! `State.setFcc` changes fcsr only. -/

@[simp] theorem setFcc_cfg (s : State) (n : BitVec 3) (b : Bool) : (s.setFcc n b).cfg = s.cfg := rfl
@[simp] theorem setFcc_pc (s : State) (n : BitVec 3) (b : Bool) : (s.setFcc n b).pc = s.pc := rfl
@[simp] theorem setFcc_npc (s : State) (n : BitVec 3) (b : Bool) : (s.setFcc n b).npc = s.npc := rfl
@[simp] theorem setFcc_slot (s : State) (n : BitVec 3) (b : Bool) : (s.setFcc n b).slot = s.slot := rfl
@[simp] theorem setFcc_gpr (s : State) (n : BitVec 3) (b : Bool) : (s.setFcc n b).gpr = s.gpr := rfl
@[simp] theorem setFcc_hi (s : State) (n : BitVec 3) (b : Bool) : (s.setFcc n b).hi = s.hi := rfl
@[simp] theorem setFcc_lo (s : State) (n : BitVec 3) (b : Bool) : (s.setFcc n b).lo = s.lo := rfl
@[simp] theorem setFcc_fpr (s : State) (n : BitVec 3) (b : Bool) : (s.setFcc n b).fpr = s.fpr := rfl
@[simp] theorem setFcc_cp0 (s : State) (n : BitVec 3) (b : Bool) : (s.setFcc n b).cp0 = s.cp0 := rfl
@[simp] theorem setFcc_tlb (s : State) (n : BitVec 3) (b : Bool) : (s.setFcc n b).tlb = s.tlb := rfl
@[simp] theorem setFcc_llBit (s : State) (n : BitVec 3) (b : Bool) : (s.setFcc n b).llBit = s.llBit := rfl
@[simp] theorem setFcc_llBlock (s : State) (n : BitVec 3) (b : Bool) : (s.setFcc n b).llBlock = s.llBlock := rfl
@[simp] theorem setFcc_llTouched (s : State) (n : BitVec 3) (b : Bool) : (s.setFcc n b).llTouched = s.llTouched := rfl
@[simp] theorem setFcc_sleeping (s : State) (n : BitVec 3) (b : Bool) : (s.setFcc n b).sleeping = s.sleeping := rfl
@[simp] theorem setFcc_mem (s : State) (n : BitVec 3) (b : Bool) : (s.setFcc n b).mem = s.mem := rfl
@[simp] theorem setFcc_icache (s : State) (n : BitVec 3) (b : Bool) : (s.setFcc n b).icache = s.icache := rfl
@[simp] theorem setFcc_dcache (s : State) (n : BitVec 3) (b : Bool) : (s.setFcc n b).dcache = s.dcache := rfl
@[simp] theorem setFcc_gather (s : State) (n : BitVec 3) (b : Bool) : (s.setFcc n b).gather = s.gather := rfl
@[simp] theorem setFcc_ispram (s : State) (n : BitVec 3) (b : Bool) : (s.setFcc n b).ispram = s.ispram := rfl
@[simp] theorem setFcc_dspram (s : State) (n : BitVec 3) (b : Bool) : (s.setFcc n b).dspram = s.dspram := rfl
@[simp] theorem setFcc_dbg (s : State) (n : BitVec 3) (b : Bool) : (s.setFcc n b).dbg = s.dbg := rfl
@[simp] theorem setFcc_inputs (s : State) (n : BitVec 3) (b : Bool) : (s.setFcc n b).inputs = s.inputs := rfl
@[simp] theorem setFcc_pendDBE (s : State) (n : BitVec 3) (b : Bool) : (s.setFcc n b).pendDBE = s.pendDBE := rfl
@[simp] theorem setFcc_dbeHeld (s : State) (n : BitVec 3) (b : Bool) : (s.setFcc n b).dbeHeld = s.dbeHeld := rfl
@[simp] theorem setFcc_pendCacheErr (s : State) (n : BitVec 3) (b : Bool) : (s.setFcc n b).pendCacheErr = s.pendCacheErr := rfl
@[simp] theorem setFcc_pendCacheErrData (s : State) (n : BitVec 3) (b : Bool) : (s.setFcc n b).pendCacheErrData = s.pendCacheErrData := rfl
@[simp] theorem setFcc_hazards (s : State) (n : BitVec 3) (b : Bool) : (s.setFcc n b).hazards = s.hazards := rfl
@[simp] theorem setFcc_cp2State (s : State) (n : BitVec 3) (b : Bool) : (s.setFcc n b).cp2State = s.cp2State := rfl
@[simp] theorem setFcc_udiState (s : State) (n : BitVec 3) (b : Bool) : (s.setFcc n b).udiState = s.udiState := rfl
@[simp] theorem setFcc_excCount (s : State) (n : BitVec 3) (b : Bool) : (s.setFcc n b).excCount = s.excCount := rfl
@[simp] theorem setFcc_freeCtr (s : State) (n : BitVec 3) (b : Bool) : (s.setFcc n b).freeCtr = s.freeCtr := rfl
@[simp] theorem setFcc_env (s : State) (n : BitVec 3) (b : Bool) : (s.setFcc n b).env = s.env := rfl
@[simp] theorem setFcc_choices (s : State) (n : BitVec 3) (b : Bool) : (s.setFcc n b).choices = s.choices := rfl

/-! `State.dropChoice` changes choices only. -/

@[simp] theorem dropChoice_cfg (s : State) : (s.dropChoice).cfg = s.cfg := rfl
@[simp] theorem dropChoice_pc (s : State) : (s.dropChoice).pc = s.pc := rfl
@[simp] theorem dropChoice_npc (s : State) : (s.dropChoice).npc = s.npc := rfl
@[simp] theorem dropChoice_slot (s : State) : (s.dropChoice).slot = s.slot := rfl
@[simp] theorem dropChoice_gpr (s : State) : (s.dropChoice).gpr = s.gpr := rfl
@[simp] theorem dropChoice_hi (s : State) : (s.dropChoice).hi = s.hi := rfl
@[simp] theorem dropChoice_lo (s : State) : (s.dropChoice).lo = s.lo := rfl
@[simp] theorem dropChoice_fpr (s : State) : (s.dropChoice).fpr = s.fpr := rfl
@[simp] theorem dropChoice_fcsr (s : State) : (s.dropChoice).fcsr = s.fcsr := rfl
@[simp] theorem dropChoice_cp0 (s : State) : (s.dropChoice).cp0 = s.cp0 := rfl
@[simp] theorem dropChoice_tlb (s : State) : (s.dropChoice).tlb = s.tlb := rfl
@[simp] theorem dropChoice_llBit (s : State) : (s.dropChoice).llBit = s.llBit := rfl
@[simp] theorem dropChoice_llBlock (s : State) : (s.dropChoice).llBlock = s.llBlock := rfl
@[simp] theorem dropChoice_llTouched (s : State) : (s.dropChoice).llTouched = s.llTouched := rfl
@[simp] theorem dropChoice_sleeping (s : State) : (s.dropChoice).sleeping = s.sleeping := rfl
@[simp] theorem dropChoice_mem (s : State) : (s.dropChoice).mem = s.mem := rfl
@[simp] theorem dropChoice_icache (s : State) : (s.dropChoice).icache = s.icache := rfl
@[simp] theorem dropChoice_dcache (s : State) : (s.dropChoice).dcache = s.dcache := rfl
@[simp] theorem dropChoice_gather (s : State) : (s.dropChoice).gather = s.gather := rfl
@[simp] theorem dropChoice_ispram (s : State) : (s.dropChoice).ispram = s.ispram := rfl
@[simp] theorem dropChoice_dspram (s : State) : (s.dropChoice).dspram = s.dspram := rfl
@[simp] theorem dropChoice_dbg (s : State) : (s.dropChoice).dbg = s.dbg := rfl
@[simp] theorem dropChoice_inputs (s : State) : (s.dropChoice).inputs = s.inputs := rfl
@[simp] theorem dropChoice_pendDBE (s : State) : (s.dropChoice).pendDBE = s.pendDBE := rfl
@[simp] theorem dropChoice_dbeHeld (s : State) : (s.dropChoice).dbeHeld = s.dbeHeld := rfl
@[simp] theorem dropChoice_pendCacheErr (s : State) : (s.dropChoice).pendCacheErr = s.pendCacheErr := rfl
@[simp] theorem dropChoice_pendCacheErrData (s : State) : (s.dropChoice).pendCacheErrData = s.pendCacheErrData := rfl
@[simp] theorem dropChoice_hazards (s : State) : (s.dropChoice).hazards = s.hazards := rfl
@[simp] theorem dropChoice_cp2State (s : State) : (s.dropChoice).cp2State = s.cp2State := rfl
@[simp] theorem dropChoice_udiState (s : State) : (s.dropChoice).udiState = s.udiState := rfl
@[simp] theorem dropChoice_excCount (s : State) : (s.dropChoice).excCount = s.excCount := rfl
@[simp] theorem dropChoice_freeCtr (s : State) : (s.dropChoice).freeCtr = s.freeCtr := rfl
@[simp] theorem dropChoice_env (s : State) : (s.dropChoice).env = s.env := rfl

/-! `State.noteDBE` changes choices and pendDBE only. -/

@[simp] theorem noteDBE_cfg (s : State) : (s.noteDBE).cfg = s.cfg := rfl
@[simp] theorem noteDBE_pc (s : State) : (s.noteDBE).pc = s.pc := rfl
@[simp] theorem noteDBE_npc (s : State) : (s.noteDBE).npc = s.npc := rfl
@[simp] theorem noteDBE_slot (s : State) : (s.noteDBE).slot = s.slot := rfl
@[simp] theorem noteDBE_gpr (s : State) : (s.noteDBE).gpr = s.gpr := rfl
@[simp] theorem noteDBE_hi (s : State) : (s.noteDBE).hi = s.hi := rfl
@[simp] theorem noteDBE_lo (s : State) : (s.noteDBE).lo = s.lo := rfl
@[simp] theorem noteDBE_fpr (s : State) : (s.noteDBE).fpr = s.fpr := rfl
@[simp] theorem noteDBE_fcsr (s : State) : (s.noteDBE).fcsr = s.fcsr := rfl
@[simp] theorem noteDBE_cp0 (s : State) : (s.noteDBE).cp0 = s.cp0 := rfl
@[simp] theorem noteDBE_tlb (s : State) : (s.noteDBE).tlb = s.tlb := rfl
@[simp] theorem noteDBE_llBit (s : State) : (s.noteDBE).llBit = s.llBit := rfl
@[simp] theorem noteDBE_llBlock (s : State) : (s.noteDBE).llBlock = s.llBlock := rfl
@[simp] theorem noteDBE_llTouched (s : State) : (s.noteDBE).llTouched = s.llTouched := rfl
@[simp] theorem noteDBE_sleeping (s : State) : (s.noteDBE).sleeping = s.sleeping := rfl
@[simp] theorem noteDBE_mem (s : State) : (s.noteDBE).mem = s.mem := rfl
@[simp] theorem noteDBE_icache (s : State) : (s.noteDBE).icache = s.icache := rfl
@[simp] theorem noteDBE_dcache (s : State) : (s.noteDBE).dcache = s.dcache := rfl
@[simp] theorem noteDBE_gather (s : State) : (s.noteDBE).gather = s.gather := rfl
@[simp] theorem noteDBE_ispram (s : State) : (s.noteDBE).ispram = s.ispram := rfl
@[simp] theorem noteDBE_dspram (s : State) : (s.noteDBE).dspram = s.dspram := rfl
@[simp] theorem noteDBE_dbg (s : State) : (s.noteDBE).dbg = s.dbg := rfl
@[simp] theorem noteDBE_inputs (s : State) : (s.noteDBE).inputs = s.inputs := rfl
@[simp] theorem noteDBE_dbeHeld (s : State) : (s.noteDBE).dbeHeld = s.dbeHeld := rfl
@[simp] theorem noteDBE_pendCacheErr (s : State) : (s.noteDBE).pendCacheErr = s.pendCacheErr := rfl
@[simp] theorem noteDBE_pendCacheErrData (s : State) : (s.noteDBE).pendCacheErrData = s.pendCacheErrData := rfl
@[simp] theorem noteDBE_hazards (s : State) : (s.noteDBE).hazards = s.hazards := rfl
@[simp] theorem noteDBE_cp2State (s : State) : (s.noteDBE).cp2State = s.cp2State := rfl
@[simp] theorem noteDBE_udiState (s : State) : (s.noteDBE).udiState = s.udiState := rfl
@[simp] theorem noteDBE_excCount (s : State) : (s.noteDBE).excCount = s.excCount := rfl
@[simp] theorem noteDBE_freeCtr (s : State) : (s.noteDBE).freeCtr = s.freeCtr := rfl
@[simp] theorem noteDBE_env (s : State) : (s.noteDBE).env = s.env := rfl

/-! `State.setFprLow` changes fpr only. -/

@[simp] theorem setFprLow_cfg (s : State) (r : Reg) (v : Word) : (s.setFprLow r v).cfg = s.cfg := rfl
@[simp] theorem setFprLow_pc (s : State) (r : Reg) (v : Word) : (s.setFprLow r v).pc = s.pc := rfl
@[simp] theorem setFprLow_npc (s : State) (r : Reg) (v : Word) : (s.setFprLow r v).npc = s.npc := rfl
@[simp] theorem setFprLow_slot (s : State) (r : Reg) (v : Word) : (s.setFprLow r v).slot = s.slot := rfl
@[simp] theorem setFprLow_gpr (s : State) (r : Reg) (v : Word) : (s.setFprLow r v).gpr = s.gpr := rfl
@[simp] theorem setFprLow_hi (s : State) (r : Reg) (v : Word) : (s.setFprLow r v).hi = s.hi := rfl
@[simp] theorem setFprLow_lo (s : State) (r : Reg) (v : Word) : (s.setFprLow r v).lo = s.lo := rfl
@[simp] theorem setFprLow_fcsr (s : State) (r : Reg) (v : Word) : (s.setFprLow r v).fcsr = s.fcsr := rfl
@[simp] theorem setFprLow_cp0 (s : State) (r : Reg) (v : Word) : (s.setFprLow r v).cp0 = s.cp0 := rfl
@[simp] theorem setFprLow_tlb (s : State) (r : Reg) (v : Word) : (s.setFprLow r v).tlb = s.tlb := rfl
@[simp] theorem setFprLow_llBit (s : State) (r : Reg) (v : Word) : (s.setFprLow r v).llBit = s.llBit := rfl
@[simp] theorem setFprLow_llBlock (s : State) (r : Reg) (v : Word) : (s.setFprLow r v).llBlock = s.llBlock := rfl
@[simp] theorem setFprLow_llTouched (s : State) (r : Reg) (v : Word) : (s.setFprLow r v).llTouched = s.llTouched := rfl
@[simp] theorem setFprLow_sleeping (s : State) (r : Reg) (v : Word) : (s.setFprLow r v).sleeping = s.sleeping := rfl
@[simp] theorem setFprLow_mem (s : State) (r : Reg) (v : Word) : (s.setFprLow r v).mem = s.mem := rfl
@[simp] theorem setFprLow_icache (s : State) (r : Reg) (v : Word) : (s.setFprLow r v).icache = s.icache := rfl
@[simp] theorem setFprLow_dcache (s : State) (r : Reg) (v : Word) : (s.setFprLow r v).dcache = s.dcache := rfl
@[simp] theorem setFprLow_gather (s : State) (r : Reg) (v : Word) : (s.setFprLow r v).gather = s.gather := rfl
@[simp] theorem setFprLow_ispram (s : State) (r : Reg) (v : Word) : (s.setFprLow r v).ispram = s.ispram := rfl
@[simp] theorem setFprLow_dspram (s : State) (r : Reg) (v : Word) : (s.setFprLow r v).dspram = s.dspram := rfl
@[simp] theorem setFprLow_dbg (s : State) (r : Reg) (v : Word) : (s.setFprLow r v).dbg = s.dbg := rfl
@[simp] theorem setFprLow_inputs (s : State) (r : Reg) (v : Word) : (s.setFprLow r v).inputs = s.inputs := rfl
@[simp] theorem setFprLow_pendDBE (s : State) (r : Reg) (v : Word) : (s.setFprLow r v).pendDBE = s.pendDBE := rfl
@[simp] theorem setFprLow_dbeHeld (s : State) (r : Reg) (v : Word) : (s.setFprLow r v).dbeHeld = s.dbeHeld := rfl
@[simp] theorem setFprLow_pendCacheErr (s : State) (r : Reg) (v : Word) : (s.setFprLow r v).pendCacheErr = s.pendCacheErr := rfl
@[simp] theorem setFprLow_pendCacheErrData (s : State) (r : Reg) (v : Word) : (s.setFprLow r v).pendCacheErrData = s.pendCacheErrData := rfl
@[simp] theorem setFprLow_hazards (s : State) (r : Reg) (v : Word) : (s.setFprLow r v).hazards = s.hazards := rfl
@[simp] theorem setFprLow_cp2State (s : State) (r : Reg) (v : Word) : (s.setFprLow r v).cp2State = s.cp2State := rfl
@[simp] theorem setFprLow_udiState (s : State) (r : Reg) (v : Word) : (s.setFprLow r v).udiState = s.udiState := rfl
@[simp] theorem setFprLow_excCount (s : State) (r : Reg) (v : Word) : (s.setFprLow r v).excCount = s.excCount := rfl
@[simp] theorem setFprLow_freeCtr (s : State) (r : Reg) (v : Word) : (s.setFprLow r v).freeCtr = s.freeCtr := rfl
@[simp] theorem setFprLow_env (s : State) (r : Reg) (v : Word) : (s.setFprLow r v).env = s.env := rfl
@[simp] theorem setFprLow_choices (s : State) (r : Reg) (v : Word) : (s.setFprLow r v).choices = s.choices := rfl

/-! `State.writeFprW` changes fpr only. -/

@[simp] theorem writeFprW_cfg (s : State) (r : Reg) (v : Word) : (s.writeFprW r v).cfg = s.cfg := by unfold State.writeFprW; split <;> rfl
@[simp] theorem writeFprW_pc (s : State) (r : Reg) (v : Word) : (s.writeFprW r v).pc = s.pc := by unfold State.writeFprW; split <;> rfl
@[simp] theorem writeFprW_npc (s : State) (r : Reg) (v : Word) : (s.writeFprW r v).npc = s.npc := by unfold State.writeFprW; split <;> rfl
@[simp] theorem writeFprW_slot (s : State) (r : Reg) (v : Word) : (s.writeFprW r v).slot = s.slot := by unfold State.writeFprW; split <;> rfl
@[simp] theorem writeFprW_gpr (s : State) (r : Reg) (v : Word) : (s.writeFprW r v).gpr = s.gpr := by unfold State.writeFprW; split <;> rfl
@[simp] theorem writeFprW_hi (s : State) (r : Reg) (v : Word) : (s.writeFprW r v).hi = s.hi := by unfold State.writeFprW; split <;> rfl
@[simp] theorem writeFprW_lo (s : State) (r : Reg) (v : Word) : (s.writeFprW r v).lo = s.lo := by unfold State.writeFprW; split <;> rfl
@[simp] theorem writeFprW_fcsr (s : State) (r : Reg) (v : Word) : (s.writeFprW r v).fcsr = s.fcsr := by unfold State.writeFprW; split <;> rfl
@[simp] theorem writeFprW_cp0 (s : State) (r : Reg) (v : Word) : (s.writeFprW r v).cp0 = s.cp0 := by unfold State.writeFprW; split <;> rfl
@[simp] theorem writeFprW_tlb (s : State) (r : Reg) (v : Word) : (s.writeFprW r v).tlb = s.tlb := by unfold State.writeFprW; split <;> rfl
@[simp] theorem writeFprW_llBit (s : State) (r : Reg) (v : Word) : (s.writeFprW r v).llBit = s.llBit := by unfold State.writeFprW; split <;> rfl
@[simp] theorem writeFprW_llBlock (s : State) (r : Reg) (v : Word) : (s.writeFprW r v).llBlock = s.llBlock := by unfold State.writeFprW; split <;> rfl
@[simp] theorem writeFprW_llTouched (s : State) (r : Reg) (v : Word) : (s.writeFprW r v).llTouched = s.llTouched := by unfold State.writeFprW; split <;> rfl
@[simp] theorem writeFprW_sleeping (s : State) (r : Reg) (v : Word) : (s.writeFprW r v).sleeping = s.sleeping := by unfold State.writeFprW; split <;> rfl
@[simp] theorem writeFprW_mem (s : State) (r : Reg) (v : Word) : (s.writeFprW r v).mem = s.mem := by unfold State.writeFprW; split <;> rfl
@[simp] theorem writeFprW_icache (s : State) (r : Reg) (v : Word) : (s.writeFprW r v).icache = s.icache := by unfold State.writeFprW; split <;> rfl
@[simp] theorem writeFprW_dcache (s : State) (r : Reg) (v : Word) : (s.writeFprW r v).dcache = s.dcache := by unfold State.writeFprW; split <;> rfl
@[simp] theorem writeFprW_gather (s : State) (r : Reg) (v : Word) : (s.writeFprW r v).gather = s.gather := by unfold State.writeFprW; split <;> rfl
@[simp] theorem writeFprW_ispram (s : State) (r : Reg) (v : Word) : (s.writeFprW r v).ispram = s.ispram := by unfold State.writeFprW; split <;> rfl
@[simp] theorem writeFprW_dspram (s : State) (r : Reg) (v : Word) : (s.writeFprW r v).dspram = s.dspram := by unfold State.writeFprW; split <;> rfl
@[simp] theorem writeFprW_dbg (s : State) (r : Reg) (v : Word) : (s.writeFprW r v).dbg = s.dbg := by unfold State.writeFprW; split <;> rfl
@[simp] theorem writeFprW_inputs (s : State) (r : Reg) (v : Word) : (s.writeFprW r v).inputs = s.inputs := by unfold State.writeFprW; split <;> rfl
@[simp] theorem writeFprW_pendDBE (s : State) (r : Reg) (v : Word) : (s.writeFprW r v).pendDBE = s.pendDBE := by unfold State.writeFprW; split <;> rfl
@[simp] theorem writeFprW_dbeHeld (s : State) (r : Reg) (v : Word) : (s.writeFprW r v).dbeHeld = s.dbeHeld := by unfold State.writeFprW; split <;> rfl
@[simp] theorem writeFprW_pendCacheErr (s : State) (r : Reg) (v : Word) : (s.writeFprW r v).pendCacheErr = s.pendCacheErr := by unfold State.writeFprW; split <;> rfl
@[simp] theorem writeFprW_pendCacheErrData (s : State) (r : Reg) (v : Word) : (s.writeFprW r v).pendCacheErrData = s.pendCacheErrData := by unfold State.writeFprW; split <;> rfl
@[simp] theorem writeFprW_hazards (s : State) (r : Reg) (v : Word) : (s.writeFprW r v).hazards = s.hazards := by unfold State.writeFprW; split <;> rfl
@[simp] theorem writeFprW_cp2State (s : State) (r : Reg) (v : Word) : (s.writeFprW r v).cp2State = s.cp2State := by unfold State.writeFprW; split <;> rfl
@[simp] theorem writeFprW_udiState (s : State) (r : Reg) (v : Word) : (s.writeFprW r v).udiState = s.udiState := by unfold State.writeFprW; split <;> rfl
@[simp] theorem writeFprW_excCount (s : State) (r : Reg) (v : Word) : (s.writeFprW r v).excCount = s.excCount := by unfold State.writeFprW; split <;> rfl
@[simp] theorem writeFprW_freeCtr (s : State) (r : Reg) (v : Word) : (s.writeFprW r v).freeCtr = s.freeCtr := by unfold State.writeFprW; split <;> rfl
@[simp] theorem writeFprW_env (s : State) (r : Reg) (v : Word) : (s.writeFprW r v).env = s.env := by unfold State.writeFprW; split <;> rfl
@[simp] theorem writeFprW_choices (s : State) (r : Reg) (v : Word) : (s.writeFprW r v).choices = s.choices := by unfold State.writeFprW; split <;> rfl

/-! `State.writeFprD` changes fpr only. -/

@[simp] theorem writeFprD_cfg (s : State) (r : Reg) (v : DWord) : (s.writeFprD r v).cfg = s.cfg := by unfold State.writeFprD; split <;> rfl
@[simp] theorem writeFprD_pc (s : State) (r : Reg) (v : DWord) : (s.writeFprD r v).pc = s.pc := by unfold State.writeFprD; split <;> rfl
@[simp] theorem writeFprD_npc (s : State) (r : Reg) (v : DWord) : (s.writeFprD r v).npc = s.npc := by unfold State.writeFprD; split <;> rfl
@[simp] theorem writeFprD_slot (s : State) (r : Reg) (v : DWord) : (s.writeFprD r v).slot = s.slot := by unfold State.writeFprD; split <;> rfl
@[simp] theorem writeFprD_gpr (s : State) (r : Reg) (v : DWord) : (s.writeFprD r v).gpr = s.gpr := by unfold State.writeFprD; split <;> rfl
@[simp] theorem writeFprD_hi (s : State) (r : Reg) (v : DWord) : (s.writeFprD r v).hi = s.hi := by unfold State.writeFprD; split <;> rfl
@[simp] theorem writeFprD_lo (s : State) (r : Reg) (v : DWord) : (s.writeFprD r v).lo = s.lo := by unfold State.writeFprD; split <;> rfl
@[simp] theorem writeFprD_fcsr (s : State) (r : Reg) (v : DWord) : (s.writeFprD r v).fcsr = s.fcsr := by unfold State.writeFprD; split <;> rfl
@[simp] theorem writeFprD_cp0 (s : State) (r : Reg) (v : DWord) : (s.writeFprD r v).cp0 = s.cp0 := by unfold State.writeFprD; split <;> rfl
@[simp] theorem writeFprD_tlb (s : State) (r : Reg) (v : DWord) : (s.writeFprD r v).tlb = s.tlb := by unfold State.writeFprD; split <;> rfl
@[simp] theorem writeFprD_llBit (s : State) (r : Reg) (v : DWord) : (s.writeFprD r v).llBit = s.llBit := by unfold State.writeFprD; split <;> rfl
@[simp] theorem writeFprD_llBlock (s : State) (r : Reg) (v : DWord) : (s.writeFprD r v).llBlock = s.llBlock := by unfold State.writeFprD; split <;> rfl
@[simp] theorem writeFprD_llTouched (s : State) (r : Reg) (v : DWord) : (s.writeFprD r v).llTouched = s.llTouched := by unfold State.writeFprD; split <;> rfl
@[simp] theorem writeFprD_sleeping (s : State) (r : Reg) (v : DWord) : (s.writeFprD r v).sleeping = s.sleeping := by unfold State.writeFprD; split <;> rfl
@[simp] theorem writeFprD_mem (s : State) (r : Reg) (v : DWord) : (s.writeFprD r v).mem = s.mem := by unfold State.writeFprD; split <;> rfl
@[simp] theorem writeFprD_icache (s : State) (r : Reg) (v : DWord) : (s.writeFprD r v).icache = s.icache := by unfold State.writeFprD; split <;> rfl
@[simp] theorem writeFprD_dcache (s : State) (r : Reg) (v : DWord) : (s.writeFprD r v).dcache = s.dcache := by unfold State.writeFprD; split <;> rfl
@[simp] theorem writeFprD_gather (s : State) (r : Reg) (v : DWord) : (s.writeFprD r v).gather = s.gather := by unfold State.writeFprD; split <;> rfl
@[simp] theorem writeFprD_ispram (s : State) (r : Reg) (v : DWord) : (s.writeFprD r v).ispram = s.ispram := by unfold State.writeFprD; split <;> rfl
@[simp] theorem writeFprD_dspram (s : State) (r : Reg) (v : DWord) : (s.writeFprD r v).dspram = s.dspram := by unfold State.writeFprD; split <;> rfl
@[simp] theorem writeFprD_dbg (s : State) (r : Reg) (v : DWord) : (s.writeFprD r v).dbg = s.dbg := by unfold State.writeFprD; split <;> rfl
@[simp] theorem writeFprD_inputs (s : State) (r : Reg) (v : DWord) : (s.writeFprD r v).inputs = s.inputs := by unfold State.writeFprD; split <;> rfl
@[simp] theorem writeFprD_pendDBE (s : State) (r : Reg) (v : DWord) : (s.writeFprD r v).pendDBE = s.pendDBE := by unfold State.writeFprD; split <;> rfl
@[simp] theorem writeFprD_dbeHeld (s : State) (r : Reg) (v : DWord) : (s.writeFprD r v).dbeHeld = s.dbeHeld := by unfold State.writeFprD; split <;> rfl
@[simp] theorem writeFprD_pendCacheErr (s : State) (r : Reg) (v : DWord) : (s.writeFprD r v).pendCacheErr = s.pendCacheErr := by unfold State.writeFprD; split <;> rfl
@[simp] theorem writeFprD_pendCacheErrData (s : State) (r : Reg) (v : DWord) : (s.writeFprD r v).pendCacheErrData = s.pendCacheErrData := by unfold State.writeFprD; split <;> rfl
@[simp] theorem writeFprD_hazards (s : State) (r : Reg) (v : DWord) : (s.writeFprD r v).hazards = s.hazards := by unfold State.writeFprD; split <;> rfl
@[simp] theorem writeFprD_cp2State (s : State) (r : Reg) (v : DWord) : (s.writeFprD r v).cp2State = s.cp2State := by unfold State.writeFprD; split <;> rfl
@[simp] theorem writeFprD_udiState (s : State) (r : Reg) (v : DWord) : (s.writeFprD r v).udiState = s.udiState := by unfold State.writeFprD; split <;> rfl
@[simp] theorem writeFprD_excCount (s : State) (r : Reg) (v : DWord) : (s.writeFprD r v).excCount = s.excCount := by unfold State.writeFprD; split <;> rfl
@[simp] theorem writeFprD_freeCtr (s : State) (r : Reg) (v : DWord) : (s.writeFprD r v).freeCtr = s.freeCtr := by unfold State.writeFprD; split <;> rfl
@[simp] theorem writeFprD_env (s : State) (r : Reg) (v : DWord) : (s.writeFprD r v).env = s.env := by unfold State.writeFprD; split <;> rfl
@[simp] theorem writeFprD_choices (s : State) (r : Reg) (v : DWord) : (s.writeFprD r v).choices = s.choices := by unfold State.writeFprD; split <;> rfl

/-! `State.writeFpr` changes fpr only. -/

@[simp] theorem writeFpr_cfg (s : State) (f : FpFmt) (r : Reg) (v : DWord) : (s.writeFpr f r v).cfg = s.cfg := by unfold State.writeFpr; split <;> simp
@[simp] theorem writeFpr_pc (s : State) (f : FpFmt) (r : Reg) (v : DWord) : (s.writeFpr f r v).pc = s.pc := by unfold State.writeFpr; split <;> simp
@[simp] theorem writeFpr_npc (s : State) (f : FpFmt) (r : Reg) (v : DWord) : (s.writeFpr f r v).npc = s.npc := by unfold State.writeFpr; split <;> simp
@[simp] theorem writeFpr_slot (s : State) (f : FpFmt) (r : Reg) (v : DWord) : (s.writeFpr f r v).slot = s.slot := by unfold State.writeFpr; split <;> simp
@[simp] theorem writeFpr_gpr (s : State) (f : FpFmt) (r : Reg) (v : DWord) : (s.writeFpr f r v).gpr = s.gpr := by unfold State.writeFpr; split <;> simp
@[simp] theorem writeFpr_hi (s : State) (f : FpFmt) (r : Reg) (v : DWord) : (s.writeFpr f r v).hi = s.hi := by unfold State.writeFpr; split <;> simp
@[simp] theorem writeFpr_lo (s : State) (f : FpFmt) (r : Reg) (v : DWord) : (s.writeFpr f r v).lo = s.lo := by unfold State.writeFpr; split <;> simp
@[simp] theorem writeFpr_fcsr (s : State) (f : FpFmt) (r : Reg) (v : DWord) : (s.writeFpr f r v).fcsr = s.fcsr := by unfold State.writeFpr; split <;> simp
@[simp] theorem writeFpr_cp0 (s : State) (f : FpFmt) (r : Reg) (v : DWord) : (s.writeFpr f r v).cp0 = s.cp0 := by unfold State.writeFpr; split <;> simp
@[simp] theorem writeFpr_tlb (s : State) (f : FpFmt) (r : Reg) (v : DWord) : (s.writeFpr f r v).tlb = s.tlb := by unfold State.writeFpr; split <;> simp
@[simp] theorem writeFpr_llBit (s : State) (f : FpFmt) (r : Reg) (v : DWord) : (s.writeFpr f r v).llBit = s.llBit := by unfold State.writeFpr; split <;> simp
@[simp] theorem writeFpr_llBlock (s : State) (f : FpFmt) (r : Reg) (v : DWord) : (s.writeFpr f r v).llBlock = s.llBlock := by unfold State.writeFpr; split <;> simp
@[simp] theorem writeFpr_llTouched (s : State) (f : FpFmt) (r : Reg) (v : DWord) : (s.writeFpr f r v).llTouched = s.llTouched := by unfold State.writeFpr; split <;> simp
@[simp] theorem writeFpr_sleeping (s : State) (f : FpFmt) (r : Reg) (v : DWord) : (s.writeFpr f r v).sleeping = s.sleeping := by unfold State.writeFpr; split <;> simp
@[simp] theorem writeFpr_mem (s : State) (f : FpFmt) (r : Reg) (v : DWord) : (s.writeFpr f r v).mem = s.mem := by unfold State.writeFpr; split <;> simp
@[simp] theorem writeFpr_icache (s : State) (f : FpFmt) (r : Reg) (v : DWord) : (s.writeFpr f r v).icache = s.icache := by unfold State.writeFpr; split <;> simp
@[simp] theorem writeFpr_dcache (s : State) (f : FpFmt) (r : Reg) (v : DWord) : (s.writeFpr f r v).dcache = s.dcache := by unfold State.writeFpr; split <;> simp
@[simp] theorem writeFpr_gather (s : State) (f : FpFmt) (r : Reg) (v : DWord) : (s.writeFpr f r v).gather = s.gather := by unfold State.writeFpr; split <;> simp
@[simp] theorem writeFpr_ispram (s : State) (f : FpFmt) (r : Reg) (v : DWord) : (s.writeFpr f r v).ispram = s.ispram := by unfold State.writeFpr; split <;> simp
@[simp] theorem writeFpr_dspram (s : State) (f : FpFmt) (r : Reg) (v : DWord) : (s.writeFpr f r v).dspram = s.dspram := by unfold State.writeFpr; split <;> simp
@[simp] theorem writeFpr_dbg (s : State) (f : FpFmt) (r : Reg) (v : DWord) : (s.writeFpr f r v).dbg = s.dbg := by unfold State.writeFpr; split <;> simp
@[simp] theorem writeFpr_inputs (s : State) (f : FpFmt) (r : Reg) (v : DWord) : (s.writeFpr f r v).inputs = s.inputs := by unfold State.writeFpr; split <;> simp
@[simp] theorem writeFpr_pendDBE (s : State) (f : FpFmt) (r : Reg) (v : DWord) : (s.writeFpr f r v).pendDBE = s.pendDBE := by unfold State.writeFpr; split <;> simp
@[simp] theorem writeFpr_dbeHeld (s : State) (f : FpFmt) (r : Reg) (v : DWord) : (s.writeFpr f r v).dbeHeld = s.dbeHeld := by unfold State.writeFpr; split <;> simp
@[simp] theorem writeFpr_pendCacheErr (s : State) (f : FpFmt) (r : Reg) (v : DWord) : (s.writeFpr f r v).pendCacheErr = s.pendCacheErr := by unfold State.writeFpr; split <;> simp
@[simp] theorem writeFpr_pendCacheErrData (s : State) (f : FpFmt) (r : Reg) (v : DWord) : (s.writeFpr f r v).pendCacheErrData = s.pendCacheErrData := by unfold State.writeFpr; split <;> simp
@[simp] theorem writeFpr_hazards (s : State) (f : FpFmt) (r : Reg) (v : DWord) : (s.writeFpr f r v).hazards = s.hazards := by unfold State.writeFpr; split <;> simp
@[simp] theorem writeFpr_cp2State (s : State) (f : FpFmt) (r : Reg) (v : DWord) : (s.writeFpr f r v).cp2State = s.cp2State := by unfold State.writeFpr; split <;> simp
@[simp] theorem writeFpr_udiState (s : State) (f : FpFmt) (r : Reg) (v : DWord) : (s.writeFpr f r v).udiState = s.udiState := by unfold State.writeFpr; split <;> simp
@[simp] theorem writeFpr_excCount (s : State) (f : FpFmt) (r : Reg) (v : DWord) : (s.writeFpr f r v).excCount = s.excCount := by unfold State.writeFpr; split <;> simp
@[simp] theorem writeFpr_freeCtr (s : State) (f : FpFmt) (r : Reg) (v : DWord) : (s.writeFpr f r v).freeCtr = s.freeCtr := by unfold State.writeFpr; split <;> simp
@[simp] theorem writeFpr_env (s : State) (f : FpFmt) (r : Reg) (v : DWord) : (s.writeFpr f r v).env = s.env := by unfold State.writeFpr; split <;> simp
@[simp] theorem writeFpr_choices (s : State) (f : FpFmt) (r : Reg) (v : DWord) : (s.writeFpr f r v).choices = s.choices := by unfold State.writeFpr; split <;> simp

/-! Without hazards every consumer sees the state itself (R970). -/

theorem view_eq (c : Consumer) (s : State) (h : s.hazards = []) : s.view c = s := by
  simp [State.view, h, viewHazards]

/-! A consumer the table does not pair with any pending hazard sees the state itself (R974). -/

theorem viewHazards_unseen (c : Consumer) (n : Nat) (l : List Hazard) (hl : ∀ h ∈ l, h.mask c = 0) :
    ∀ (k : Nat) (d : List HazardOld) (s : State), viewHazards c n k d l s = s := by
  induction l with
  | nil => intros; rfl
  | cons h t ih =>
    intro k d s
    unfold viewHazards
    simp [hl h (by simp), ih (fun x hx => hl x (by simp [hx]))]

theorem view_unseen (c : Consumer) (s : State) (h : ∀ x ∈ s.hazards, x.mask c = 0) : s.view c = s :=
  viewHazards_unseen c _ _ h _ _ _

/-- What `tlbr`, `tlbp` and Index Load Tag wrote is old for `mfc0` only. -/
theorem producerMask_readBack (c : Consumer) (r : CpReg) (h : c ≠ .readReg) : producerMask .readBack c r = 0 := by
  cases c <;> first | contradiction | rfl

/-- What `ei` and `di` wrote is old for an interrupt only. -/
theorem producerMask_irqEnable (c : Consumer) (r : CpReg) (h : c ≠ .interrupt) : producerMask .irqEnable c r = 0 := by
  cases c <;> first | contradiction | rfl

/-! A view differs from the state in CP0 registers, TLB entries, I-cache lines and breakpoint registers only. -/

/-- `t` is `s` but for what a hazard can be about. -/
def HazardFrame (s t : State) : Prop := t = { s with cp0 := t.cp0, tlb := t.tlb, icache := t.icache, dbg := t.dbg }

theorem HazardFrame.trans {s t u : State} (h : HazardFrame s t) (k : HazardFrame t u) : HazardFrame s u := by
  unfold HazardFrame at *
  rw [k, h]

/-- A field that no hazard is about is the same on both sides. -/
theorem HazardFrame.field {α : Type} {s t : State} (h : HazardFrame s t) (f : State → α)
    (hf : ∀ s t : State, f { s with cp0 := t.cp0, tlb := t.tlb, icache := t.icache, dbg := t.dbg } = f s) : f t = f s :=
  (congrArg f (show t = _ from h)).trans (hf s t)

theorem restore_frame (h : Hazard) (m : Word) (s : State) : HazardFrame s (h.restore m s) := by
  unfold Hazard.restore
  split <;> rfl

theorem keep_frame (d : HazardOld) (src dst : State) : HazardFrame dst (d.keep src dst) := by
  unfold HazardOld.keep
  split <;> first | rfl | (split <;> rfl)

theorem keepAll_frame (src : State) (l : List HazardOld) : ∀ dst : State, HazardFrame dst (keepAll l src dst) := by
  induction l with
  | nil => intro; rfl
  | cons d t ih => intro dst; exact (keep_frame d src dst).trans (ih _)

theorem viewHazards_frame (c : Consumer) (n : Nat) (l : List Hazard) :
    ∀ (k : Nat) (d : List HazardOld) (s : State), HazardFrame s (viewHazards c n k d l s) := by
  induction l with
  | nil => intros; rfl
  | cons h t ih =>
    intro k d s
    unfold viewHazards
    dsimp only
    split
    · exact ((restore_frame h _ s).trans (keepAll_frame s d _)).trans (ih _ _ _)
    · exact ih _ _ _

theorem view_frame (c : Consumer) (s : State) : HazardFrame s (s.view c) := viewHazards_frame c _ _ _ _ _

@[simp] theorem view_cfg (c : Consumer) (s : State) : (s.view c).cfg = s.cfg := (view_frame c s).field State.cfg (fun _ _ => rfl)
@[simp] theorem view_pc (c : Consumer) (s : State) : (s.view c).pc = s.pc := (view_frame c s).field State.pc (fun _ _ => rfl)
@[simp] theorem view_npc (c : Consumer) (s : State) : (s.view c).npc = s.npc := (view_frame c s).field State.npc (fun _ _ => rfl)
@[simp] theorem view_slot (c : Consumer) (s : State) : (s.view c).slot = s.slot := (view_frame c s).field State.slot (fun _ _ => rfl)
@[simp] theorem view_gpr (c : Consumer) (s : State) : (s.view c).gpr = s.gpr := (view_frame c s).field State.gpr (fun _ _ => rfl)
@[simp] theorem view_hi (c : Consumer) (s : State) : (s.view c).hi = s.hi := (view_frame c s).field State.hi (fun _ _ => rfl)
@[simp] theorem view_lo (c : Consumer) (s : State) : (s.view c).lo = s.lo := (view_frame c s).field State.lo (fun _ _ => rfl)
@[simp] theorem view_fpr (c : Consumer) (s : State) : (s.view c).fpr = s.fpr := (view_frame c s).field State.fpr (fun _ _ => rfl)
@[simp] theorem view_fcsr (c : Consumer) (s : State) : (s.view c).fcsr = s.fcsr := (view_frame c s).field State.fcsr (fun _ _ => rfl)
@[simp] theorem view_llBit (c : Consumer) (s : State) : (s.view c).llBit = s.llBit := (view_frame c s).field State.llBit (fun _ _ => rfl)
@[simp] theorem view_llBlock (c : Consumer) (s : State) : (s.view c).llBlock = s.llBlock := (view_frame c s).field State.llBlock (fun _ _ => rfl)
@[simp] theorem view_llTouched (c : Consumer) (s : State) : (s.view c).llTouched = s.llTouched := (view_frame c s).field State.llTouched (fun _ _ => rfl)
@[simp] theorem view_sleeping (c : Consumer) (s : State) : (s.view c).sleeping = s.sleeping := (view_frame c s).field State.sleeping (fun _ _ => rfl)
@[simp] theorem view_mem (c : Consumer) (s : State) : (s.view c).mem = s.mem := (view_frame c s).field State.mem (fun _ _ => rfl)
@[simp] theorem view_dcache (c : Consumer) (s : State) : (s.view c).dcache = s.dcache := (view_frame c s).field State.dcache (fun _ _ => rfl)
@[simp] theorem view_gather (c : Consumer) (s : State) : (s.view c).gather = s.gather := (view_frame c s).field State.gather (fun _ _ => rfl)
@[simp] theorem view_ispram (c : Consumer) (s : State) : (s.view c).ispram = s.ispram := (view_frame c s).field State.ispram (fun _ _ => rfl)
@[simp] theorem view_dspram (c : Consumer) (s : State) : (s.view c).dspram = s.dspram := (view_frame c s).field State.dspram (fun _ _ => rfl)
@[simp] theorem view_inputs (c : Consumer) (s : State) : (s.view c).inputs = s.inputs := (view_frame c s).field State.inputs (fun _ _ => rfl)
@[simp] theorem view_pendDBE (c : Consumer) (s : State) : (s.view c).pendDBE = s.pendDBE := (view_frame c s).field State.pendDBE (fun _ _ => rfl)
@[simp] theorem view_dbeHeld (c : Consumer) (s : State) : (s.view c).dbeHeld = s.dbeHeld := (view_frame c s).field State.dbeHeld (fun _ _ => rfl)
@[simp] theorem view_pendCacheErr (c : Consumer) (s : State) : (s.view c).pendCacheErr = s.pendCacheErr := (view_frame c s).field State.pendCacheErr (fun _ _ => rfl)
@[simp] theorem view_pendCacheErrData (c : Consumer) (s : State) : (s.view c).pendCacheErrData = s.pendCacheErrData := (view_frame c s).field State.pendCacheErrData (fun _ _ => rfl)
@[simp] theorem view_hazards (c : Consumer) (s : State) : (s.view c).hazards = s.hazards := (view_frame c s).field State.hazards (fun _ _ => rfl)
@[simp] theorem view_cp2State (c : Consumer) (s : State) : (s.view c).cp2State = s.cp2State := (view_frame c s).field State.cp2State (fun _ _ => rfl)
@[simp] theorem view_udiState (c : Consumer) (s : State) : (s.view c).udiState = s.udiState := (view_frame c s).field State.udiState (fun _ _ => rfl)
@[simp] theorem view_excCount (c : Consumer) (s : State) : (s.view c).excCount = s.excCount := (view_frame c s).field State.excCount (fun _ _ => rfl)
@[simp] theorem view_freeCtr (c : Consumer) (s : State) : (s.view c).freeCtr = s.freeCtr := (view_frame c s).field State.freeCtr (fun _ _ => rfl)
@[simp] theorem view_env (c : Consumer) (s : State) : (s.view c).env = s.env := (view_frame c s).field State.env (fun _ _ => rfl)
@[simp] theorem view_choices (c : Consumer) (s : State) : (s.view c).choices = s.choices := (view_frame c s).field State.choices (fun _ _ => rfl)

/-! ## General registers (R30, R31) -/

@[simp] theorem readSet_zero (s : State) (set : BitVec 4) : s.readSet set 0#5 = 0#32 := by simp [State.readSet]

@[simp] theorem readGpr_zero (s : State) : s.readGpr 0#5 = 0#32 := by simp [State.readGpr]

@[simp] theorem writeSet_zero (s : State) (set : BitVec 4) (v : Word) : s.writeSet set 0#5 v = s := by
  simp [State.writeSet]

/-- The place of a register determines its set and number. -/
theorem gprIndex_inj {a b : BitVec 4} {p q : Reg} (h : (gprIndex a p).toNat = (gprIndex b q).toNat) : a = b ∧ p = q := by
  have h2 : gprIndex a p = gprIndex b q := BitVec.eq_of_toNat_eq h
  have ha : (gprIndex a p).extractLsb' 5 4 = a := by
    simp only [gprIndex]; exact BitVec.extractLsb'_append_eq_left
  have hb : (gprIndex b q).extractLsb' 5 4 = b := by
    simp only [gprIndex]; exact BitVec.extractLsb'_append_eq_left
  have hp : (gprIndex a p).extractLsb' 0 5 = p := by
    simp only [gprIndex]; exact BitVec.extractLsb'_append_eq_right
  have hq : (gprIndex b q).extractLsb' 0 5 = q := by
    simp only [gprIndex]; exact BitVec.extractLsb'_append_eq_right
  exact ⟨by rw [← ha, h2, hb], by rw [← hp, h2, hq]⟩

/-- Reading a register of a set after writing one: the written one, where it is not register 0, and every other as
before. -/
theorem readSet_writeSet (s : State) (set set' : BitVec 4) (r q : Reg) (v : Word) :
    (s.writeSet set r v).readSet set' q =
      if q = 0 then 0 else if set' = set ∧ q = r then v else s.readSet set' q := by
  by_cases hq : q = 0
  · simp [State.readSet, hq]
  · by_cases hr : r = 0
    · subst hr
      have hq' : ¬q = 0#5 := hq
      simp [State.writeSet, State.readSet, hq']
    · simp only [State.readSet, State.writeSet, hq, hr, if_false]
      by_cases h : set' = set ∧ q = r
      · obtain ⟨rfl, rfl⟩ := h
        simp
      · simp only [h, if_false]
        rw [Vector.getElem_set_ne]
        intro e
        obtain ⟨h1, h2⟩ := gprIndex_inj e
        exact h ⟨h1.symm, h2.symm⟩

@[simp] theorem writeGpr_curSet (s : State) (r : Reg) (v : Word) : (s.writeGpr r v).curSet = s.curSet := by
  simp [State.curSet, State.css]

/-- Reading a register after writing one in the same set. -/
theorem readGpr_writeGpr (s : State) (r q : Reg) (v : Word) :
    (s.writeGpr r v).readGpr q = if q = 0 then 0 else if q = r then v else s.readGpr q := by
  rw [State.readGpr, writeGpr_curSet, State.writeGpr, readSet_writeSet]
  simp [State.readGpr]

end Sys2Proof.Machine
end

