-- ==== Sys2Proof/Laws/Memory.lean ====
section
/-! SUPPORT. Sparse storage and memory: a read after a write, and the canonical form kept by every memory operation
(log 2). -/

namespace Sys2Proof.Machine

/-! ## Sparse storage -/

section Sparse

variable {α : Type} [DecidableEq α] (d : α)

omit [DecidableEq α] in
theorem sparseGet_erase (l : List (Nat × α)) (k j : Nat) :
    sparseGet d (sparseErase l k) j = if j = k then d else sparseGet d l j := by
  induction l with
  | nil => simp [sparseErase, sparseGet]
  | cons p t ih =>
    obtain ⟨k', v⟩ := p
    simp only [sparseErase]
    split
    · rw [ih]; simp only [sparseGet]
      by_cases h1 : j = k
      · simp [h1]
      · have : k' ≠ j := by omega
        simp [h1, this]
    · simp only [sparseGet]
      rw [ih]
      by_cases h1 : k' = j
      · have : j ≠ k := by omega
        simp [h1, this]
      · simp [h1]

omit [DecidableEq α] in
theorem sparseGet_put (l : List (Nat × α)) (k : Nat) (v : α) (j : Nat) :
    sparseGet d (sparsePut l k v) j = if j = k then v else sparseGet d l j := by
  induction l with
  | nil =>
    simp only [sparsePut, sparseGet]
    by_cases h : k = j <;> simp [h, eq_comm]
  | cons p t ih =>
    obtain ⟨k', v'⟩ := p
    simp only [sparsePut]
    split
    · simp only [sparseGet, ih]
      by_cases h1 : k' = j
      · have : j ≠ k := by omega
        simp [h1, this]
      · simp [h1]
    · split
      · next h =>
        subst h
        simp only [sparseGet]
        by_cases h : k' = j
        · simp [h]
        · have h' : ¬ j = k' := fun e => h e.symm
          simp [h, h']
      · simp only [sparseGet]
        by_cases h : k = j
        · simp [h]
        · have : ¬ j = k := fun e => h e.symm
          simp [h, this]

/-- Reading any key after one write. -/
theorem sparseGet_set (l : List (Nat × α)) (k : Nat) (v : α) (j : Nat) :
    sparseGet d (sparseSet d l k v) j = if j = k then v else sparseGet d l j := by
  unfold sparseSet
  split
  · next h => rw [sparseGet_erase, h]
  · rw [sparseGet_put]

/-- A lower bound for the keys may be lowered. -/
theorem sparseWf_mono (l : List (Nat × α)) (a b : Option Nat) (h : sparseWf d a l)
    (hab : ∀ x, b = some x → ∃ y, a = some y ∧ x ≤ y) : sparseWf d b l := by
  cases l with
  | nil => rfl
  | cons p t =>
    obtain ⟨k, v⟩ := p
    simp only [sparseWf, Bool.and_eq_true] at h ⊢
    refine ⟨⟨?_, h.1.2⟩, h.2⟩
    cases b with
    | none => rfl
    | some x =>
      obtain ⟨y, rfl, hy⟩ := hab x rfl
      have := h.1.1
      simp only [decide_eq_true_eq] at this ⊢
      omega

theorem sparseWf_erase (l : List (Nat × α)) (k : Nat) : ∀ a, sparseWf d a l → sparseWf d a (sparseErase l k) := by
  induction l with
  | nil => intro a h; exact h
  | cons p t ih =>
    obtain ⟨k', v⟩ := p
    intro a h
    simp only [sparseWf, Bool.and_eq_true] at h
    simp only [sparseErase]
    split
    · refine sparseWf_mono d _ _ _ (ih _ h.2) ?_
      intro x hx
      subst hx
      have := h.1.1
      simp only [decide_eq_true_eq] at this
      exact ⟨k', rfl, by omega⟩
    · simp only [sparseWf, Bool.and_eq_true]
      exact ⟨h.1, ih _ h.2⟩

theorem sparseWf_put (l : List (Nat × α)) (k : Nat) (v : α) (hv : v ≠ d) :
    ∀ a, sparseWf d a l → (∀ x, a = some x → x < k) → sparseWf d a (sparsePut l k v) := by
  induction l with
  | nil =>
    intro a _ ha
    simp only [sparsePut, sparseWf, Bool.and_eq_true, decide_eq_true_eq]
    refine ⟨⟨?_, hv⟩, trivial⟩
    cases a with
    | none => rfl
    | some x => simpa using ha x rfl
  | cons p t ih =>
    obtain ⟨k', v'⟩ := p
    intro a h ha
    simp only [sparsePut]
    have h0 := h
    simp only [sparseWf, Bool.and_eq_true] at h
    split
    · next hk =>
      simp only [sparseWf, Bool.and_eq_true]
      exact ⟨h.1, ih _ h.2 (by intro x hx; cases hx; exact hk)⟩
    · split
      · next hk =>
        subst hk
        simp only [sparseWf, Bool.and_eq_true, decide_eq_true_eq]
        exact ⟨⟨h.1.1, hv⟩, h.2⟩
      · next h1 h2 =>
        simp only [sparseWf, Bool.and_eq_true, decide_eq_true_eq]
        refine ⟨⟨?_, hv⟩, ⟨by omega, by simpa using h.1.2⟩, h.2⟩
        cases a with
        | none => rfl
        | some x => simpa using ha x rfl

/-- A write keeps the canonical form. -/
theorem sparseWf_set (l : List (Nat × α)) (k : Nat) (v : α) (h : sparseWf d none l) :
    sparseWf d none (sparseSet d l k v) := by
  unfold sparseSet
  split
  · exact sparseWf_erase d l k none h
  · next hv => exact sparseWf_put d l k v hv none h (by intro x hx; cases hx)

end Sparse

theorem risingKeys_put {α : Type} (l : List (Nat × α)) (k : Nat) (v : α) :
    ∀ a, risingKeys a l → (∀ x, a = some x → x < k) → risingKeys a (sparsePut l k v) := by
  induction l with
  | nil =>
    intro a _ ha
    simp only [sparsePut, risingKeys, Bool.and_true]
    cases a with
    | none => rfl
    | some x => simpa using ha x rfl
  | cons p t ih =>
    obtain ⟨k', v'⟩ := p
    intro a h ha
    simp only [sparsePut]
    simp only [risingKeys, Bool.and_eq_true] at h
    split
    · next hk =>
      simp only [risingKeys, Bool.and_eq_true]
      exact ⟨h.1, ih _ h.2 (by intro x hx; cases hx; exact hk)⟩
    · split
      · next hk =>
        subst hk
        simp only [risingKeys, Bool.and_eq_true]
        exact h
      · next h1 h2 =>
        simp only [risingKeys, Bool.and_eq_true, decide_eq_true_eq]
        refine ⟨?_, by omega, h.2⟩
        cases a with
        | none => rfl
        | some x => simpa using ha x rfl

/-! ## Physical memory -/

/-- Reading any byte after one write. -/
theorem Memory.read_write (m : List Host.Cell) (a : Nat) (v : Byte) (b : Nat) :
    Memory.read (Memory.write m a v) b = if b = a then v else Memory.read m b := sparseGet_set _ _ _ _ _

theorem Memory.wf_write (m : List Host.Cell) (a : Nat) (v : Byte) (h : Memory.wf m) : Memory.wf (Memory.write m a v) :=
  sparseWf_set _ _ _ _ h

theorem Memory.wf_nil : Memory.wf [] := rfl

/-- Reading any byte after a run of bytes was written. -/
theorem Memory.read_writeBytes (bs : List Byte) : ∀ (m : List Host.Cell) (a b : Nat),
    Memory.read (Memory.writeBytes m a bs) b =
      if a ≤ b ∧ b < a + bs.length then bs.getD (b - a) 0 else Memory.read m b := by
  induction bs with
  | nil => intro m a b; simp only [Memory.writeBytes, List.length_nil]; rw [if_neg (by omega)]
  | cons x t ih =>
    intro m a b
    simp only [Memory.writeBytes, ih, Memory.read_write, List.length_cons]
    by_cases h1 : b = a
    · subst h1
      simp
    · by_cases h2 : a + 1 ≤ b ∧ b < a + 1 + t.length
      · have h3 : a ≤ b ∧ b < a + (t.length + 1) := by omega
        obtain ⟨c, hc⟩ : ∃ c, b - a = c + 1 := ⟨b - a - 1, by omega⟩
        have : b - (a + 1) = c := by omega
        simp only [h2, h3, and_self, if_true, hc, this, List.getD_cons_succ]
      · have h3 : ¬(a ≤ b ∧ b < a + (t.length + 1)) := by omega
        simp only [h2, h3, if_false, h1]

theorem Memory.wf_writeBytes (bs : List Byte) : ∀ (m : List Host.Cell) (a : Nat),
    Memory.wf m → Memory.wf (Memory.writeBytes m a bs) := by
  induction bs with
  | nil => intro m a h; exact h
  | cons x t ih => intro m a h; exact ih _ _ (Memory.wf_write _ _ _ h)

theorem wf_physWrite (map : List Region) (bs : List Byte) : ∀ (m : List Host.Cell) (a : Nat),
    Memory.wf m → Memory.wf (physWrite map m a bs) := by
  induction bs with
  | nil => intro m a h; exact h
  | cons x t ih =>
    intro m a h
    refine ih _ _ ?_
    split
    · exact Memory.wf_write _ _ _ h
    · exact h

/-- Writing bytes that all fall in RAM. -/
theorem physWrite_ram (map : List Region) (bs : List Byte) : ∀ (m : List Host.Cell) (a : Nat),
    (∀ j < bs.length, regionAt map (a + j) = some .ram) → physWrite map m a bs = Memory.writeBytes m a bs := by
  induction bs with
  | nil => intros; rfl
  | cons x t ih =>
    intro m a h
    have h0 := h 0 (by simp)
    simp only [Nat.add_zero] at h0
    simp only [physWrite, h0, if_true, Memory.writeBytes]
    refine ih _ _ ?_
    intro j hj
    have := h (j + 1) (by simpa using hj)
    rwa [Nat.add_assoc, Nat.add_comm 1 j]

/-- Reading any byte after a run of bytes was written to the physical map: only RAM takes them (R276). -/
theorem read_physWrite (map : List Region) (bs : List Byte) : ∀ (m : List Host.Cell) (a b : Nat),
    Memory.read (physWrite map m a bs) b =
      if a ≤ b ∧ b < a + bs.length ∧ regionAt map b = some .ram then bs.getD (b - a) 0 else Memory.read m b := by
  induction bs with
  | nil => intro m a b; simp only [physWrite, List.length_nil]; rw [if_neg (by omega)]
  | cons x t ih =>
    intro m a b
    simp only [physWrite, ih, List.length_cons]
    by_cases hb : a + 1 ≤ b ∧ b < a + 1 + t.length ∧ regionAt map b = some .ram
    · rw [if_pos hb, if_pos ⟨by omega, by omega, hb.2.2⟩]
      have e : b - a = b - (a + 1) + 1 := by omega
      rw [e, List.getD_cons_succ]
    · rw [if_neg hb]
      by_cases he : b = a
      · subst he
        by_cases hr : regionAt map b = some .ram
        · rw [if_pos hr, if_pos ⟨by omega, by omega, hr⟩, Memory.read_write]; simp
        · rw [if_neg hr, if_neg (fun h => hr h.2.2)]
      · have e : Memory.read (if regionAt map a = some .ram then Memory.write m a x else m) b = Memory.read m b := by
          split
          · rw [Memory.read_write, if_neg he]
          · rfl
        rw [e, if_neg]
        rintro ⟨h1, h2, h3⟩
        exact hb ⟨by omega, by omega, h3⟩

/-- A byte that no gathered store writes, or that is not RAM, reads as before. -/
theorem read_physWriteCells_other (map : List Region) (cs : List Host.Cell) (b : Nat)
    (h : b ∉ cs.map Prod.fst ∨ regionAt map b ≠ some .ram) : ∀ m : List Host.Cell,
    Memory.read (physWriteCells map m cs) b = Memory.read m b := by
  induction cs with
  | nil => intro m; rfl
  | cons c t ih =>
    intro m
    obtain ⟨a, v⟩ := c
    simp only [List.map_cons, List.mem_cons, not_or] at h
    simp only [physWriteCells]
    rw [ih (h.imp (·.2) id), read_physWrite, if_neg]
    rintro ⟨h1, h2, h3⟩
    simp only [List.length_singleton] at h2
    exact h.elim (fun h => h.1 (by omega)) (fun h => h h3)

theorem risingKeys_lt {α : Type} (l : List (Nat × α)) : ∀ k, risingKeys (some k) l → ∀ p ∈ l, k < p.1 := by
  induction l with
  | nil => intro k _ p h; cases h
  | cons c t ih =>
    intro k h p hm
    simp only [risingKeys, Bool.and_eq_true, decide_eq_true_eq] at h
    rcases List.mem_cons.1 hm with e | hm
    · rw [e]; exact h.1
    · exact Nat.lt_trans h.1 (ih _ h.2 p hm)

/-- A gathered byte of RAM reads as gathered, where no address is listed twice. -/
theorem read_physWriteCells_mem (map : List Region) (cs : List Host.Cell) (b : Nat) (v : Byte) (hm : (b, v) ∈ cs)
    (hr : regionAt map b = some .ram) : ∀ (a : Option Nat) (m : List Host.Cell), risingKeys a cs →
    Memory.read (physWriteCells map m cs) b = v := by
  induction cs with
  | nil => cases hm
  | cons c t ih =>
    intro a m h
    obtain ⟨k, w⟩ := c
    simp only [risingKeys, Bool.and_eq_true] at h
    simp only [physWriteCells]
    rcases List.mem_cons.1 hm with e | hm
    · cases e
      rw [read_physWriteCells_other map t b (.inl _), read_physWrite, if_pos ⟨by omega, by simp, hr⟩]
      · simp
      · intro hb
        obtain ⟨p, hp, e⟩ := List.mem_map.1 hb
        have := risingKeys_lt t b h.2 p hp
        omega
    · exact ih hm _ _ h.2

theorem wf_physWriteCells (map : List Region) (cs : List Host.Cell) : ∀ (m : List Host.Cell),
    Memory.wf m → Memory.wf (physWriteCells map m cs) := by
  induction cs with
  | nil => intro m h; exact h
  | cons c t ih =>
    obtain ⟨a, b⟩ := c
    intro m h
    exact ih _ (wf_physWrite _ _ _ _ h)

/-! ## Caches -/

/-- `Cache.wf` as its parts. -/
theorem Cache.wf_iff (c : Cache) : c.wf ↔ sparseWf .zero none c.tags ∧ Memory.wf c.data ∧ sparseWf none none c.tagP ∧
    sparseWf none none c.dirtyP ∧ sparseWf none none c.dataP ∧ sparseWf none none c.lru := by
  simp only [Cache.wf, Bool.and_eq_true, and_assoc]

theorem Cache.wf_setTag (c : Cache) (slot : Nat) (t : CacheTag) (h : c.wf) : (c.setTag slot t).wf := by
  rw [Cache.wf_iff] at h ⊢
  exact ⟨sparseWf_set _ _ _ _ h.1, h.2.1, sparseWf_set none c.tagP slot none h.2.2.1,
    sparseWf_set none c.dirtyP slot none h.2.2.2.1, h.2.2.2.2⟩

theorem sparseWf_clearParity (n : Nat) : ∀ (l : List (Nat × Option (BitVec 9))) (k : Nat),
    sparseWf none none l → sparseWf none none (clearParity l k n) := by
  induction n with
  | zero => intro l k h; exact h
  | succ n ih => intro l k h; exact sparseWf_set _ _ _ _ (ih l k h)

theorem Cache.wf_used (c : Cache) (set : Nat) (h : c.wf) : (c.used set).wf := by
  rw [Cache.wf_iff] at h ⊢
  exact ⟨h.1, h.2.1, h.2.2.1, h.2.2.2.1, h.2.2.2.2.1, sparseWf_set none c.lru set none h.2.2.2.2.2⟩

theorem Cache.wf_setDirty (c : Cache) (slot : Nat) (b : Bool) (p : Option Bool) (h : c.wf) : (c.setDirty slot b p).wf := by
  rw [Cache.wf_iff] at h ⊢
  exact ⟨sparseWf_set _ _ _ _ h.1, h.2.1, h.2.2.1, sparseWf_set _ _ _ _ h.2.2.2.1, h.2.2.2.2⟩

theorem Cache.wf_setDirtyWays (c : Cache) (cfg : Cfg) (set : Nat) (w : Word) (force : Bool) (h : c.wf) : ∀ n : Nat,
    (c.setDirtyWays cfg set w force n).wf
  | 0 => h
  | n + 1 => Cache.wf_setDirty _ _ _ _ (Cache.wf_setDirtyWays c cfg set w force h n)

theorem Cache.wf_setLru (c : Cache) (set : Nat) (v : Option (BitVec 6)) (h : c.wf) :
    ({ c with lru := sparseSet none c.lru set v } : Cache).wf := by
  rw [Cache.wf_iff] at h ⊢
  exact ⟨h.1, h.2.1, h.2.2.1, h.2.2.2.1, h.2.2.2.2.1, sparseWf_set _ _ _ _ h.2.2.2.2.2⟩

theorem Cache.wf_forceTagP (c : Cache) (slot : Nat) (force b : Bool) (h : c.wf) : (c.forceTagP slot force b).wf := by
  unfold Cache.forceTagP
  split
  · rw [Cache.wf_iff] at h ⊢
    exact ⟨h.1, h.2.1, sparseWf_set none c.tagP slot (some b) h.2.2.1, h.2.2.2⟩
  · exact h

theorem Cache.wf_forceDataP (c : Cache) (key : Nat) (force : Bool) (p : BitVec 9) (h : c.wf) :
    (c.forceDataP key force p).wf := by
  unfold Cache.forceDataP
  split
  · rw [Cache.wf_iff] at h ⊢
    exact ⟨h.1, h.2.1, h.2.2.1, h.2.2.2.1, sparseWf_set none c.dataP key (some p) h.2.2.2.2.1, h.2.2.2.2.2⟩
  · exact h

theorem Cache.wf_setBytes (c : Cache) (line slot off : Nat) (bs : List Byte) (h : c.wf) :
    (c.setBytes line slot off bs).wf := by
  rw [Cache.wf_iff] at h ⊢
  exact ⟨h.1, Memory.wf_writeBytes _ _ _ h.2.1, h.2.2.1, h.2.2.2.1, sparseWf_clearParity _ _ _ h.2.2.2.2.1,
    h.2.2.2.2.2⟩

/-! ## The canonical form of the whole state -/

/-- `memWf` as its parts. -/
theorem memWf_iff (s : State) : s.memWf ↔
    Memory.wf s.mem ∧ s.icache.wf ∧ s.dcache.wf ∧ Memory.wf s.ispram.cells ∧ Memory.wf s.dspram.cells ∧
      ∀ g, s.gather = some g → risingKeys none g.cells := by
  unfold State.memWf
  cases s.gather <;> simp [and_assoc]

/-- Only the memories matter. -/
theorem memWf_congr {s t : State} (h : s.memWf) (h1 : t.mem = s.mem) (h2 : t.icache = s.icache)
    (h3 : t.dcache = s.dcache) (h4 : t.ispram = s.ispram) (h5 : t.dspram = s.dspram) (h6 : t.gather = s.gather) :
    t.memWf := by
  rw [memWf_iff] at h ⊢
  rwa [h1, h2, h3, h4, h5, h6]

/-- A property of every state a computation can give. -/
def Res.All {α : Type} (P : State → Prop) : Res α → Prop
  | .ok _ s => P s
  | .exc _ s => P s
  | .wait s => P s
  | .ref _ => True
  | .flt _ => True

theorem Res.All.andThen {α β : Type} {P : State → Prop} {r : Res α} {k : α → State → Res β} (h : r.All P)
    (hk : ∀ a s, P s → (k a s).All P) : (r.andThen k).All P := by
  cases r with
  | ok a s => exact hk a s h
  | exc e s => exact h
  | wait s => exact h
  | ref q => trivial
  | flt f => trivial

/-- A property of the next state of an outcome. -/
def Next (P : State → Prop) : Out → Prop
  | .next s => P s
  | _ => True

theorem memWf_flushGather (s : State) (h : s.memWf) : s.flushGather.memWf := by
  rw [memWf_iff] at h ⊢
  unfold State.flushGather
  split
  · exact h
  · exact ⟨wf_physWriteCells _ _ _ h.1, h.2.1, h.2.2.1, h.2.2.2.1, h.2.2.2.2.1, by intro g hg; cases hg⟩

theorem memWf_flushLine (s : State) (pa : Word) (h : s.memWf) : (s.flushLine pa).memWf := by
  unfold State.flushLine
  split
  · split
    · exact memWf_flushGather s h
    · exact h
  · exact h

theorem memWf_setCache (s : State) (d : Bool) (c : Cache) (h : s.memWf) (hc : c.wf) : (s.setCache d c).memWf := by
  rw [memWf_iff] at h ⊢
  cases d
  · exact ⟨h.1, hc, h.2.2⟩
  · exact ⟨h.1, h.2.1, hc, h.2.2.2⟩

theorem memWf_cache (s : State) (d : Bool) (h : s.memWf) : (s.cache d).wf := by
  rw [memWf_iff] at h
  cases d
  · exact h.2.1
  · exact h.2.2.1

theorem memWf_setTag (s : State) (d : Bool) (slot : Nat) (t : CacheTag) (h : s.memWf) :
    (s.setCache d ((s.cache d).setTag slot t)).memWf :=
  memWf_setCache s d _ h (Cache.wf_setTag _ _ _ (memWf_cache s d h))

theorem memWf_useSlot (s : State) (d : Bool) (slot : Nat) (h : s.memWf) : (s.useSlot d slot).memWf :=
  memWf_setCache s d _ h (Cache.wf_used _ _ (memWf_cache s d h))

theorem memWf_writebackSlot (s : State) (slot : Nat) (h : s.memWf) : (s.writebackSlot slot).memWf := by
  unfold State.writebackSlot
  simp only
  split
  · rw [memWf_iff] at h ⊢
    exact ⟨wf_physWrite _ _ _ _ h.1, h.2.1, Cache.wf_setTag _ _ _ h.2.2.1, h.2.2.2⟩
  · exact h

theorem memWf_invalidateSlot (s : State) (d : Bool) (slot : Nat) (h : s.memWf) : (s.invalidateSlot d slot).memWf :=
  memWf_useSlot _ _ _ (memWf_setTag s d slot _ h)

theorem memWf_busRead (s : State) (fetch : Bool) (pa n : Nat) (h : s.memWf) :
    (s.busRead fetch pa n).All (fun t => t.memWf = true) := by
  unfold State.busRead
  split
  · exact memWf_congr h rfl rfl rfl rfl rfl rfl
  · split
    · exact memWf_congr h rfl rfl rfl rfl rfl rfl
    · split
      · trivial
      · split <;> exact h

theorem memWf_installLine (s : State) (d : Bool) (va pa : Word) (way : Nat) (bs : List Byte) (dirty : Bool)
    (h : s.memWf) : (s.installLine d va pa way bs dirty).2.memWf := by
  unfold State.installLine
  simp only
  have h1 : (if d = true then s.writebackSlot (slotOf s.cfg d way (setIndex s.cfg d va pa)) else s).memWf := by
    split
    · exact memWf_writebackSlot s _ h
    · exact h
  exact memWf_useSlot _ _ _
    (memWf_setCache _ _ _ h1 (Cache.wf_setTag _ _ _ (Cache.wf_setBytes _ _ _ _ _ (memWf_cache _ _ h1))))

theorem memWf_dropChoice (s : State) (h : s.memWf) : s.dropChoice.memWf := memWf_congr h rfl rfl rfl rfl rfl rfl

theorem memWf_refill (s : State) (d fetch : Bool) (va pa : Word) (allowed : Nat → Bool) (h : s.memWf) :
    (s.refill d fetch va pa allowed).All (fun t => t.memWf = true) := by
  unfold State.refill
  split
  · trivial
  · simp only
    have h0 : (if d = true then s.flushLine pa else s).memWf := by
      split
      · exact memWf_flushLine s pa h
      · exact h
    refine Res.All.andThen (memWf_busRead _ _ _ _ (memWf_dropChoice _ h0)) ?_
    intro a t ht
    split
    · exact ht
    · exact memWf_installLine _ _ _ _ _ _ _ ht

theorem memWf_ensureLine (s : State) (d fetch : Bool) (va pa : Word) (h : s.memWf) :
    (s.ensureLine d fetch va pa).All (fun t => t.memWf = true) := by
  unfold State.ensureLine
  split
  · exact memWf_useSlot _ _ _ h
  · exact memWf_refill _ _ _ _ _ _ h

theorem memWf_noteDBE (s : State) (h : s.memWf) : s.noteDBE.memWf := memWf_congr h rfl rfl rfl rfl rfl rfl

theorem memWf_readPart (s : State) (va pa : Word) (cca : BitVec 3) (n : Nat) (h : s.memWf) :
    (s.readPart va pa cca n).All (fun t => t.memWf = true) := by
  unfold State.readPart
  split
  · exact h
  · split
    · trivial
    · split
      · refine Res.All.andThen (memWf_ensureLine _ _ _ _ _ (memWf_flushLine s pa h)) ?_
        intro a t ht
        split
        · exact ht
        · exact memWf_noteDBE t ht
      · refine Res.All.andThen (memWf_busRead _ _ _ _ (memWf_flushLine s pa h)) ?_
        intro a t ht
        split
        · exact ht
        · exact memWf_noteDBE t ht

theorem risingKeys_gatherPut (bs : List Byte) : ∀ (cells : List Host.Cell) (a : Nat),
    risingKeys none cells → risingKeys none (gatherPut cells a bs) := by
  induction bs with
  | nil => intro c a h; exact h
  | cons b t ih => intro c a h; exact ih _ _ (risingKeys_put _ _ _ none h (by intro x hx; cases hx))

theorem memWf_gatherStore (s : State) (pa : Nat) (bs : List Byte) (h : s.memWf) : (s.gatherStore pa bs).memWf := by
  have key : ∀ (u : State) (l : Nat), u.memWf →
      ({ u with gather := some ⟨l, gatherPut (match u.gather with | some g => g.cells | none => []) pa bs⟩ } : State).memWf := by
    intro u l hu
    rw [memWf_iff] at hu ⊢
    refine ⟨hu.1, hu.2.1, hu.2.2.1, hu.2.2.2.1, hu.2.2.2.2.1, ?_⟩
    intro g hg
    cases hg
    refine risingKeys_gatherPut _ _ _ ?_
    split
    · next g' hg' => exact hu.2.2.2.2.2 _ hg'
    · rfl
  unfold State.gatherStore
  simp only
  split
  · exact memWf_flushGather _ (key _ _ (by split <;> (try split) <;> first | exact h | exact memWf_flushGather s h))
  · exact key _ _ (by split <;> (try split) <;> first | exact h | exact memWf_flushGather s h)

theorem memWf_writePart (s : State) (va pa : Word) (cca : BitVec 3) (whole : Bool) (bs : List Byte) (h : s.memWf) :
    (s.writePart va pa cca whole bs).All (fun t => t.memWf = true) := by
  unfold State.writePart
  split
  · have h' := (memWf_iff s).1 h
    exact (memWf_iff _).2 ⟨h'.1, h'.2.1, h'.2.2.1, h'.2.2.2.1, Memory.wf_writeBytes _ _ _ h'.2.2.2.2.1, h'.2.2.2.2.2⟩
  · split
    · trivial
    · simp only
      split
      · refine Res.All.andThen (memWf_ensureLine _ _ _ _ _ h) ?_
        intro a t ht
        split
        · exact memWf_setCache t true _ ht (Cache.wf_setTag _ _ _ (Cache.wf_setBytes _ _ _ _ _ (memWf_cache t true ht)))
        · have h' := (memWf_iff _).1 (memWf_noteDBE t ht)
          exact (memWf_iff _).2 ⟨wf_physWrite _ _ _ _ h'.1, h'.2⟩
      · split
        · trivial
        · split
          · split
            · exact memWf_gatherStore _ _ _ h
            · trivial
          · have h0 := (memWf_iff _).1 (memWf_flushLine s pa h)
            have h1 : ({ s.flushLine pa with
                mem := physWrite s.cfg.physMap (s.flushLine pa).mem pa.toNat bs } : State).memWf :=
              (memWf_iff _).2 ⟨wf_physWrite _ _ _ _ h0.1, h0.2⟩
            split
            · split
              · exact memWf_useSlot _ _ _ (memWf_setCache _ true _ h1 (Cache.wf_setBytes _ _ _ _ _ h0.2.2.1))
              · split
                · refine Res.All.andThen (memWf_refill _ _ _ _ _ _ (memWf_dropChoice _ h1)) ?_
                  intro a t ht
                  split
                  · exact ht
                  · exact memWf_noteDBE t ht
                · exact memWf_dropChoice _ h1
            · exact h1

theorem memWf_fetchPart (s : State) (va pa : Word) (cca : BitVec 3) (h : s.memWf) :
    (s.fetchPart va pa cca).All (fun t => t.memWf = true) := by
  unfold State.fetchPart
  split
  · trivial
  · split
    · exact h
    · split
      · trivial
      · simp only
        split
        · split
          · exact memWf_useSlot _ _ _ h
          · split
            · exact Res.All.andThen (memWf_busRead _ _ _ _ h) (fun _ _ ht => ht)
            · refine Res.All.andThen (memWf_refill _ _ _ _ _ _ h) ?_
              intro a t ht
              split <;> exact ht
        · exact memWf_busRead _ _ _ _ h

/-! ## `synci`, `pref`, `cache` -/

theorem memWf_pushHazard (s : State) (o : HazardOld) (h : s.memWf) : (s.pushHazard o).memWf :=
  memWf_congr h rfl rfl rfl rfl rfl rfl

theorem memWf_setCp (s : State) (p : Producer) (r : CpReg) (m w : Word) (h : s.memWf) :
    (s.setCp p r m w).memWf :=
  memWf_congr h rfl rfl rfl rfl rfl rfl

theorem memWf_synciLine (s : State) (va pa : Word) (cca : BitVec 3) (h : s.memWf) : (s.synciLine va pa cca).memWf := by
  have key : ∀ u : State, u.memWf →
      (match u.icache.lookup s.cfg false va pa with
        | some slot => ((u.pushILine .tag slot).setCache false
            (u.icache.setTag slot { u.icache.tag slot with v := false })).useSlot false slot
        | none => u).memWf := by
    intro u hu
    split
    · exact memWf_useSlot _ _ _
        (memWf_setCache _ false _ (memWf_pushHazard _ _ hu) (Cache.wf_setTag _ _ _ (memWf_cache u false hu)))
    · exact hu
  unfold State.synciLine
  split
  · exact h
  · have h1 : (if lineBytes s.cfg true = 0 then s else
        match s.dcache.lookup s.cfg true va pa with
        | some slot => s.writebackSlot slot
        | none => s).memWf := by
      split
      · exact h
      · split
        · exact memWf_writebackSlot s _ h
        · exact h
    simp only
    split
    · exact h1
    · exact key _ h1

theorem memWf_prefetchLine (s : State) (va pa : Word) (allowed : Nat → Bool) (h : s.memWf) :
    (s.prefetchLine va pa allowed).All (fun t => t.memWf = true) := by
  unfold State.prefetchLine
  split
  · exact memWf_useSlot _ _ _ h
  · split
    · exact h
    · exact Res.All.andThen (memWf_refill _ _ _ _ _ _ h) (fun _ _ ht => ht)

theorem memWf_prepareForStore (s : State) (va pa : Word) (h : s.memWf) : (s.prepareForStore va pa).memWf := by
  unfold State.prepareForStore
  split
  · exact h
  · split
    · exact h
    · exact memWf_installLine _ _ _ _ _ _ _ (memWf_dropChoice s h)

theorem memWf_nudge (s : State) (va pa : Word) (h : s.memWf) : (s.nudge va pa).memWf := by
  unfold State.nudge
  split
  · exact memWf_invalidateSlot _ _ _ (memWf_writebackSlot s _ h)
  · exact h

theorem memWf_prefetch (s : State) (hint : Reg) (va pa : Word) (cca : BitVec 3) (h : s.memWf) :
    (s.prefetch hint va pa cca).All (fun t => t.memWf = true) := by
  unfold State.prefetch
  split
  · exact h
  · split
    · simp only [Res.All]
      have h1 : (if lineBytes s.cfg true = 0 then s else s.nudge va pa).memWf := by
        split
        · exact h
        · exact memWf_nudge s va pa h
      split
      · exact memWf_flushLine _ pa h1
      · exact h1
    · split
      · exact h
      · split
        · exact memWf_prefetchLine _ _ _ _ h
        · split
          · exact memWf_prefetchLine _ _ _ _ h
          · split
            · exact memWf_prefetchLine _ _ _ _ h
            · exact memWf_prepareForStore s va pa h

theorem memWf_indexLoadTag (s : State) (d : Bool) (va : Word) (h : s.memWf) : (s.indexLoadTag d va).memWf := by
  unfold State.indexLoadTag
  simp only
  split
  · exact memWf_setCp _ _ _ _ _ (memWf_setCp _ _ _ _ _ (memWf_setCp _ _ _ _ _ h))
  · exact memWf_setCp _ _ _ _ _ (memWf_setCp _ _ _ _ _ (memWf_setCp _ _ _ _ _ (memWf_setCp _ _ _ _ _ h)))

theorem memWf_waySelectLoad (s : State) (d : Bool) (va : Word) (h : s.memWf) : (s.waySelectLoad d va).memWf := by
  unfold State.waySelectLoad
  simp only
  split
  · exact memWf_setCp _ _ _ _ _ (memWf_setCp _ _ _ _ _ h)
  · exact memWf_setCp _ _ _ _ _ (memWf_setCp _ _ _ _ _ (memWf_setCp _ _ _ _ _ h))

theorem memWf_waySelectStore (s : State) (d : Bool) (va w : Word) (force : Bool) (h : s.memWf) :
    (s.waySelectStore d va w force).memWf := by
  unfold State.waySelectStore
  simp only
  refine memWf_setCache _ _ _ h (Cache.wf_setLru _ _ _ ?_)
  split
  · exact Cache.wf_setDirtyWays _ _ _ _ _ (memWf_cache s d h) _
  · exact memWf_cache s d h

theorem memWf_spramStoreTag (s : State) (d : Bool) (va w : Word) (h : s.memWf) : (s.spramStoreTag d va w).memWf := by
  have h' := (memWf_iff s).1 h
  cases d
  · simp only [State.spramStoreTag, Bool.false_eq_true, if_false]
    by_cases hc : (!s.cfg.hasISPRAM || !s.cfg.spramWritableTags) = true
    · rw [if_pos hc]; exact h
    · rw [if_neg hc]
      refine (memWf_iff _).2 ⟨h'.1, h'.2.1, h'.2.2.1, ?_, h'.2.2.2.2.1, h'.2.2.2.2.2⟩
      split <;> exact h'.2.2.2.1
  · simp only [State.spramStoreTag, if_true]
    by_cases hc : (!s.cfg.hasDSPRAM || !s.cfg.spramWritableTags) = true
    · rw [if_pos hc]; exact h
    · rw [if_neg hc]
      refine (memWf_iff _).2 ⟨h'.1, h'.2.1, h'.2.2.1, h'.2.2.2.1, ?_, h'.2.2.2.2.2⟩
      split <;> exact h'.2.2.2.2.1

theorem memWf_spramStoreData (s : State) (va : Word) (bs : List Byte) (h : s.memWf) :
    (s.spramStoreData va bs).memWf := by
  unfold State.spramStoreData
  simp only
  split
  · exact h
  · have h' := (memWf_iff s).1 h
    exact (memWf_iff _).2 ⟨h'.1, h'.2.1, h'.2.2.1, Memory.wf_writeBytes _ _ _ h'.2.2.2.1, h'.2.2.2.2.1, h'.2.2.2.2.2⟩

theorem memWf_lockSlot (s : State) (d lock : Bool) (slot : Nat) (h : s.memWf) : (s.lockSlot d lock slot).memWf := by
  unfold State.lockSlot
  split
  · exact memWf_setTag _ _ _ _ h
  · exact h

theorem memWf_fillLine (s : State) (d lock : Bool) (va pa : Word) (h : s.memWf) :
    (s.fillLine d lock va pa).All (fun t => t.memWf = true) := by
  unfold State.fillLine
  split
  · exact h
  · split
    · refine memWf_lockSlot _ _ _ _ (memWf_useSlot _ _ _ ?_)
      split
      · exact h
      · exact memWf_pushHazard _ _ h
    · refine Res.All.andThen (memWf_refill _ _ _ _ _ _ h) ?_
      intro a t ht
      split
      · exact memWf_noteDBE t ht
      · refine memWf_lockSlot _ _ _ _ ?_
        split
        · exact ht
        · exact memWf_pushHazard _ _ ht

theorem memWf_indexOp (s : State) (d : Bool) (op : BitVec 3) (va : Word) (h : s.memWf) :
    (s.indexOp d op va).All (fun t => t.memWf = true) := by
  have hp : ∀ (p : LinePart) (slot : Nat), (if d = true then s else s.pushILine p slot).memWf := by
    intro p slot; split
    · exact h
    · exact memWf_pushHazard _ _ h
  have hq : ∀ slot : Nat, (if d = true then s.writebackSlot slot else s.pushILine .tag slot).memWf := by
    intro slot; split
    · exact memWf_writebackSlot s slot h
    · exact memWf_pushHazard _ _ h
  unfold State.indexOp
  simp only
  split
  · trivial
  · split
    · split
      · exact memWf_setCp _ _ _ _ _ h
      · exact memWf_spramStoreTag _ _ _ _ h
      · split
        · exact h
        · exact memWf_spramStoreData _ _ _ h
      · exact h
    · split
      · exact h
      · split
        · exact memWf_invalidateSlot _ _ _ (hq _)
        · simp only [Res.All]
          split
          · exact memWf_waySelectLoad _ _ _ h
          · exact memWf_indexLoadTag _ _ _ h
        · split
          · exact memWf_waySelectStore _ _ _ _ _ h
          · exact memWf_useSlot _ _ _ (memWf_setCache _ _ _ (hp _ _)
              (Cache.wf_forceTagP _ _ _ _ (Cache.wf_setTag _ _ _ (memWf_cache s d h))))
        · refine memWf_useSlot _ _ _ (memWf_setCache _ _ _ (hp _ _) ?_)
          split
          · exact Cache.wf_forceDataP _ _ _ _ (Cache.wf_setBytes _ _ _ _ _ (memWf_cache s true h))
          · exact Cache.wf_forceDataP _ _ _ _ (Cache.wf_setBytes _ _ _ _ _ (memWf_cache s false h))
        · exact h

theorem memWf_hitOp (s : State) (d : Bool) (op : BitVec 3) (va pa : Word) (h : s.memWf) :
    (s.hitOp d op va pa).memWf := by
  unfold State.hitOp
  split
  · exact h
  · split
    · exact h
    · split
      · refine memWf_invalidateSlot _ _ _ ?_
        split
        · exact h
        · exact memWf_pushHazard _ _ h
      · exact memWf_invalidateSlot _ _ _ (memWf_writebackSlot s _ h)
      · exact memWf_useSlot _ _ _ (memWf_writebackSlot s _ h)
      · exact h

theorem memWf_cacheOp (s : State) (op : Reg) (va pa : Word) (h : s.memWf) :
    (s.cacheOp op va pa).All (fun t => t.memWf = true) := by
  unfold State.cacheOp
  simp only
  split
  · exact memWf_indexOp _ _ _ _ h
  · exact memWf_indexOp _ _ _ _ h
  · exact memWf_indexOp _ _ _ _ h
  · exact memWf_indexOp _ _ _ _ h
  · exact memWf_hitOp _ _ _ _ _ h
  · split
    · exact memWf_hitOp _ _ _ _ _ h
    · exact memWf_fillLine _ _ _ _ _ h
  · split
    · exact memWf_hitOp _ _ _ _ _ h
    · exact h
  · exact memWf_fillLine _ _ _ _ _ h

end Sys2Proof.Machine
end

