-- ==== Sys2Proof/Laws/Ops.lean ====
section
/-! SUPPORT. What each shared operation can answer, said once: the advance of the pc, results, branches, exceptions,
plain data accesses. -/

namespace Sys2Proof.Machine

/-! ## The pc -/

theorem canAdvance_of_not_jump (s : State) (h : s.slot = .none) : s.canAdvance = decide (s.pc ≠ 0xFFFFFFFC#32) := by
  simp [State.canAdvance, h]

/-- An instruction that may advance does so, and nothing but the pc fields and the hazards changes. -/
theorem advance_eq (s : State) (h : s.canAdvance = true) :
    s.advance = .next { s with pc := s.npc, npc := s.npc + 4, slot := .none, hazards := s.hazardsAfter } := by
  unfold State.advance State.hazardsAfter State.canAdvance at *
  cases hs : s.slot with
  | jump b => cases b <;> simp
  | none => simp [hs] at h; simp [h]
  | fallThrough => simp [hs] at h; simp [h]

/-- Otherwise it is refused (D14). -/
theorem advance_refused (s : State) (h : s.canAdvance = false) : s.advance = .refused .pcWrap := by
  unfold State.advance State.canAdvance at *
  cases hs : s.slot with
  | jump b => simp [hs] at h
  | none => simp [hs] at h; simp [h]
  | fallThrough => simp [hs] at h; simp [h]

/-- Everything the advance can answer. -/
theorem advance_cases (s : State) :
    (s.canAdvance = true ∧
      s.advance = .next { s with pc := s.npc, npc := s.npc + 4, slot := .none, hazards := s.hazardsAfter }) ∨
    (s.canAdvance = false ∧ s.advance = .refused .pcWrap) := by
  cases h : s.canAdvance
  · exact .inr ⟨rfl, advance_refused s h⟩
  · exact .inl ⟨rfl, advance_eq s h⟩

theorem advance_noResult (s : State) (h : s.canAdvance = true) : ∃ t, s.advance = .next t ∧ NoResult s t :=
  ⟨_, advance_eq s h, fun _ => rfl, rfl, rfl, rfl, rfl, rfl⟩

/-! ## One result in a general register -/

theorem writeGpr_gpr_only (s : State) (r : Reg) (v : Word) : s.writeGpr r v = { s with gpr := (s.writeGpr r v).gpr } := by
  unfold State.writeGpr State.writeSet
  split <;> rfl

theorem readSet_of_gpr {s t : State} (h : t.gpr = s.gpr) (set : BitVec 4) (r : Reg) : t.readSet set r = s.readSet set r := by
  simp [State.readSet, h]

@[simp] theorem canAdvance_writeGpr (s : State) (r : Reg) (v : Word) : (s.writeGpr r v).canAdvance = s.canAdvance := by
  simp [State.canAdvance]

@[simp] theorem hazardsAfter_writeGpr (s : State) (r : Reg) (v : Word) : (s.writeGpr r v).hazardsAfter = s.hazardsAfter := by
  simp [State.hazardsAfter]

/-- Writing a result and going on. -/
theorem put_gprResult (s : State) (r : Reg) (v : Word) (h : s.canAdvance = true) :
    ∃ t, s.put r v = .next t ∧ GprResult s t r v := by
  refine ⟨_, advance_eq _ (by simpa using h), ?_, ?_, ?_, ?_, ?_⟩
  · show (s.writeGpr r v).readGpr r = _
    rw [readGpr_writeGpr]
    by_cases hr : r = 0
    · rw [if_pos hr, if_pos hr]
    · rw [if_neg hr, if_neg hr, if_pos rfl]
  · intro set q hq
    have := readSet_writeSet s s.curSet set r q v
    show (s.writeGpr r v).readSet set q = _
    unfold State.writeGpr
    rw [this]
    by_cases h0 : q = 0
    · simp [h0]
    · rw [if_neg h0, if_neg hq]
  · intro a; simp
  · simp [OnlyGprChanged]
  · exact ⟨by simp, by simp, rfl, by simp [State.hazardsAfter]⟩

/-! ## Plain data accesses -/

theorem touchesDevice_of_ram (m : List Region) (n : Nat) :
    ∀ a : Nat, (∀ j, j < n → regionAt m (a + j) = some .ram) → touchesDevice m a n = false := by
  induction n with
  | zero => intros; rfl
  | succ n ih =>
    intro a h
    have h0 := h 0 (by omega)
    simp only [Nat.add_zero] at h0
    have h1 := ih (a + 1) (fun j hj => by have := h (j + 1) (by omega); rw [← this]; congr 1; omega)
    simp [touchesDevice, h0, h1]

theorem touchesNothing_of_ram (m : List Region) (n : Nat) :
    ∀ a : Nat, (∀ j, j < n → regionAt m (a + j) = some .ram) → touchesNothing m a n = false := by
  induction n with
  | zero => intros; rfl
  | succ n ih =>
    intro a h
    have h0 := h 0 (by omega)
    simp only [Nat.add_zero] at h0
    have h1 := ih (a + 1) (fun j hj => by have := h (j + 1) (by omega); rw [← this]; congr 1; omega)
    simp [touchesNothing, h0, h1]

theorem plainRam_iff (s : State) (pa : Word) (n : Nat) : s.plainRam pa n = true ↔
    ∀ j, j < n → regionAt s.cfg.physMap (pa.toNat + j) = some .ram ∧
      s.ispram.offset s.cfg.hasISPRAM (pa + BitVec.ofNat 32 j) = none ∧
      s.dspram.offset s.cfg.hasDSPRAM (pa + BitVec.ofNat 32 j) = none := by
  simp [State.plainRam, and_assoc]

/-- A part of a plain range is plain. -/
theorem plainRam_part (s : State) (pa : Word) (n k m : Nat) (h : s.plainRam pa n = true) (hk : k + m ≤ n)
    (hp : pa.toNat + k < 2 ^ 32) : s.plainRam (pa + BitVec.ofNat 32 k) m = true := by
  rw [plainRam_iff] at *
  intro j hj
  have := h (k + j) (by omega)
  have e1 : (pa + BitVec.ofNat 32 k).toNat + j = pa.toNat + (k + j) := by
    rw [BitVec.toNat_add, BitVec.toNat_ofNat]; omega
  have e2 : pa + BitVec.ofNat 32 k + BitVec.ofNat 32 j = pa + BitVec.ofNat 32 (k + j) := by
    rw [BitVec.add_assoc, BitVec.ofNat_add]
  rw [e1, e2]
  exact this

/-- An uncached read of plain memory answers its bytes and changes nothing. -/
theorem readPart_plain (s : State) (va pa : Word) (cca : BitVec 3) (n : Nat) (hn : 0 < n)
    (h : s.plainRam pa n = true) (hc : ccaCached cca = false) (hf : s.inputs.failData = false) (hg : s.gather = none) :
    s.readPart va pa cca n = .ok (some (Memory.readBytes s.mem pa.toNat n)) s := by
  rw [plainRam_iff] at h
  have h0 := h 0 hn
  simp only [BitVec.add_zero] at h0
  have hr := fun j hj => (h j hj).1
  have e : s.flushLine pa = s := by simp [State.flushLine, hg]
  unfold State.readPart
  rw [h0.2.2, h0.2.1]
  simp only [hc, Bool.false_and, Bool.false_eq_true, if_false, e]
  simp [State.busRead, touchesDevice_of_ram _ _ _ hr, touchesNothing_of_ram _ _ _ hr, hf, Res.andThen]

/-- An uncached write of plain memory stores its bytes and changes nothing else. -/
theorem writePart_plain (s : State) (va pa : Word) (whole : Bool) (bs : List Byte) (hn : 0 < bs.length)
    (h : s.plainRam pa bs.length = true) (hg : s.gather = none) :
    s.writePart va pa 2 whole bs = .ok () { s with mem := Memory.writeBytes s.mem pa.toNat bs } := by
  rw [plainRam_iff] at h
  have h0 := h 0 hn
  simp only [BitVec.add_zero] at h0
  have hr := fun j hj => (h j hj).1
  have e : s.flushLine pa = s := by simp [State.flushLine, hg]
  unfold State.writePart
  rw [h0.2.2, h0.2.1]
  simp [touchesDevice_of_ram _ _ _ hr, e, physWrite_ram _ _ _ _ hr]

theorem noDataTraps_iff (s : State) (store : Bool) : s.noDataTraps store = true ↔
    (s.dbg.db.get 0).ctl.getLsbD 0 = false ∧ (s.dbg.db.get 1).ctl.getLsbD 0 = false ∧
      (s.cp0.watchLo.get 2).getLsbD (if store then 0 else 1) = false ∧
      (s.cp0.watchLo.get 3).getLsbD (if store then 0 else 1) = false := by
  simp [State.noDataTraps, and_assoc]

/-! What breakpoints and watchpoints compare an access with: the registers of R974's rows as the consumer sees them, and
the ASID, `Status` and the mode as they are. -/

@[simp] theorem matchView_cfg (c : Consumer) (s : State) : (s.matchView c).cfg = s.cfg := rfl
@[simp] theorem matchView_status (c : Consumer) (s : State) : (s.matchView c).cp0.status = s.cp0.status := rfl
@[simp] theorem matchView_currentAsid (c : Consumer) (s : State) : (s.matchView c).currentAsid = s.currentAsid := rfl
@[simp] theorem matchView_dm (c : Consumer) (s : State) : (s.matchView c).dm = s.dm := rfl
@[simp] theorem matchView_dbg (c : Consumer) (s : State) : (s.matchView c).dbg = (s.view c).dbg := rfl
@[simp] theorem matchView_watchLo (c : Consumer) (s : State) : (s.matchView c).cp0.watchLo = (s.view c).cp0.watchLo := rfl
@[simp] theorem matchView_watchHi (c : Consumer) (s : State) : (s.matchView c).cp0.watchHi = (s.view c).cp0.watchHi := rfl

/-- With no hazard pending breakpoints and watchpoints compare the state itself (R970). -/
theorem matchView_eq (c : Consumer) (s : State) (h : s.hazards = []) : s.matchView c = s := by
  simp only [State.matchView, view_eq c s h]

/-- Everything a watchpoint check can answer (R921, R922): nothing matched and nothing changed; a match under `EXL` or
`ERL`, which are those of the state itself (R974), sets `Cause[WP]` and a match bit of `WatchHi`; or it raises Watch. -/
theorem checkWatch_cases (s : State) (c : Consumer) (i j : Fin 4) (kind : Nat) (vas : List Word) :
    let v := s.matchView c
    let m := v.markWatch (v.markWatch s i kind vas) j kind vas
    let hit := v.wMatch i kind vas || v.wMatch j kind vas
    (hit = false ∧ s.checkWatch c i j kind vas = .ok () s) ∨
    (hit = true ∧ (s.exl || s.erl) = true ∧ s.checkWatch c i j kind vas =
      .ok () { m with cp0 := { m.cp0 with cause := m.cp0.cause ||| 0x00400000 } }) ∨
    (hit = true ∧ (s.exl || s.erl) = false ∧ s.checkWatch c i j kind vas = .exc .watch m) := by
  simp only [State.checkWatch]
  cases hm : ((s.matchView c).wMatch i kind vas || (s.matchView c).wMatch j kind vas)
  · simp
  · cases he : (s.exl || s.erl) <;> simp

/-- Everything an external read can answer (R246, R276): the environment's error, whatever stands there, a device's fault,
the error of an address where nothing stands, or the bytes of memory. -/
theorem busRead_cases (s : State) (fetch : Bool) (pa n : Nat) :
    let fails := if fetch then s.inputs.failFetch else s.inputs.failData
    (fails = true ∧ ∃ inp, s.busRead fetch pa n = .ok none { s with inputs := inp }) ∨
    (fails = false ∧ touchesDevice s.cfg.physMap pa n = true ∧
      s.busRead fetch pa n = .flt (.deviceAccess (BitVec.ofNat 32 pa))) ∨
    (fails = false ∧ touchesDevice s.cfg.physMap pa n = false ∧ touchesNothing s.cfg.physMap pa n = true ∧
      s.busRead fetch pa n = .ok none s) ∨
    (fails = false ∧ touchesDevice s.cfg.physMap pa n = false ∧ touchesNothing s.cfg.physMap pa n = false ∧
      s.busRead fetch pa n = .ok (some (Memory.readBytes s.mem pa n)) s) := by
  simp only [State.busRead]
  cases fetch <;> cases s.inputs.failFetch <;> cases s.inputs.failData <;>
    cases touchesDevice s.cfg.physMap pa n <;> cases touchesNothing s.cfg.physMap pa n <;> simp

theorem dAddrMatch_off (s : State) (big : Bool) (n : Fin 2) (store : Bool) (va : Word) (size : Nat)
    (h0 : (s.dbg.db.get 0).ctl.getLsbD 0 = false) (h1 : (s.dbg.db.get 1).ctl.getLsbD 0 = false) :
    s.dAddrMatch big n store va size = false := by
  have h : (s.dbg.db.get n).ctl.getLsbD 0 = false := by
    match n with
    | 0 => exact h0
    | 1 => exact h1
  unfold State.dAddrMatch
  simp only [h, Bool.and_false, Bool.false_and]

/-- Where no trap is enabled the checks before an access only ask for alignment. -/
theorem dataChecks_plain (s : State) (store broken : Bool) (a : DataAccess) (hz : s.hazards = [])
    (h : s.noDataTraps store = true) (ha : a.va.toNat % a.align = 0) : s.dataChecks store broken a = .ok () s := by
  obtain ⟨h0, h1, h2, h3⟩ := (noDataTraps_iff s store).1 h
  have hb : s.preciseBreaks store a.first a.size = [] := by
    simp only [State.preciseBreaks, matchView_eq .data s hz, dAddrMatch_off s _ _ store _ _ h0 h1, Bool.false_and]
    exact List.filter_false _
  have hw : s.checkWatch .data 2 3 (if store then 0 else 1) a.ends = .ok () s := by
    simp only [State.checkWatch, matchView_eq .data s hz, State.wMatch, h2, h3, Bool.and_false, Bool.false_and, Bool.or_false]
    rfl
  unfold State.dataChecks
  rw [hb, hw]
  simp [Res.andThen, ha]

/-- A misaligned access raises an address error, where no trap is enabled (R234). -/
theorem dataChecks_misaligned (s : State) (store broken : Bool) (a : DataAccess) (hz : s.hazards = [])
    (h : s.noDataTraps store = true) (ha : a.va.toNat % a.align ≠ 0) :
    s.dataChecks store broken a = .exc (.addrError store a.va) s := by
  obtain ⟨h0, h1, h2, h3⟩ := (noDataTraps_iff s store).1 h
  have hb : s.preciseBreaks store a.first a.size = [] := by
    simp only [State.preciseBreaks, matchView_eq .data s hz, dAddrMatch_off s _ _ store _ _ h0 h1, Bool.false_and]
    exact List.filter_false _
  have hw : s.checkWatch .data 2 3 (if store then 0 else 1) a.ends = .ok () s := by
    simp only [State.checkWatch, matchView_eq .data s hz, State.wMatch, h2, h3, Bool.and_false, Bool.false_and, Bool.or_false]
    rfl
  unfold State.dataChecks
  rw [hb, hw]
  simp [Res.andThen, ha]

/-- After an access no value break is noted where no data breakpoint is enabled. -/
theorem noteValueBreak_plain (s s1 : State) (store : Bool) (dest : LoadDest) (va : Word) (bs : List Byte)
    (hz : s.hazards = []) (h : s.noDataTraps store = true) : s.noteValueBreak s1 store dest va bs = s1 := by
  obtain ⟨h0, h1, _, _⟩ := (noDataTraps_iff s store).1 h
  have hb : s.valueBreaks store va bs = [] := by
    simp only [State.valueBreaks, matchView_eq .data s hz, dAddrMatch_off s _ _ store _ _ h0 h1, Bool.false_and]
    exact List.filter_false _
  unfold State.noteValueBreak
  rw [hb]

theorem kernel_not_debug (s : State) (h : s.mode? = some .kernel) : s.dm = false := by
  unfold State.mode? at h
  cases hd : s.dm
  · rfl
  · simp [hd] at h

/-- Outside debug mode no access goes to dseg (R203). -/
theorem dsegOf_not_debug (s : State) (k : AccKind) (va : Word) (h : s.dm = false) : s.dsegOf k va = none := by
  simp [State.dsegOf, h]

/-- Kernel code reaches kseg1 uncached at the low 29 bits (R200, R202). -/
theorem translate_kseg1 (s : State) (k : AccKind) (va : Word) (hz : s.hazards = []) (hm : s.mode? = some .kernel)
    (hv : inKseg1 va = true) : s.translate k va = .ok (unmapped va, 2) s := by
  have h0 : inKseg0 va = false := by
    unfold inKseg1 at hv
    unfold inKseg0
    simp only [decide_eq_true_eq] at hv
    rw [hv]; decide
  unfold State.translate
  simp only [view_eq _ s hz, hm, mayAccess, Bool.not_true, Bool.false_eq_true, if_false, h0, hv, if_true]
  rfl

/-- Kernel code reaches kseg0 at the low 29 bits with the code of `Config[K0]` (R200, R202). -/
theorem translate_kseg0 (s : State) (k : AccKind) (va : Word) (hz : s.hazards = []) (hm : s.mode? = some .kernel)
    (hv : inKseg0 va = true) : s.translate k va = .ok (unmapped va, s.cp0.config.extractLsb' 0 3) s := by
  unfold State.translate
  simp only [view_eq _ s hz, hm, mayAccess, Bool.not_true, Bool.false_eq_true, if_false, hv, if_true]
  rfl

theorem uncachedAccess_iff (s : State) (store : Bool) (va : Word) (n : Nat) : s.uncachedAccess store va n = true ↔
    s.hazards = [] ∧ s.mode? = some .kernel ∧ inKseg1 va = true ∧ s.noDataTraps store = true ∧
      s.plainRam (unmapped va) n = true ∧ s.inputs.failData = false ∧ s.gather = none := by
  simp [State.uncachedAccess, and_assoc]

theorem placeOf_kseg1 (s : State) (k : AccKind) (a : DataAccess) (hz : s.hazards = []) (hm : s.mode? = some .kernel)
    (hv : inKseg1 a.va = true) (hl : a.linked = false) :
    s.placeOf k a = .ok (.phys (unmapped a.va - a.va + a.first) 2) s := by
  unfold State.placeOf
  rw [dsegOf_not_debug _ _ _ (kernel_not_debug s hm)]
  simp only [State.translateData, translate_kseg1 s k _ hz hm hv, Res.andThen, hl]
  rfl

/-- A load of at most a word from plain uncached memory: its bytes, and only an `sc` to come is affected (R251). `pa`
is the physical address of its first byte. -/
theorem loadBytes_plain (s : State) (a : DataAccess) (dest : LoadDest) (pa : Word) (hz : s.hazards = [])
    (hm : s.mode? = some .kernel) (hv : inKseg1 a.va = true) (ht : s.noDataTraps false = true)
    (hr : s.plainRam pa a.size = true) (hf : s.inputs.failData = false) (hg : s.gather = none)
    (hp : unmapped a.va - a.va + a.first = pa) (hl : a.linked = false) (ha : a.va.toNat % a.align = 0)
    (hn : 0 < a.size) (hs : a.size ≤ 4) :
    s.loadBytes a dest = .ok (some (Memory.readBytes s.mem pa.toNat a.size)) { s with llTouched := true } := by
  unfold State.loadBytes
  rw [dataChecks_plain s false true a hz ht ha]
  simp only [Res.andThen, placeOf_kseg1 s .load a hz hm hv hl, hp, State.readParts]
  rw [if_neg (by omega), readPart_plain s _ pa 2 a.size hn hr rfl hf hg]
  simp only [noteValueBreak_plain s _ _ _ _ _ hz ht]

/-- A 64-bit load: its two words, the lower address first (log 21). -/
theorem loadBytes_plain8 (s : State) (va : Word) (dest : LoadDest) (h : s.uncachedAccess false va 8 = true)
    (ha : va.toNat % 8 = 0) :
    s.loadBytes (naturalAccess va 8) dest =
      .ok (some (Memory.readBytes s.mem (unmapped va).toNat 4 ++ Memory.readBytes s.mem (unmapped va + 4).toNat 4))
        { s with llTouched := true } := by
  obtain ⟨hz, hm, hv, ht, hr, hf, hg⟩ := (uncachedAccess_iff s false va 8).1 h
  have hlt : (unmapped va).toNat ≤ 0x1FFFFFFF := by
    unfold unmapped; rw [BitVec.toNat_and]; exact Nat.and_le_right
  have r0 : s.plainRam (unmapped va) 4 = true := by
    have := plainRam_part s (unmapped va) 8 0 4 hr (by omega) (by omega)
    simpa using this
  have r4 : s.plainRam (unmapped va + 4) 4 = true := plainRam_part s (unmapped va) 8 4 4 hr (by omega) (by omega)
  have hp : unmapped va - va + va = unmapped va := BitVec.sub_add_cancel _ _
  have hpl : s.placeOf .load (naturalAccess va 8) = .ok (.phys (unmapped va) 2) s := by
    rw [placeOf_kseg1 s .load (naturalAccess va 8) hz hm hv rfl]
    simp only [naturalAccess, hp]
  unfold State.loadBytes
  rw [dataChecks_plain s false true _ hz ht ha]
  simp only [Res.andThen, hpl]
  simp only [naturalAccess, State.readParts, Res.andThen, if_true]
  rw [readPart_plain s _ _ 2 4 (by omega) r0 rfl hf hg]
  simp only [readPart_plain s _ _ 2 4 (by omega) r4 rfl hf hg, noteValueBreak_plain s _ _ _ _ _ hz ht]
  rfl

/-- A store of at most a word to plain uncached memory: its bytes, and only an `sc` to come is affected besides. -/
theorem storeBytes_plain (s : State) (a : DataAccess) (whole : Bool) (bs : List Byte) (pa : Word) (hz : s.hazards = [])
    (hm : s.mode? = some .kernel) (hv : inKseg1 a.va = true) (ht : s.noDataTraps true = true)
    (hr : s.plainRam pa bs.length = true) (hg : s.gather = none)
    (hp : unmapped a.va - a.va + a.first = pa) (hl : a.linked = false) (ha : a.va.toNat % a.align = 0)
    (hn : 0 < bs.length) (hs : bs.length ≤ 4) :
    s.storeBytes a whole bs = .ok () { s with mem := Memory.writeBytes s.mem pa.toNat bs, llTouched := true } := by
  unfold State.storeBytes
  rw [dataChecks_plain s true true a hz ht ha]
  simp only [Res.andThen, placeOf_kseg1 s .store a hz hm hv hl, hp, State.writeParts]
  rw [if_neg (by omega), writePart_plain s _ pa whole bs hn hr hg]
  simp only [noteValueBreak_plain s _ _ _ _ _ hz ht]

/-- A 64-bit store: its two words, the lower address first (log 21). -/
theorem storeBytes_plain8 (s : State) (va : Word) (whole : Bool) (bs : List Byte) (hl : bs.length = 8)
    (h : s.uncachedAccess true va 8 = true) (ha : va.toNat % 8 = 0) :
    s.storeBytes (naturalAccess va 8) whole bs =
      .ok () { s with
        mem := Memory.writeBytes (Memory.writeBytes s.mem (unmapped va).toNat (bs.take 4)) (unmapped va + 4).toNat
          (bs.drop 4)
        llTouched := true } := by
  obtain ⟨hz, hm, hv, ht, hr, hf, hg⟩ := (uncachedAccess_iff s true va 8).1 h
  have hlt : (unmapped va).toNat ≤ 0x1FFFFFFF := by
    unfold unmapped; rw [BitVec.toNat_and]; exact Nat.and_le_right
  have r0 : s.plainRam (unmapped va) 4 = true := by
    have := plainRam_part s (unmapped va) 8 0 4 hr (by omega) (by omega)
    simpa using this
  have r4 : s.plainRam (unmapped va + 4) 4 = true := plainRam_part s (unmapped va) 8 4 4 hr (by omega) (by omega)
  have hp : unmapped va - va + va = unmapped va := BitVec.sub_add_cancel _ _
  have hpl : s.placeOf .store (naturalAccess va 8) = .ok (.phys (unmapped va) 2) s := by
    rw [placeOf_kseg1 s .store (naturalAccess va 8) hz hm hv rfl]
    simp only [naturalAccess, hp]
  have l0 : (bs.take 4).length = 4 := by simp [hl]
  have l4 : (bs.drop 4).length = 4 := by simp [hl]
  unfold State.storeBytes
  rw [dataChecks_plain s true true _ hz ht ha]
  simp only [Res.andThen, hpl]
  simp only [naturalAccess, State.writeParts, Res.andThen, hl, if_true]
  rw [writePart_plain s _ _ whole _ (by omega) (by rw [l0]; exact r0) hg]
  have h2 := writePart_plain { s with mem := Memory.writeBytes s.mem (unmapped va).toNat (bs.take 4) } (va + 4)
    (unmapped va + 4) whole (bs.drop 4) (by omega) (by rw [l4]; exact r4) hg
  simp only [h2, noteValueBreak_plain s _ _ _ _ _ hz ht]

end Sys2Proof.Machine
end

