-- ==== Sys2Proof/Laws/Exceptions.lean ====
section
/-! SUPPORT. What taking an exception leaves, said once for each part of it: the frame of an entry, `Cause`, the register
sets, the debug register. -/

namespace Sys2Proof.Machine

theorem flushGather_eq (s : State) : s.flushGather = { s with mem := s.flushGather.mem, gather := none } := by
  unfold State.flushGather
  cases h : s.gather with
  | none => simp only; rw [← h]
  | some g => rfl

theorem flushGather_mem_none (s : State) (h : s.gather = none) : s.flushGather.mem = s.mem := by
  simp [State.flushGather, h]

/-- Flushing performs the gathered stores and writes nothing else (R244). -/
theorem gatherWritten_flushGather (s t : State) (h : t.mem = s.flushGather.mem) : GatherWritten s t := by
  unfold GatherWritten State.flushGather at *
  cases hg : s.gather with
  | none => intro a; simp [h, hg]
  | some g =>
    simp only [hg] at h
    refine ⟨fun a ha => ?_, fun hk a v hm hr => ?_⟩
    · rw [h]; exact read_physWriteCells_other _ _ _ ha _
    · rw [h]; exact read_physWriteCells_mem _ _ _ _ hm hr none _ hk

/-- An entry as one update of the state. -/
theorem enterAt_eq (s : State) (v : Word) :
    s.enterAt v = { s with
      pc := v, npc := v + 4, slot := .none, sleeping := false, llTouched := true, hazards := [],
      excCount := s.excCount + 1, mem := s.flushGather.mem, gather := none } := by
  unfold State.enterAt
  rw [flushGather_eq]

/-- The frame of every entry. -/
theorem entryFrame_enterAt (s : State) (v : Word) (c : Cp0) (d : Dbg) (l : Bool) :
    EntryFrame s { s.enterAt v with cp0 := c, dbg := d, llTouched := l } v := by
  rw [enterAt_eq]
  exact ⟨rfl, rfl, rfl, rfl, gatherWritten_flushGather _ _ rfl⟩

/-! ## `Cause` (R800) -/

theorem causeAfter_bd (s : State) (e : Exc) :
    (s.causeAfter e).getLsbD 31 = if s.exl then s.cp0.cause.getLsbD 31 else decide (s.slot ≠ .none) := by
  unfold State.causeAfter
  cases hx : s.exl <;> cases hc : s.cfg.eicPresent <;>
    simp [getElem_merge, getElem_putBit, State.inDelaySlot]

theorem causeAfter_code (s : State) (e : Exc) : (s.causeAfter e).extractLsb' 2 5 = e.code := by
  have hk : ∀ j, j < 5 → (0x0000007C : Word).getLsbD (2 + j) = true := by decide
  have h1 : ∀ j, j < 5 → (0x30000000 : Word).getLsbD (2 + j) = false := by decide
  have h2 : ∀ j, j < 5 → (0x0000FC00 : Word).getLsbD (2 + j) = false := by decide
  have h3 : (e.code.setWidth 32 <<< 2 : Word).extractLsb' 2 5 = e.code := by
    apply BitVec.eq_of_getLsbD_eq
    intro j hj
    have h : 2 + j < 32 := by omega
    have h' : ¬2 + j < 2 := by omega
    have h'' : j < 32 := by omega
    simp only [BitVec.getLsbD_extractLsb', BitVec.getLsbD_shiftLeft, BitVec.getLsbD_setWidth, hj, h, h', h'',
      Nat.add_sub_cancel_left, decide_true, decide_false, Bool.not_false, Bool.true_and]
  unfold State.causeAfter
  cases hc : s.cfg.eicPresent <;>
    simp only [extract_merge_out _ _ _ 2 5 h1, extract_merge_out _ _ _ 2 5 h2, extract_merge_in _ _ _ 2 5 hk, h3,
      if_true, if_false, Bool.false_eq_true]

theorem causeAfter_kept (s : State) (e : Exc) : s.causeAfter e &&& 0x4FFF0383 = s.cp0.cause &&& 0x4FFF0383 := by
  have h1 : (0x0000007C : Word) &&& 0x4FFF0383 = 0 := by decide
  have h2 : (0x30000000 : Word) &&& 0x4FFF0383 = 0 := by decide
  have h3 : (0x0000FC00 : Word) &&& 0x4FFF0383 = 0 := by decide
  have h4 : (1#32 <<< 31 : Word) &&& 0x4FFF0383 = 0 := by decide
  unfold State.causeAfter
  cases hx : s.exl <;> cases hc : s.cfg.eicPresent <;>
    simp only [merge_and_out _ _ h1, merge_and_out _ _ h2, merge_and_out _ _ h3, putBit_and_out _ _ _ h4, if_true,
      if_false, Bool.false_eq_true]

theorem causeAfter_ce (s : State) (n : BitVec 2) : (s.causeAfter (.cpu n)).extractLsb' 28 2 = n := by
  have hk : ∀ j, j < 2 → (0x30000000 : Word).getLsbD (28 + j) = true := by decide
  have h2 : ∀ j, j < 2 → (0x0000FC00 : Word).getLsbD (28 + j) = false := by decide
  have h3 : (n.setWidth 32 <<< 28 : Word).extractLsb' 28 2 = n := by
    apply BitVec.eq_of_getLsbD_eq
    intro j hj
    have h : 28 + j < 32 := by omega
    have h' : ¬28 + j < 28 := by omega
    have h'' : j < 32 := by omega
    simp only [BitVec.getLsbD_extractLsb', BitVec.getLsbD_shiftLeft, BitVec.getLsbD_setWidth, hj, h, h', h'',
      Nat.add_sub_cancel_left, decide_true, decide_false, Bool.not_false, Bool.true_and]
  unfold State.causeAfter
  cases hc : s.cfg.eicPresent <;>
    simp only [extract_merge_out _ _ _ 28 2 h2, extract_merge_in _ _ _ 28 2 hk, h3, if_true, if_false,
      Bool.false_eq_true]

/-! ## The register sets (R802) -/

theorem switchSet_css (w : Word) (n : BitVec 4) : (switchSet w n).extractLsb' 0 4 = n := by
  have hk : ∀ j, j < 4 → (0x000003CF : Word).getLsbD (0 + j) = true := by decide
  unfold switchSet
  rw [extract_merge_in _ _ _ 0 4 hk]
  apply BitVec.eq_of_getLsbD_eq
  intro j hj
  have h : j < 32 := by omega
  simp only [BitVec.getLsbD_extractLsb', BitVec.getLsbD_setWidth, BitVec.getLsbD_append, hj, h, Nat.zero_add,
    decide_true, Bool.true_and, if_true]

theorem switchSet_pss (w : Word) (n : BitVec 4) : (switchSet w n).extractLsb' 6 4 = w.extractLsb' 0 4 := by
  have hk : ∀ j, j < 4 → (0x000003CF : Word).getLsbD (6 + j) = true := by decide
  unfold switchSet
  rw [extract_merge_in _ _ _ 6 4 hk]
  apply BitVec.eq_of_getLsbD_eq
  intro j hj
  have h : 6 + j < 32 := by omega
  have h1 : ¬6 + j < 4 := by omega
  have h2 : ¬6 + j - 4 < 2 := by omega
  have h3 : 6 + j - 4 - 2 = j := by omega
  simp only [BitVec.getLsbD_extractLsb', BitVec.getLsbD_setWidth, BitVec.getLsbD_append, hj, h, h1, h2, h3, Nat.zero_add,
    decide_true, Bool.true_and, if_false]

theorem switchSet_kept (w : Word) (n : BitVec 4) : switchSet w n &&& 0xFFFFFC30 = w &&& 0xFFFFFC30 :=
  merge_and_out _ _ (by decide)

/-! ## `Debug` (R882) -/

theorem debugAfter_bits (s : State) (c : Word) :
    (s.debugAfter c).getLsbD 31 = decide (s.slot ≠ .none) ∧ (s.debugAfter c).getLsbD 30 = true ∧
      (s.debugAfter c).getLsbD 20 = true ∧ (s.debugAfter c).getLsbD 26 = s.sleeping ∧
      (s.debugAfter c).getLsbD 27 = (s.sleeping || s.inputs.reducedPower) := by
  unfold State.debugAfter
  refine ⟨?_, ?_, ?_, ?_, ?_⟩ <;> simp [getElem_merge, getElem_putBit, State.inDelaySlot]

theorem debugAfter_kept (s : State) (c : Word) : s.debugAfter c &&& 0x33E383C0 = s.cp0.debug &&& 0x33E383C0 := by
  have h1 : (0x000C003F : Word) &&& 0x33E383C0 = 0 := by decide
  have h2 : (0x00007C00 : Word) &&& 0x33E383C0 = 0 := by decide
  have h3 : ((0x40100000 : Word)) &&& 0x33E383C0 = 0 := by decide
  have h4 : (1#32 <<< 31 : Word) &&& 0x33E383C0 = 0 := by decide
  have h5 : (1#32 <<< 26 : Word) &&& 0x33E383C0 = 0 := by decide
  have h6 : (1#32 <<< 27 : Word) &&& 0x33E383C0 = 0 := by decide
  have ho : ∀ w : Word, (w ||| 0x40100000) &&& 0x33E383C0 = w &&& 0x33E383C0 := by
    intro w
    rw [and_eq_and_iff]
    intro j hj
    rw [BitVec.getLsbD_or, getLsbD_of_and_zero h3 hj, Bool.or_false]
  unfold State.debugAfter
  simp only [ho, merge_and_out _ _ h1, merge_and_out _ _ h2, putBit_and_out _ _ _ h4, putBit_and_out _ _ _ h5,
    putBit_and_out _ _ _ h6]

theorem debugAfter_causes (s : State) (c : Word) (hb : s.dbg.pendBreaks = []) :
    s.debugAfter c &&& 0x000C003F = c &&& 0x000C003F := by
  have h2 : (0x00007C00 : Word) &&& 0x000C003F = 0 := by decide
  have h3 : ((0x40100000 : Word)) &&& 0x000C003F = 0 := by decide
  have h4 : (1#32 <<< 31 : Word) &&& 0x000C003F = 0 := by decide
  have h5 : (1#32 <<< 26 : Word) &&& 0x000C003F = 0 := by decide
  have h6 : (1#32 <<< 27 : Word) &&& 0x000C003F = 0 := by decide
  have ho : ∀ w : Word, (w ||| 0x40100000) &&& 0x000C003F = w &&& 0x000C003F := by
    intro w
    rw [and_eq_and_iff]
    intro j hj
    rw [BitVec.getLsbD_or, getLsbD_of_and_zero h3 hj, Bool.or_false]
  have hp : s.pendBreakBits = 0 := by simp [State.pendBreakBits, hb]
  unfold State.debugAfter
  simp only [ho, merge_and_out _ _ h2, putBit_and_out _ _ _ h4, putBit_and_out _ _ _ h5, putBit_and_out _ _ _ h6, hp]
  rw [show c ||| (0 : Word) = c from BitVec.or_zero]
  exact merge_and_in s.cp0.debug c (m := 0x000C003F) (k := 0x000C003F) (by decide)

end Sys2Proof.Machine
end

