-- ==== Sys2Proof/Laws/Cp0.lean ====
section
/-! SUPPORT. Reading and writing the stored CP0 registers; counting changes nothing but the counters. -/

namespace Sys2Proof.Machine

/-- A register reads as it was written. -/
theorem put_get_same (c : Cp0) (r : CpReg) (w : Word) (h : r ≠ .prid ∧ r ≠ .config1 ∧ r ≠ .config2 ∧ r ≠ .config3) : (c.put r w).get r = w := by
  obtain ⟨h1, h2, h3, h4⟩ := h
  cases r <;> first | rfl | contradiction | (simp [Cp0.put, Cp0.get, Vector.get_eq_getElem])

/-- The other registers are as they were. -/
theorem put_get_other (c : Cp0) (r q : CpReg) (w : Word) (h : q ≠ r) : (c.put r w).get q = c.get q := by
  cases r <;> cases q <;> first | rfl | contradiction | skip
  · rename_i i j
    have : (i : Nat) ≠ j := fun e => h (by congr 1; exact (Fin.ext e.symm))
    simp [Cp0.put, Cp0.get, Vector.get_eq_getElem, this]
  · rename_i i j
    have : (i : Nat) ≠ j := fun e => h (by congr 1; exact (Fin.ext e.symm))
    simp [Cp0.put, Cp0.get, Vector.get_eq_getElem, this]

/-- A register after an older value was restored: exactly the bits a newer producer wrote are as they stand in `src`
(R970). -/
theorem keep_reg_get (p : Producer) (r : CpReg) (m old : Word) (src dst : State) :
    ((HazardOld.reg p r m old).keep src dst).cp0.get r = merge (dst.cp0.get r) (src.cp0.get r) m := by
  by_cases h : r ≠ .prid ∧ r ≠ .config1 ∧ r ≠ .config2 ∧ r ≠ .config3
  · exact put_get_same _ _ _ h
  · cases r <;> simp_all [Cp0.get, merge]

/-- The bits software writes are none of those it can only clear. -/
theorem masks_disjoint (cfg : Cfg) (r : CpReg) (j : Nat) (h : (cpWriteMask cfg r).getLsbD j = true) :
    (cpClearMask r).getLsbD j = false ∧ (cpOneClearMask r).getLsbD j = false := by
  have hs : cpWriteMask cfg .status = if cfg.hasFPU then 0x7E42FF1F else 0x7A42FF1F := rfl
  cases r
  case status =>
    refine ⟨getLsbD_of_and_zero (k := cpWriteMask cfg .status) ?_ h, by simp [cpOneClearMask]⟩
    rw [hs]
    cases cfg.hasFPU <;> decide
  case cause =>
    refine ⟨getLsbD_of_and_zero (k := 0x08800300) ?_ h, by simp [cpOneClearMask]⟩
    show (0x00400000 : Word) &&& _ = 0
    decide
  case watchHi i =>
    exact ⟨by simp [cpClearMask], getLsbD_of_and_zero (k := 0x40FF0FF8) (by show (7 : Word) &&& _ = 0; decide) h⟩
  all_goals simp [cpClearMask, cpOneClearMask]

/-- `mtc0` gives the writable bits their new value (R82, R579). -/
theorem newWord_bit (cfg : Cfg) (r : CpReg) (o x : Word) (j : Nat) (h : (cpWriteMask cfg r).getLsbD j = true) : (cpNewWord cfg r o x).getLsbD j = x.getLsbD j := by
  obtain ⟨h1, h2⟩ := masks_disjoint cfg r j h
  have hj : j < 32 := by
    rcases Nat.lt_or_ge j 32 with h' | h'
    · exact h'
    · rw [BitVec.getLsbD_of_ge _ _ h'] at h; cases h
  unfold cpNewWord
  rw [BitVec.getLsbD_and, BitVec.getLsbD_and, getLsbD_merge, h, BitVec.getLsbD_not, BitVec.getLsbD_not, BitVec.getLsbD_and, BitVec.getLsbD_and, h1, h2]
  simp [hj]

/-! ## Performance counters (R925) -/

theorem addPerf_eq (s : State) (one : Bool) (n : Nat) : ∃ a b, s.addPerf one n = { s with cp0 := { s.cp0 with perfCnt0 := a, perfCnt1 := b } } := by
  cases one
  · exact ⟨_, _, rfl⟩
  · exact ⟨_, _, rfl⟩

/-- Counting touches the two counters only. -/
theorem countPerf_eq (s t : State) (i : Option InstrInfo) : ∃ a b, s.countPerf t i = { t with cp0 := { t.cp0 with perfCnt0 := a, perfCnt1 := b } } := by
  unfold State.countPerf
  have go : ∀ (u : State) (one : Bool), ∃ a b, (if s.hasCounter one && s.perfCounts (s.perfCtl one) then u.addPerf one (s.perfOccurs t one i) else u) = { u with cp0 := { u.cp0 with perfCnt0 := a, perfCnt1 := b } } := by
    intro u one
    split
    · exact addPerf_eq _ _ _
    · exact ⟨_, _, rfl⟩
  obtain ⟨a, b, h⟩ := go t false
  simp only
  rw [h]
  obtain ⟨c, d, h2⟩ := go { t with cp0 := { t.cp0 with perfCnt0 := a, perfCnt1 := b } } true
  exact ⟨c, d, h2⟩

end Sys2Proof.Machine
end

