-- ==== Sys2Proof/Laws/Cycle.lean ====
section
/-! SUPPORT. What the parts of a step around the instruction can do: the gather buffer, the end of a step, the quiet
boundary. -/

namespace Sys2Proof.Machine

/-! ## The gather buffer (R244) -/

/-- Flushing one line flushes the buffer or does nothing. -/
theorem flushLine_cases (s : State) (pa : Word) : s.flushLine pa = s ∨ s.flushLine pa = s.flushGather := by
  unfold State.flushLine
  split
  · split
    · exact .inr rfl
    · exact .inl rfl
  · exact .inl rfl

@[simp] theorem flushLine_none (s : State) (pa : Word) (h : s.gather = none) : s.flushLine pa = s := by
  simp [State.flushLine, h]

/-! ## The end of a step -/

/-- The end of a step acts on next states only. -/
theorem endOut_eq_next (f : State → State) (o : Out) (t : State) :
    endOut f o = .next t ↔ ∃ u, o = .next u ∧ t = f u := by
  cases o <;> simp [endOut, eq_comm]

/-- Closing a transfer leaves a waiting one alone, and otherwise changes its two fields only (R891). -/
theorem closeTransfer_cases (s t : State) :
    (s.waiting t = true ∧ s.closeTransfer t = t) ∨
    (s.waiting t = false ∧ s.closeTransfer t = { t with
      dbg := { t.dbg with served := [], ejtagControl := t.dbg.ejtagControl &&& 0xFFFBFFFF } }) := by
  unfold State.closeTransfer
  cases h : s.waiting t
  · exact .inr ⟨rfl, by simp⟩
  · exact .inl ⟨rfl, by simp⟩

/-! ## The boundary (R820) -/

/-- Where no imprecise exception has come there is nothing to defer. -/
theorem deferImprecise_idle (s : State) (h : s.pendCacheErr = false) (hd : s.pendCacheErrData = false)
    (hb : s.pendDBE = []) : s.deferImprecise = s := by
  have e : s.cp0.debug ||| bitAt 22 false ||| bitAt 21 false = s.cp0.debug := by simp [bitAt]
  unfold State.deferImprecise State.dbeDue
  split
  · cases s
    dsimp only at h hd hb e ⊢
    subst h hd hb
    simp [e]
  · rfl

/-- Where no late exception stands the instruction at the pc runs alone (R820 items 22 and 23). -/
theorem runLast_plain (s : State) (h : s.pendCacheErrData = false) : s.runLast false = s.runNext := by
  simp [State.runLast, h]

/-- An instruction that raises nothing gives way to a late exception; one that raised keeps its own (R820). -/
theorem runBefore_next (s s0 t : State) (e : Exc) (h : s.runNext = .next t) :
    s.runBefore e s0 = if t.excCount = s.excCount then s0.raise e else .next t := by
  simp [State.runBefore, h]

/-- Where no condition of R820 stands at the boundary the next instruction is run. -/
theorem boundaryOf_go (s : State) (h1 : s.singleStepDue = false) (h2 : (!s.dm && s.dintPending) = false)
    (h3 : s.breakDue = false) (h4 : (s.dcrNmip && s.dcrNmie && !s.dm) = false) (h5 : s.cacheEP = false)
    (h6 : s.dbusEP = false) (h7 : s.interruptDue = false) (h8 : s.watchDue = false) : s.boundaryOf = .go s := by
  unfold State.boundaryOf
  simp [h1, h2, h3, h4, h5, h6, h7, h8]

end Sys2Proof.Machine
end

