-- ==== Sys2Proof/Laws/Encoding.lean ====
section
/-! SUPPORT. The fields of the words the encoder writes (spec/30_encoding.md R291, R292): taking a field out of a word
built from fields gives that field. -/

namespace Sys2Proof

/-! `packR` -/

@[simp] theorem fieldOp_packR (op : BitVec 6) (rs : BitVec 5) (rt : BitVec 5) (rd : BitVec 5) (sa : BitVec 5) (fn : BitVec 6) :
    fieldOp (packR op rs rt rd sa fn) = op := by
  unfold fieldOp packR
  rw [BitVec.extractLsb'_append_eq_of_le (by omega), BitVec.extractLsb'_append_eq_of_le (by omega), BitVec.extractLsb'_append_eq_of_le (by omega), BitVec.extractLsb'_append_eq_of_le (by omega), BitVec.extractLsb'_append_eq_of_le (by omega), BitVec.extractLsb'_eq_self]

@[simp] theorem fieldRs_packR (op : BitVec 6) (rs : BitVec 5) (rt : BitVec 5) (rd : BitVec 5) (sa : BitVec 5) (fn : BitVec 6) :
    fieldRs (packR op rs rt rd sa fn) = rs := by
  unfold fieldRs packR
  rw [BitVec.extractLsb'_append_eq_of_le (by omega), BitVec.extractLsb'_append_eq_of_le (by omega), BitVec.extractLsb'_append_eq_of_le (by omega), BitVec.extractLsb'_append_eq_of_le (by omega), BitVec.extractLsb'_append_eq_of_add_le (by omega), BitVec.extractLsb'_eq_self]

@[simp] theorem fieldRt_packR (op : BitVec 6) (rs : BitVec 5) (rt : BitVec 5) (rd : BitVec 5) (sa : BitVec 5) (fn : BitVec 6) :
    fieldRt (packR op rs rt rd sa fn) = rt := by
  unfold fieldRt packR
  rw [BitVec.extractLsb'_append_eq_of_le (by omega), BitVec.extractLsb'_append_eq_of_le (by omega), BitVec.extractLsb'_append_eq_of_le (by omega), BitVec.extractLsb'_append_eq_of_add_le (by omega), BitVec.extractLsb'_eq_self]

@[simp] theorem fieldRd_packR (op : BitVec 6) (rs : BitVec 5) (rt : BitVec 5) (rd : BitVec 5) (sa : BitVec 5) (fn : BitVec 6) :
    fieldRd (packR op rs rt rd sa fn) = rd := by
  unfold fieldRd packR
  rw [BitVec.extractLsb'_append_eq_of_le (by omega), BitVec.extractLsb'_append_eq_of_le (by omega), BitVec.extractLsb'_append_eq_of_add_le (by omega), BitVec.extractLsb'_eq_self]

@[simp] theorem fieldSa_packR (op : BitVec 6) (rs : BitVec 5) (rt : BitVec 5) (rd : BitVec 5) (sa : BitVec 5) (fn : BitVec 6) :
    fieldSa (packR op rs rt rd sa fn) = sa := by
  unfold fieldSa packR
  rw [BitVec.extractLsb'_append_eq_of_le (by omega), BitVec.extractLsb'_append_eq_of_add_le (by omega), BitVec.extractLsb'_eq_self]

@[simp] theorem fieldFn_packR (op : BitVec 6) (rs : BitVec 5) (rt : BitVec 5) (rd : BitVec 5) (sa : BitVec 5) (fn : BitVec 6) :
    fieldFn (packR op rs rt rd sa fn) = fn := by
  unfold fieldFn packR
  rw [BitVec.extractLsb'_append_eq_of_add_le (by omega), BitVec.extractLsb'_eq_self]

/-! `packI` -/

@[simp] theorem fieldOp_packI (op : BitVec 6) (rs : BitVec 5) (rt : BitVec 5) (imm : BitVec 16) :
    fieldOp (packI op rs rt imm) = op := by
  unfold fieldOp packI
  rw [BitVec.extractLsb'_append_eq_of_le (by omega), BitVec.extractLsb'_append_eq_of_le (by omega), BitVec.extractLsb'_append_eq_of_le (by omega), BitVec.extractLsb'_eq_self]

@[simp] theorem fieldRs_packI (op : BitVec 6) (rs : BitVec 5) (rt : BitVec 5) (imm : BitVec 16) :
    fieldRs (packI op rs rt imm) = rs := by
  unfold fieldRs packI
  rw [BitVec.extractLsb'_append_eq_of_le (by omega), BitVec.extractLsb'_append_eq_of_le (by omega), BitVec.extractLsb'_append_eq_of_add_le (by omega), BitVec.extractLsb'_eq_self]

@[simp] theorem fieldRt_packI (op : BitVec 6) (rs : BitVec 5) (rt : BitVec 5) (imm : BitVec 16) :
    fieldRt (packI op rs rt imm) = rt := by
  unfold fieldRt packI
  rw [BitVec.extractLsb'_append_eq_of_le (by omega), BitVec.extractLsb'_append_eq_of_add_le (by omega), BitVec.extractLsb'_eq_self]

@[simp] theorem fieldImm_packI (op : BitVec 6) (rs : BitVec 5) (rt : BitVec 5) (imm : BitVec 16) :
    fieldImm (packI op rs rt imm) = imm := by
  unfold fieldImm packI
  rw [BitVec.extractLsb'_append_eq_of_add_le (by omega), BitVec.extractLsb'_eq_self]

/-! `packJ` -/

@[simp] theorem fieldOp_packJ (op : BitVec 6) (target : BitVec 26) :
    fieldOp (packJ op target) = op := by
  unfold fieldOp packJ
  rw [BitVec.extractLsb'_append_eq_of_le (by omega), BitVec.extractLsb'_eq_self]

@[simp] theorem fieldTarget_packJ (op : BitVec 6) (target : BitVec 26) :
    fieldTarget (packJ op target) = target := by
  unfold fieldTarget packJ
  rw [BitVec.extractLsb'_append_eq_of_add_le (by omega), BitVec.extractLsb'_eq_self]

/-! `packCode` -/

@[simp] theorem fieldOp_packCode (op : BitVec 6) (code : BitVec 20) (fn : BitVec 6) :
    fieldOp (packCode op code fn) = op := by
  unfold fieldOp packCode
  rw [BitVec.extractLsb'_append_eq_of_le (by omega), BitVec.extractLsb'_append_eq_of_le (by omega), BitVec.extractLsb'_eq_self]

@[simp] theorem fieldCode20_packCode (op : BitVec 6) (code : BitVec 20) (fn : BitVec 6) :
    fieldCode20 (packCode op code fn) = code := by
  unfold fieldCode20 packCode
  rw [BitVec.extractLsb'_append_eq_of_le (by omega), BitVec.extractLsb'_append_eq_of_add_le (by omega), BitVec.extractLsb'_eq_self]

@[simp] theorem fieldFn_packCode (op : BitVec 6) (code : BitVec 20) (fn : BitVec 6) :
    fieldFn (packCode op code fn) = fn := by
  unfold fieldFn packCode
  rw [BitVec.extractLsb'_append_eq_of_add_le (by omega), BitVec.extractLsb'_eq_self]

/-! `packTrap` -/

@[simp] theorem fieldOp_packTrap (op : BitVec 6) (rs : BitVec 5) (rt : BitVec 5) (code : BitVec 10) (fn : BitVec 6) :
    fieldOp (packTrap op rs rt code fn) = op := by
  unfold fieldOp packTrap
  rw [BitVec.extractLsb'_append_eq_of_le (by omega), BitVec.extractLsb'_append_eq_of_le (by omega), BitVec.extractLsb'_append_eq_of_le (by omega), BitVec.extractLsb'_append_eq_of_le (by omega), BitVec.extractLsb'_eq_self]

@[simp] theorem fieldRs_packTrap (op : BitVec 6) (rs : BitVec 5) (rt : BitVec 5) (code : BitVec 10) (fn : BitVec 6) :
    fieldRs (packTrap op rs rt code fn) = rs := by
  unfold fieldRs packTrap
  rw [BitVec.extractLsb'_append_eq_of_le (by omega), BitVec.extractLsb'_append_eq_of_le (by omega), BitVec.extractLsb'_append_eq_of_le (by omega), BitVec.extractLsb'_append_eq_of_add_le (by omega), BitVec.extractLsb'_eq_self]

@[simp] theorem fieldRt_packTrap (op : BitVec 6) (rs : BitVec 5) (rt : BitVec 5) (code : BitVec 10) (fn : BitVec 6) :
    fieldRt (packTrap op rs rt code fn) = rt := by
  unfold fieldRt packTrap
  rw [BitVec.extractLsb'_append_eq_of_le (by omega), BitVec.extractLsb'_append_eq_of_le (by omega), BitVec.extractLsb'_append_eq_of_add_le (by omega), BitVec.extractLsb'_eq_self]

@[simp] theorem fieldCode10_packTrap (op : BitVec 6) (rs : BitVec 5) (rt : BitVec 5) (code : BitVec 10) (fn : BitVec 6) :
    fieldCode10 (packTrap op rs rt code fn) = code := by
  unfold fieldCode10 packTrap
  rw [BitVec.extractLsb'_append_eq_of_le (by omega), BitVec.extractLsb'_append_eq_of_add_le (by omega), BitVec.extractLsb'_eq_self]

@[simp] theorem fieldFn_packTrap (op : BitVec 6) (rs : BitVec 5) (rt : BitVec 5) (code : BitVec 10) (fn : BitVec 6) :
    fieldFn (packTrap op rs rt code fn) = fn := by
  unfold fieldFn packTrap
  rw [BitVec.extractLsb'_append_eq_of_add_le (by omega), BitVec.extractLsb'_eq_self]

/-! Parts of fields -/

theorem fieldCc_eq (w : Word) : fieldCc w = (fieldRt w).extractLsb' 2 3 := by
  unfold fieldCc fieldRt
  ext i hi
  simp only [BitVec.getElem_extractLsb', BitVec.getLsbD_extractLsb']
  simp [show 2 + i < 5 by omega, ← Nat.add_assoc]

theorem fieldNdTf_eq (w : Word) : w.extractLsb' 16 2 = (fieldRt w).extractLsb' 0 2 := by
  unfold fieldRt
  ext i hi
  simp only [BitVec.getElem_extractLsb', BitVec.getLsbD_extractLsb']
  simp [show i < 5 by omega]

theorem fieldCcCmp_eq (w : Word) : fieldCcCmp w = (fieldSa w).extractLsb' 2 3 := by
  unfold fieldCcCmp fieldSa
  ext i hi
  simp only [BitVec.getElem_extractLsb', BitVec.getLsbD_extractLsb']
  simp [show 2 + i < 5 by omega, ← Nat.add_assoc]

theorem fieldSel_eq (w : Word) : fieldSel w = (fieldFn w).extractLsb' 0 3 := by
  unfold fieldSel fieldFn
  ext i hi
  simp only [BitVec.getElem_extractLsb', BitVec.getLsbD_extractLsb']
  simp [show i < 6 by omega]

theorem fieldImpl4_eq (w : Word) : fieldImpl4 w = (fieldFn w).extractLsb' 0 4 := by
  unfold fieldImpl4 fieldFn
  ext i hi
  simp only [BitVec.getElem_extractLsb', BitVec.getLsbD_extractLsb']
  simp [show i < 6 by omega]

theorem fieldUdi_eq (w : Word) : w.extractLsb' 4 2 = (fieldFn w).extractLsb' 4 2 := by
  unfold fieldFn
  ext i hi
  simp only [BitVec.getElem_extractLsb', BitVec.getLsbD_extractLsb']
  simp [show 4 + i < 6 by omega]

theorem fieldImpl25_eq (w : Word) : fieldImpl25 w = (fieldTarget w).extractLsb' 0 25 := by
  unfold fieldImpl25 fieldTarget
  ext i hi
  simp only [BitVec.getElem_extractLsb', BitVec.getLsbD_extractLsb']
  simp [show i < 26 by omega]

theorem bit5_eq (w : Word) : w.getLsbD 5 = (fieldFn w).getLsbD 5 := by
  simp [fieldFn]

theorem bit6_eq (w : Word) : w.getLsbD 6 = (fieldSa w).getLsbD 0 := by
  simp [fieldSa]

theorem bit10_eq (w : Word) : w.getLsbD 10 = (fieldSa w).getLsbD 4 := by
  simp [fieldSa]

theorem bit16_eq (w : Word) : w.getLsbD 16 = (fieldRt w).getLsbD 0 := by
  simp [fieldRt]

theorem bit21_eq (w : Word) : w.getLsbD 21 = (fieldRs w).getLsbD 0 := by
  simp [fieldRs]

theorem bit25_eq (w : Word) : w.getLsbD 25 = (fieldRs w).getLsbD 4 := by
  simp [fieldRs]

theorem bit25_target (w : Word) : w.getLsbD 25 = (fieldTarget w).getLsbD 25 := by
  simp [fieldTarget]

/-! Fields put together from two parts -/

@[simp] theorem append_3_2_hi (x : BitVec 3) (y : BitVec 2) : (x ++ y).extractLsb' 2 3 = x := by
  rw [BitVec.extractLsb'_append_eq_of_le (by omega), BitVec.extractLsb'_eq_self]

@[simp] theorem append_3_2_lo (x : BitVec 3) (y : BitVec 2) : (x ++ y).extractLsb' 0 2 = y := by
  rw [BitVec.extractLsb'_append_eq_of_add_le (by omega), BitVec.extractLsb'_eq_self]

@[simp] theorem append_3_3_hi (x : BitVec 3) (y : BitVec 3) : (x ++ y).extractLsb' 3 3 = x := by
  rw [BitVec.extractLsb'_append_eq_of_le (by omega), BitVec.extractLsb'_eq_self]

@[simp] theorem append_3_3_lo (x : BitVec 3) (y : BitVec 3) : (x ++ y).extractLsb' 0 3 = y := by
  rw [BitVec.extractLsb'_append_eq_of_add_le (by omega), BitVec.extractLsb'_eq_self]

@[simp] theorem append_2_4_hi (x : BitVec 2) (y : BitVec 4) : (x ++ y).extractLsb' 4 2 = x := by
  rw [BitVec.extractLsb'_append_eq_of_le (by omega), BitVec.extractLsb'_eq_self]

@[simp] theorem append_2_4_lo (x : BitVec 2) (y : BitVec 4) : (x ++ y).extractLsb' 0 4 = y := by
  rw [BitVec.extractLsb'_append_eq_of_add_le (by omega), BitVec.extractLsb'_eq_self]

@[simp] theorem append_1_25_hi (x : BitVec 1) (y : BitVec 25) : (x ++ y).extractLsb' 25 1 = x := by
  rw [BitVec.extractLsb'_append_eq_of_le (by omega), BitVec.extractLsb'_eq_self]

@[simp] theorem append_1_25_lo (x : BitVec 1) (y : BitVec 25) : (x ++ y).extractLsb' 0 25 = y := by
  rw [BitVec.extractLsb'_append_eq_of_add_le (by omega), BitVec.extractLsb'_eq_self]

@[simp] theorem append_3_2_bit0 (x : BitVec 3) (y : BitVec 2) : (x ++ y).getLsbD 0 = y.getLsbD 0 := by
  rw [BitVec.getLsbD_append]
  rfl

@[simp] theorem append_1_25_bit25 (x : BitVec 1) (y : BitVec 25) : (x ++ y).getLsbD 25 = x.getLsbD 0 := by
  rw [BitVec.getLsbD_append]
  rfl

/-! `packR` gives equal words only for equal fields -/

theorem packR_inj {op op' : BitVec 6} {rs rs' rt rt' rd rd' sa sa' : Reg} {fn fn' : BitVec 6}
    (h : packR op rs rt rd sa fn = packR op' rs' rt' rd' sa' fn') :
    op = op' ∧ rs = rs' ∧ rt = rt' ∧ rd = rd' ∧ sa = sa' ∧ fn = fn' := by
  refine ⟨?_, ?_, ?_, ?_, ?_, ?_⟩
  · simpa using congrArg fieldOp h
  · simpa using congrArg fieldRs h
  · simpa using congrArg fieldRt h
  · simpa using congrArg fieldRd h
  · simpa using congrArg fieldSa h
  · simpa using congrArg fieldFn h

/-! Only the words of `wait` (R577, log 43) and of the register jumps (R310, log 49) change when canonical -/

/-- Not the word of a `wait`, by its opcode or by its `CO` bit. -/
theorem not_wait_word (w : Word) (h : fieldOp w ≠ 0b010000#6 ∨ (fieldRs w).getLsbD 4 = false) :
    ¬ w &&& 0xFE00003F#32 = 0x42000020#32 := by
  intro e
  rcases h with h | h
  · refine h ?_
    have h2 : fieldOp (w &&& 0xFE00003F#32) = 0b010000#6 := by rw [e]; decide
    rw [← h2]
    unfold fieldOp
    rw [BitVec.extractLsb'_and, show BitVec.extractLsb' 26 6 0xFE00003F#32 = BitVec.allOnes 6 from rfl, BitVec.and_allOnes]
  · have h2 : (w &&& 0xFE00003F#32).getLsbD 25 = true := by rw [e]; decide
    rw [← bit25_eq] at h
    rw [BitVec.getLsbD_and, h] at h2
    exact Bool.noConfusion h2

theorem canonicalWord_of (w : Word) (h : fieldOp w ≠ 0b010000#6 ∨ (fieldRs w).getLsbD 4 = false)
    (h2 : fieldOp w ≠ 0b000000#6 ∨ (fieldFn w ≠ 0b001000#6 ∧ fieldFn w ≠ 0b001001#6)) : canonicalWord w = w := by
  unfold canonicalWord
  rw [if_neg (not_wait_word w h), if_neg (by tauto)]

/-- A register jump whose hint is canonical: bits 9:6 are clear. -/
theorem canonicalWord_of_hint (w : Word) (h : fieldOp w ≠ 0b010000#6) (h2 : w &&& 0xFFFFFC3F#32 = w) :
    canonicalWord w = w := by
  unfold canonicalWord
  rw [if_neg (not_wait_word w (.inl h)), h2, ite_self]

/-! The words of the instructions, one equation each: cite these instead of unfolding `encode` -/

@[simp] theorem encode_eret : encode .eret = packR 0b010000#6 0b10000#5 0b00000#5 0b00000#5 0b00000#5 0b011000#6 := rfl
@[simp] theorem encode_deret : encode .deret = packR 0b010000#6 0b10000#5 0b00000#5 0b00000#5 0b00000#5 0b011111#6 := rfl
@[simp] theorem encode_tlbr : encode .tlbr = packR 0b010000#6 0b10000#5 0b00000#5 0b00000#5 0b00000#5 0b000001#6 := rfl
@[simp] theorem encode_tlbwi : encode .tlbwi = packR 0b010000#6 0b10000#5 0b00000#5 0b00000#5 0b00000#5 0b000010#6 := rfl
@[simp] theorem encode_tlbwr : encode .tlbwr = packR 0b010000#6 0b10000#5 0b00000#5 0b00000#5 0b00000#5 0b000110#6 := rfl
@[simp] theorem encode_tlbp : encode .tlbp = packR 0b010000#6 0b10000#5 0b00000#5 0b00000#5 0b00000#5 0b001000#6 := rfl
@[simp] theorem encode_nop : encode .nop = packR 0b000000#6 0b00000#5 0b00000#5 0b00000#5 0b00000#5 0b000000#6 := rfl
@[simp] theorem encode_ssnop : encode .ssnop = packR 0b000000#6 0b00000#5 0b00000#5 0b00000#5 0b00001#5 0b000000#6 := rfl
@[simp] theorem encode_ehb : encode .ehb = packR 0b000000#6 0b00000#5 0b00000#5 0b00000#5 0b00011#5 0b000000#6 := rfl
@[simp] theorem encode_mfhi (rd : Reg) : encode (.mfhi rd) = packR 0b000000#6 0b00000#5 0b00000#5 rd 0b00000#5 0b010000#6 := rfl
@[simp] theorem encode_mflo (rd : Reg) : encode (.mflo rd) = packR 0b000000#6 0b00000#5 0b00000#5 rd 0b00000#5 0b010010#6 := rfl
@[simp] theorem encode_mthi (rs : Reg) : encode (.mthi rs) = packR 0b000000#6 rs 0b00000#5 0b00000#5 0b00000#5 0b010001#6 := rfl
@[simp] theorem encode_mtlo (rs : Reg) : encode (.mtlo rs) = packR 0b000000#6 rs 0b00000#5 0b00000#5 0b00000#5 0b010011#6 := rfl
@[simp] theorem encode_jr (rs : Reg) : encode (.jr rs) = packR 0b000000#6 rs 0b00000#5 0b00000#5 0b00000#5 0b001000#6 := rfl
@[simp] theorem encode_jr_hb (rs : Reg) : encode (.jr_hb rs) = packR 0b000000#6 rs 0b00000#5 0b00000#5 0b10000#5 0b001000#6 := rfl
@[simp] theorem encode_sync (stype : Reg) : encode (.sync stype) = packR 0b000000#6 0b00000#5 0b00000#5 0b00000#5 stype 0b001111#6 := rfl
@[simp] theorem encode_di (rt : Reg) : encode (.di rt) = packR 0b010000#6 0b01011#5 rt 0b01100#5 0b00000#5 0b000000#6 := rfl
@[simp] theorem encode_ei (rt : Reg) : encode (.ei rt) = packR 0b010000#6 0b01011#5 rt 0b01100#5 0b00000#5 0b100000#6 := rfl
@[simp] theorem encode_seb (rt : Reg) (rd : Reg) : encode (.seb rt rd) = packR 0b011111#6 0b00000#5 rt rd 0b10000#5 0b100000#6 := rfl
@[simp] theorem encode_seh (rt : Reg) (rd : Reg) : encode (.seh rt rd) = packR 0b011111#6 0b00000#5 rt rd 0b11000#5 0b100000#6 := rfl
@[simp] theorem encode_wsbh (rt : Reg) (rd : Reg) : encode (.wsbh rt rd) = packR 0b011111#6 0b00000#5 rt rd 0b00010#5 0b100000#6 := rfl
@[simp] theorem encode_mult (rs : Reg) (rt : Reg) : encode (.mult rs rt) = packR 0b000000#6 rs rt 0b00000#5 0b00000#5 0b011000#6 := rfl
@[simp] theorem encode_multu (rs : Reg) (rt : Reg) : encode (.multu rs rt) = packR 0b000000#6 rs rt 0b00000#5 0b00000#5 0b011001#6 := rfl
@[simp] theorem encode_madd (rs : Reg) (rt : Reg) : encode (.madd rs rt) = packR 0b011100#6 rs rt 0b00000#5 0b00000#5 0b000000#6 := rfl
@[simp] theorem encode_maddu (rs : Reg) (rt : Reg) : encode (.maddu rs rt) = packR 0b011100#6 rs rt 0b00000#5 0b00000#5 0b000001#6 := rfl
@[simp] theorem encode_msub (rs : Reg) (rt : Reg) : encode (.msub rs rt) = packR 0b011100#6 rs rt 0b00000#5 0b00000#5 0b000100#6 := rfl
@[simp] theorem encode_msubu (rs : Reg) (rt : Reg) : encode (.msubu rs rt) = packR 0b011100#6 rs rt 0b00000#5 0b00000#5 0b000101#6 := rfl
@[simp] theorem encode_div (rs : Reg) (rt : Reg) : encode (.div rs rt) = packR 0b000000#6 rs rt 0b00000#5 0b00000#5 0b011010#6 := rfl
@[simp] theorem encode_divu (rs : Reg) (rt : Reg) : encode (.divu rs rt) = packR 0b000000#6 rs rt 0b00000#5 0b00000#5 0b011011#6 := rfl
@[simp] theorem encode_jalr (rs : Reg) (rd : Reg) : encode (.jalr rs rd) = packR 0b000000#6 rs 0b00000#5 rd 0b00000#5 0b001001#6 := rfl
@[simp] theorem encode_jalr_hb (rs : Reg) (rd : Reg) : encode (.jalr_hb rs rd) = packR 0b000000#6 rs 0b00000#5 rd 0b10000#5 0b001001#6 := rfl
@[simp] theorem encode_rdpgpr (rt : Reg) (rd : Reg) : encode (.rdpgpr rt rd) = packR 0b010000#6 0b01010#5 rt rd 0b00000#5 0b000000#6 := rfl
@[simp] theorem encode_wrpgpr (rt : Reg) (rd : Reg) : encode (.wrpgpr rt rd) = packR 0b010000#6 0b01110#5 rt rd 0b00000#5 0b000000#6 := rfl
@[simp] theorem encode_rdhwr (rt : Reg) (rd : Reg) : encode (.rdhwr rt rd) = packR 0b011111#6 0b00000#5 rt rd 0b00000#5 0b111011#6 := rfl
@[simp] theorem encode_mfc1 (rt : Reg) (fs : Reg) : encode (.mfc1 rt fs) = packR 0b010001#6 0b00000#5 rt fs 0b00000#5 0b000000#6 := rfl
@[simp] theorem encode_mtc1 (rt : Reg) (fs : Reg) : encode (.mtc1 rt fs) = packR 0b010001#6 0b00100#5 rt fs 0b00000#5 0b000000#6 := rfl
@[simp] theorem encode_mfhc1 (rt : Reg) (fs : Reg) : encode (.mfhc1 rt fs) = packR 0b010001#6 0b00011#5 rt fs 0b00000#5 0b000000#6 := rfl
@[simp] theorem encode_mthc1 (rt : Reg) (fs : Reg) : encode (.mthc1 rt fs) = packR 0b010001#6 0b00111#5 rt fs 0b00000#5 0b000000#6 := rfl
@[simp] theorem encode_cfc1 (rt : Reg) (fs : Reg) : encode (.cfc1 rt fs) = packR 0b010001#6 0b00010#5 rt fs 0b00000#5 0b000000#6 := rfl
@[simp] theorem encode_ctc1 (rt : Reg) (fs : Reg) : encode (.ctc1 rt fs) = packR 0b010001#6 0b00110#5 rt fs 0b00000#5 0b000000#6 := rfl
@[simp] theorem encode_sqrt_s (fs : Reg) (fd : Reg) : encode (.sqrt_s fs fd) = packR 0b010001#6 0b10000#5 0b00000#5 fs fd 0b000100#6 := rfl
@[simp] theorem encode_sqrt_d (fs : Reg) (fd : Reg) : encode (.sqrt_d fs fd) = packR 0b010001#6 0b10001#5 0b00000#5 fs fd 0b000100#6 := rfl
@[simp] theorem encode_abs_s (fs : Reg) (fd : Reg) : encode (.abs_s fs fd) = packR 0b010001#6 0b10000#5 0b00000#5 fs fd 0b000101#6 := rfl
@[simp] theorem encode_abs_d (fs : Reg) (fd : Reg) : encode (.abs_d fs fd) = packR 0b010001#6 0b10001#5 0b00000#5 fs fd 0b000101#6 := rfl
@[simp] theorem encode_neg_s (fs : Reg) (fd : Reg) : encode (.neg_s fs fd) = packR 0b010001#6 0b10000#5 0b00000#5 fs fd 0b000111#6 := rfl
@[simp] theorem encode_neg_d (fs : Reg) (fd : Reg) : encode (.neg_d fs fd) = packR 0b010001#6 0b10001#5 0b00000#5 fs fd 0b000111#6 := rfl
@[simp] theorem encode_mov_s (fs : Reg) (fd : Reg) : encode (.mov_s fs fd) = packR 0b010001#6 0b10000#5 0b00000#5 fs fd 0b000110#6 := rfl
@[simp] theorem encode_mov_d (fs : Reg) (fd : Reg) : encode (.mov_d fs fd) = packR 0b010001#6 0b10001#5 0b00000#5 fs fd 0b000110#6 := rfl
@[simp] theorem encode_recip_s (fs : Reg) (fd : Reg) : encode (.recip_s fs fd) = packR 0b010001#6 0b10000#5 0b00000#5 fs fd 0b010101#6 := rfl
@[simp] theorem encode_recip_d (fs : Reg) (fd : Reg) : encode (.recip_d fs fd) = packR 0b010001#6 0b10001#5 0b00000#5 fs fd 0b010101#6 := rfl
@[simp] theorem encode_rsqrt_s (fs : Reg) (fd : Reg) : encode (.rsqrt_s fs fd) = packR 0b010001#6 0b10000#5 0b00000#5 fs fd 0b010110#6 := rfl
@[simp] theorem encode_rsqrt_d (fs : Reg) (fd : Reg) : encode (.rsqrt_d fs fd) = packR 0b010001#6 0b10001#5 0b00000#5 fs fd 0b010110#6 := rfl
@[simp] theorem encode_round_w_s (fs : Reg) (fd : Reg) : encode (.round_w_s fs fd) = packR 0b010001#6 0b10000#5 0b00000#5 fs fd 0b001100#6 := rfl
@[simp] theorem encode_round_w_d (fs : Reg) (fd : Reg) : encode (.round_w_d fs fd) = packR 0b010001#6 0b10001#5 0b00000#5 fs fd 0b001100#6 := rfl
@[simp] theorem encode_trunc_w_s (fs : Reg) (fd : Reg) : encode (.trunc_w_s fs fd) = packR 0b010001#6 0b10000#5 0b00000#5 fs fd 0b001101#6 := rfl
@[simp] theorem encode_trunc_w_d (fs : Reg) (fd : Reg) : encode (.trunc_w_d fs fd) = packR 0b010001#6 0b10001#5 0b00000#5 fs fd 0b001101#6 := rfl
@[simp] theorem encode_ceil_w_s (fs : Reg) (fd : Reg) : encode (.ceil_w_s fs fd) = packR 0b010001#6 0b10000#5 0b00000#5 fs fd 0b001110#6 := rfl
@[simp] theorem encode_ceil_w_d (fs : Reg) (fd : Reg) : encode (.ceil_w_d fs fd) = packR 0b010001#6 0b10001#5 0b00000#5 fs fd 0b001110#6 := rfl
@[simp] theorem encode_floor_w_s (fs : Reg) (fd : Reg) : encode (.floor_w_s fs fd) = packR 0b010001#6 0b10000#5 0b00000#5 fs fd 0b001111#6 := rfl
@[simp] theorem encode_floor_w_d (fs : Reg) (fd : Reg) : encode (.floor_w_d fs fd) = packR 0b010001#6 0b10001#5 0b00000#5 fs fd 0b001111#6 := rfl
@[simp] theorem encode_round_l_s (fs : Reg) (fd : Reg) : encode (.round_l_s fs fd) = packR 0b010001#6 0b10000#5 0b00000#5 fs fd 0b001000#6 := rfl
@[simp] theorem encode_round_l_d (fs : Reg) (fd : Reg) : encode (.round_l_d fs fd) = packR 0b010001#6 0b10001#5 0b00000#5 fs fd 0b001000#6 := rfl
@[simp] theorem encode_trunc_l_s (fs : Reg) (fd : Reg) : encode (.trunc_l_s fs fd) = packR 0b010001#6 0b10000#5 0b00000#5 fs fd 0b001001#6 := rfl
@[simp] theorem encode_trunc_l_d (fs : Reg) (fd : Reg) : encode (.trunc_l_d fs fd) = packR 0b010001#6 0b10001#5 0b00000#5 fs fd 0b001001#6 := rfl
@[simp] theorem encode_ceil_l_s (fs : Reg) (fd : Reg) : encode (.ceil_l_s fs fd) = packR 0b010001#6 0b10000#5 0b00000#5 fs fd 0b001010#6 := rfl
@[simp] theorem encode_ceil_l_d (fs : Reg) (fd : Reg) : encode (.ceil_l_d fs fd) = packR 0b010001#6 0b10001#5 0b00000#5 fs fd 0b001010#6 := rfl
@[simp] theorem encode_floor_l_s (fs : Reg) (fd : Reg) : encode (.floor_l_s fs fd) = packR 0b010001#6 0b10000#5 0b00000#5 fs fd 0b001011#6 := rfl
@[simp] theorem encode_floor_l_d (fs : Reg) (fd : Reg) : encode (.floor_l_d fs fd) = packR 0b010001#6 0b10001#5 0b00000#5 fs fd 0b001011#6 := rfl
@[simp] theorem encode_cvt_s_d (fs : Reg) (fd : Reg) : encode (.cvt_s_d fs fd) = packR 0b010001#6 0b10001#5 0b00000#5 fs fd 0b100000#6 := rfl
@[simp] theorem encode_cvt_s_w (fs : Reg) (fd : Reg) : encode (.cvt_s_w fs fd) = packR 0b010001#6 0b10100#5 0b00000#5 fs fd 0b100000#6 := rfl
@[simp] theorem encode_cvt_s_l (fs : Reg) (fd : Reg) : encode (.cvt_s_l fs fd) = packR 0b010001#6 0b10101#5 0b00000#5 fs fd 0b100000#6 := rfl
@[simp] theorem encode_cvt_d_s (fs : Reg) (fd : Reg) : encode (.cvt_d_s fs fd) = packR 0b010001#6 0b10000#5 0b00000#5 fs fd 0b100001#6 := rfl
@[simp] theorem encode_cvt_d_w (fs : Reg) (fd : Reg) : encode (.cvt_d_w fs fd) = packR 0b010001#6 0b10100#5 0b00000#5 fs fd 0b100001#6 := rfl
@[simp] theorem encode_cvt_d_l (fs : Reg) (fd : Reg) : encode (.cvt_d_l fs fd) = packR 0b010001#6 0b10101#5 0b00000#5 fs fd 0b100001#6 := rfl
@[simp] theorem encode_cvt_w_s (fs : Reg) (fd : Reg) : encode (.cvt_w_s fs fd) = packR 0b010001#6 0b10000#5 0b00000#5 fs fd 0b100100#6 := rfl
@[simp] theorem encode_cvt_w_d (fs : Reg) (fd : Reg) : encode (.cvt_w_d fs fd) = packR 0b010001#6 0b10001#5 0b00000#5 fs fd 0b100100#6 := rfl
@[simp] theorem encode_cvt_l_s (fs : Reg) (fd : Reg) : encode (.cvt_l_s fs fd) = packR 0b010001#6 0b10000#5 0b00000#5 fs fd 0b100101#6 := rfl
@[simp] theorem encode_cvt_l_d (fs : Reg) (fd : Reg) : encode (.cvt_l_d fs fd) = packR 0b010001#6 0b10001#5 0b00000#5 fs fd 0b100101#6 := rfl
@[simp] theorem encode_cfc2 (rt : Reg) (rd : Reg) : encode (.cfc2 rt rd) = packR 0b010010#6 0b00010#5 rt rd 0b00000#5 0b000000#6 := rfl
@[simp] theorem encode_ctc2 (rt : Reg) (rd : Reg) : encode (.ctc2 rt rd) = packR 0b010010#6 0b00110#5 rt rd 0b00000#5 0b000000#6 := rfl
@[simp] theorem encode_movf (rs : Reg) (cc : BitVec 3) (rd : Reg) : encode (.movf rs cc rd) = packR 0b000000#6 rs (cc ++ 0b00#2) rd 0b00000#5 0b000001#6 := rfl
@[simp] theorem encode_movt (rs : Reg) (cc : BitVec 3) (rd : Reg) : encode (.movt rs cc rd) = packR 0b000000#6 rs (cc ++ 0b01#2) rd 0b00000#5 0b000001#6 := rfl
@[simp] theorem encode_mfc0 (rt : Reg) (rd : Reg) (sel : BitVec 3) : encode (.mfc0 rt rd sel) = packR 0b010000#6 0b00000#5 rt rd 0b00000#5 (0b000#3 ++ sel) := rfl
@[simp] theorem encode_mtc0 (rt : Reg) (rd : Reg) (sel : BitVec 3) : encode (.mtc0 rt rd sel) = packR 0b010000#6 0b00100#5 rt rd 0b00000#5 (0b000#3 ++ sel) := rfl
@[simp] theorem encode_c_f_s (ft : Reg) (fs : Reg) (cc : BitVec 3) : encode (.c_f_s ft fs cc) = packR 0b010001#6 0b10000#5 ft fs (cc ++ 0b00#2) 0b110000#6 := rfl
@[simp] theorem encode_c_un_s (ft : Reg) (fs : Reg) (cc : BitVec 3) : encode (.c_un_s ft fs cc) = packR 0b010001#6 0b10000#5 ft fs (cc ++ 0b00#2) 0b110001#6 := rfl
@[simp] theorem encode_c_eq_s (ft : Reg) (fs : Reg) (cc : BitVec 3) : encode (.c_eq_s ft fs cc) = packR 0b010001#6 0b10000#5 ft fs (cc ++ 0b00#2) 0b110010#6 := rfl
@[simp] theorem encode_c_ueq_s (ft : Reg) (fs : Reg) (cc : BitVec 3) : encode (.c_ueq_s ft fs cc) = packR 0b010001#6 0b10000#5 ft fs (cc ++ 0b00#2) 0b110011#6 := rfl
@[simp] theorem encode_c_olt_s (ft : Reg) (fs : Reg) (cc : BitVec 3) : encode (.c_olt_s ft fs cc) = packR 0b010001#6 0b10000#5 ft fs (cc ++ 0b00#2) 0b110100#6 := rfl
@[simp] theorem encode_c_ult_s (ft : Reg) (fs : Reg) (cc : BitVec 3) : encode (.c_ult_s ft fs cc) = packR 0b010001#6 0b10000#5 ft fs (cc ++ 0b00#2) 0b110101#6 := rfl
@[simp] theorem encode_c_ole_s (ft : Reg) (fs : Reg) (cc : BitVec 3) : encode (.c_ole_s ft fs cc) = packR 0b010001#6 0b10000#5 ft fs (cc ++ 0b00#2) 0b110110#6 := rfl
@[simp] theorem encode_c_ule_s (ft : Reg) (fs : Reg) (cc : BitVec 3) : encode (.c_ule_s ft fs cc) = packR 0b010001#6 0b10000#5 ft fs (cc ++ 0b00#2) 0b110111#6 := rfl
@[simp] theorem encode_c_sf_s (ft : Reg) (fs : Reg) (cc : BitVec 3) : encode (.c_sf_s ft fs cc) = packR 0b010001#6 0b10000#5 ft fs (cc ++ 0b00#2) 0b111000#6 := rfl
@[simp] theorem encode_c_ngle_s (ft : Reg) (fs : Reg) (cc : BitVec 3) : encode (.c_ngle_s ft fs cc) = packR 0b010001#6 0b10000#5 ft fs (cc ++ 0b00#2) 0b111001#6 := rfl
@[simp] theorem encode_c_seq_s (ft : Reg) (fs : Reg) (cc : BitVec 3) : encode (.c_seq_s ft fs cc) = packR 0b010001#6 0b10000#5 ft fs (cc ++ 0b00#2) 0b111010#6 := rfl
@[simp] theorem encode_c_ngl_s (ft : Reg) (fs : Reg) (cc : BitVec 3) : encode (.c_ngl_s ft fs cc) = packR 0b010001#6 0b10000#5 ft fs (cc ++ 0b00#2) 0b111011#6 := rfl
@[simp] theorem encode_c_lt_s (ft : Reg) (fs : Reg) (cc : BitVec 3) : encode (.c_lt_s ft fs cc) = packR 0b010001#6 0b10000#5 ft fs (cc ++ 0b00#2) 0b111100#6 := rfl
@[simp] theorem encode_c_nge_s (ft : Reg) (fs : Reg) (cc : BitVec 3) : encode (.c_nge_s ft fs cc) = packR 0b010001#6 0b10000#5 ft fs (cc ++ 0b00#2) 0b111101#6 := rfl
@[simp] theorem encode_c_le_s (ft : Reg) (fs : Reg) (cc : BitVec 3) : encode (.c_le_s ft fs cc) = packR 0b010001#6 0b10000#5 ft fs (cc ++ 0b00#2) 0b111110#6 := rfl
@[simp] theorem encode_c_ngt_s (ft : Reg) (fs : Reg) (cc : BitVec 3) : encode (.c_ngt_s ft fs cc) = packR 0b010001#6 0b10000#5 ft fs (cc ++ 0b00#2) 0b111111#6 := rfl
@[simp] theorem encode_c_f_d (ft : Reg) (fs : Reg) (cc : BitVec 3) : encode (.c_f_d ft fs cc) = packR 0b010001#6 0b10001#5 ft fs (cc ++ 0b00#2) 0b110000#6 := rfl
@[simp] theorem encode_c_un_d (ft : Reg) (fs : Reg) (cc : BitVec 3) : encode (.c_un_d ft fs cc) = packR 0b010001#6 0b10001#5 ft fs (cc ++ 0b00#2) 0b110001#6 := rfl
@[simp] theorem encode_c_eq_d (ft : Reg) (fs : Reg) (cc : BitVec 3) : encode (.c_eq_d ft fs cc) = packR 0b010001#6 0b10001#5 ft fs (cc ++ 0b00#2) 0b110010#6 := rfl
@[simp] theorem encode_c_ueq_d (ft : Reg) (fs : Reg) (cc : BitVec 3) : encode (.c_ueq_d ft fs cc) = packR 0b010001#6 0b10001#5 ft fs (cc ++ 0b00#2) 0b110011#6 := rfl
@[simp] theorem encode_c_olt_d (ft : Reg) (fs : Reg) (cc : BitVec 3) : encode (.c_olt_d ft fs cc) = packR 0b010001#6 0b10001#5 ft fs (cc ++ 0b00#2) 0b110100#6 := rfl
@[simp] theorem encode_c_ult_d (ft : Reg) (fs : Reg) (cc : BitVec 3) : encode (.c_ult_d ft fs cc) = packR 0b010001#6 0b10001#5 ft fs (cc ++ 0b00#2) 0b110101#6 := rfl
@[simp] theorem encode_c_ole_d (ft : Reg) (fs : Reg) (cc : BitVec 3) : encode (.c_ole_d ft fs cc) = packR 0b010001#6 0b10001#5 ft fs (cc ++ 0b00#2) 0b110110#6 := rfl
@[simp] theorem encode_c_ule_d (ft : Reg) (fs : Reg) (cc : BitVec 3) : encode (.c_ule_d ft fs cc) = packR 0b010001#6 0b10001#5 ft fs (cc ++ 0b00#2) 0b110111#6 := rfl
@[simp] theorem encode_c_sf_d (ft : Reg) (fs : Reg) (cc : BitVec 3) : encode (.c_sf_d ft fs cc) = packR 0b010001#6 0b10001#5 ft fs (cc ++ 0b00#2) 0b111000#6 := rfl
@[simp] theorem encode_c_ngle_d (ft : Reg) (fs : Reg) (cc : BitVec 3) : encode (.c_ngle_d ft fs cc) = packR 0b010001#6 0b10001#5 ft fs (cc ++ 0b00#2) 0b111001#6 := rfl
@[simp] theorem encode_c_seq_d (ft : Reg) (fs : Reg) (cc : BitVec 3) : encode (.c_seq_d ft fs cc) = packR 0b010001#6 0b10001#5 ft fs (cc ++ 0b00#2) 0b111010#6 := rfl
@[simp] theorem encode_c_ngl_d (ft : Reg) (fs : Reg) (cc : BitVec 3) : encode (.c_ngl_d ft fs cc) = packR 0b010001#6 0b10001#5 ft fs (cc ++ 0b00#2) 0b111011#6 := rfl
@[simp] theorem encode_c_lt_d (ft : Reg) (fs : Reg) (cc : BitVec 3) : encode (.c_lt_d ft fs cc) = packR 0b010001#6 0b10001#5 ft fs (cc ++ 0b00#2) 0b111100#6 := rfl
@[simp] theorem encode_c_nge_d (ft : Reg) (fs : Reg) (cc : BitVec 3) : encode (.c_nge_d ft fs cc) = packR 0b010001#6 0b10001#5 ft fs (cc ++ 0b00#2) 0b111101#6 := rfl
@[simp] theorem encode_c_le_d (ft : Reg) (fs : Reg) (cc : BitVec 3) : encode (.c_le_d ft fs cc) = packR 0b010001#6 0b10001#5 ft fs (cc ++ 0b00#2) 0b111110#6 := rfl
@[simp] theorem encode_c_ngt_d (ft : Reg) (fs : Reg) (cc : BitVec 3) : encode (.c_ngt_d ft fs cc) = packR 0b010001#6 0b10001#5 ft fs (cc ++ 0b00#2) 0b111111#6 := rfl
@[simp] theorem encode_movf_s (cc : BitVec 3) (fs : Reg) (fd : Reg) : encode (.movf_s cc fs fd) = packR 0b010001#6 0b10000#5 (cc ++ 0b00#2) fs fd 0b010001#6 := rfl
@[simp] theorem encode_movt_s (cc : BitVec 3) (fs : Reg) (fd : Reg) : encode (.movt_s cc fs fd) = packR 0b010001#6 0b10000#5 (cc ++ 0b01#2) fs fd 0b010001#6 := rfl
@[simp] theorem encode_movf_d (cc : BitVec 3) (fs : Reg) (fd : Reg) : encode (.movf_d cc fs fd) = packR 0b010001#6 0b10001#5 (cc ++ 0b00#2) fs fd 0b010001#6 := rfl
@[simp] theorem encode_movt_d (cc : BitVec 3) (fs : Reg) (fd : Reg) : encode (.movt_d cc fs fd) = packR 0b010001#6 0b10001#5 (cc ++ 0b01#2) fs fd 0b010001#6 := rfl
@[simp] theorem encode_add (rs : Reg) (rt : Reg) (rd : Reg) : encode (.add rs rt rd) = packR 0b000000#6 rs rt rd 0b00000#5 0b100000#6 := rfl
@[simp] theorem encode_addu (rs : Reg) (rt : Reg) (rd : Reg) : encode (.addu rs rt rd) = packR 0b000000#6 rs rt rd 0b00000#5 0b100001#6 := rfl
@[simp] theorem encode_sub (rs : Reg) (rt : Reg) (rd : Reg) : encode (.sub rs rt rd) = packR 0b000000#6 rs rt rd 0b00000#5 0b100010#6 := rfl
@[simp] theorem encode_subu (rs : Reg) (rt : Reg) (rd : Reg) : encode (.subu rs rt rd) = packR 0b000000#6 rs rt rd 0b00000#5 0b100011#6 := rfl
@[simp] theorem encode_and (rs : Reg) (rt : Reg) (rd : Reg) : encode (.and rs rt rd) = packR 0b000000#6 rs rt rd 0b00000#5 0b100100#6 := rfl
@[simp] theorem encode_or (rs : Reg) (rt : Reg) (rd : Reg) : encode (.or rs rt rd) = packR 0b000000#6 rs rt rd 0b00000#5 0b100101#6 := rfl
@[simp] theorem encode_xor (rs : Reg) (rt : Reg) (rd : Reg) : encode (.xor rs rt rd) = packR 0b000000#6 rs rt rd 0b00000#5 0b100110#6 := rfl
@[simp] theorem encode_nor (rs : Reg) (rt : Reg) (rd : Reg) : encode (.nor rs rt rd) = packR 0b000000#6 rs rt rd 0b00000#5 0b100111#6 := rfl
@[simp] theorem encode_slt (rs : Reg) (rt : Reg) (rd : Reg) : encode (.slt rs rt rd) = packR 0b000000#6 rs rt rd 0b00000#5 0b101010#6 := rfl
@[simp] theorem encode_sltu (rs : Reg) (rt : Reg) (rd : Reg) : encode (.sltu rs rt rd) = packR 0b000000#6 rs rt rd 0b00000#5 0b101011#6 := rfl
@[simp] theorem encode_sll (rt : Reg) (rd : Reg) (sa : Reg) : encode (.sll rt rd sa) = packR 0b000000#6 0b00000#5 rt rd sa 0b000000#6 := rfl
@[simp] theorem encode_srl (rt : Reg) (rd : Reg) (sa : Reg) : encode (.srl rt rd sa) = packR 0b000000#6 0b00000#5 rt rd sa 0b000010#6 := rfl
@[simp] theorem encode_sra (rt : Reg) (rd : Reg) (sa : Reg) : encode (.sra rt rd sa) = packR 0b000000#6 0b00000#5 rt rd sa 0b000011#6 := rfl
@[simp] theorem encode_sllv (rs : Reg) (rt : Reg) (rd : Reg) : encode (.sllv rs rt rd) = packR 0b000000#6 rs rt rd 0b00000#5 0b000100#6 := rfl
@[simp] theorem encode_srlv (rs : Reg) (rt : Reg) (rd : Reg) : encode (.srlv rs rt rd) = packR 0b000000#6 rs rt rd 0b00000#5 0b000110#6 := rfl
@[simp] theorem encode_srav (rs : Reg) (rt : Reg) (rd : Reg) : encode (.srav rs rt rd) = packR 0b000000#6 rs rt rd 0b00000#5 0b000111#6 := rfl
@[simp] theorem encode_rotr (rt : Reg) (rd : Reg) (sa : Reg) : encode (.rotr rt rd sa) = packR 0b000000#6 0b00001#5 rt rd sa 0b000010#6 := rfl
@[simp] theorem encode_rotrv (rs : Reg) (rt : Reg) (rd : Reg) : encode (.rotrv rs rt rd) = packR 0b000000#6 rs rt rd 0b00001#5 0b000110#6 := rfl
@[simp] theorem encode_movz (rs : Reg) (rt : Reg) (rd : Reg) : encode (.movz rs rt rd) = packR 0b000000#6 rs rt rd 0b00000#5 0b001010#6 := rfl
@[simp] theorem encode_movn (rs : Reg) (rt : Reg) (rd : Reg) : encode (.movn rs rt rd) = packR 0b000000#6 rs rt rd 0b00000#5 0b001011#6 := rfl
@[simp] theorem encode_clz (rs : Reg) (rt : Reg) (rd : Reg) : encode (.clz rs rt rd) = packR 0b011100#6 rs rt rd 0b00000#5 0b100000#6 := rfl
@[simp] theorem encode_clo (rs : Reg) (rt : Reg) (rd : Reg) : encode (.clo rs rt rd) = packR 0b011100#6 rs rt rd 0b00000#5 0b100001#6 := rfl
@[simp] theorem encode_mul (rs : Reg) (rt : Reg) (rd : Reg) : encode (.mul rs rt rd) = packR 0b011100#6 rs rt rd 0b00000#5 0b000010#6 := rfl
@[simp] theorem encode_lwxc1 (base : Reg) (index : Reg) (fd : Reg) : encode (.lwxc1 base index fd) = packR 0b010011#6 base index 0b00000#5 fd 0b000000#6 := rfl
@[simp] theorem encode_ldxc1 (base : Reg) (index : Reg) (fd : Reg) : encode (.ldxc1 base index fd) = packR 0b010011#6 base index 0b00000#5 fd 0b000001#6 := rfl
@[simp] theorem encode_luxc1 (base : Reg) (index : Reg) (fd : Reg) : encode (.luxc1 base index fd) = packR 0b010011#6 base index 0b00000#5 fd 0b000101#6 := rfl
@[simp] theorem encode_swxc1 (base : Reg) (index : Reg) (fs : Reg) : encode (.swxc1 base index fs) = packR 0b010011#6 base index fs 0b00000#5 0b001000#6 := rfl
@[simp] theorem encode_sdxc1 (base : Reg) (index : Reg) (fs : Reg) : encode (.sdxc1 base index fs) = packR 0b010011#6 base index fs 0b00000#5 0b001001#6 := rfl
@[simp] theorem encode_suxc1 (base : Reg) (index : Reg) (fs : Reg) : encode (.suxc1 base index fs) = packR 0b010011#6 base index fs 0b00000#5 0b001101#6 := rfl
@[simp] theorem encode_prefx (base : Reg) (index : Reg) (hint : Reg) : encode (.prefx base index hint) = packR 0b010011#6 base index hint 0b00000#5 0b001111#6 := rfl
@[simp] theorem encode_add_s (ft : Reg) (fs : Reg) (fd : Reg) : encode (.add_s ft fs fd) = packR 0b010001#6 0b10000#5 ft fs fd 0b000000#6 := rfl
@[simp] theorem encode_add_d (ft : Reg) (fs : Reg) (fd : Reg) : encode (.add_d ft fs fd) = packR 0b010001#6 0b10001#5 ft fs fd 0b000000#6 := rfl
@[simp] theorem encode_sub_s (ft : Reg) (fs : Reg) (fd : Reg) : encode (.sub_s ft fs fd) = packR 0b010001#6 0b10000#5 ft fs fd 0b000001#6 := rfl
@[simp] theorem encode_sub_d (ft : Reg) (fs : Reg) (fd : Reg) : encode (.sub_d ft fs fd) = packR 0b010001#6 0b10001#5 ft fs fd 0b000001#6 := rfl
@[simp] theorem encode_mul_s (ft : Reg) (fs : Reg) (fd : Reg) : encode (.mul_s ft fs fd) = packR 0b010001#6 0b10000#5 ft fs fd 0b000010#6 := rfl
@[simp] theorem encode_mul_d (ft : Reg) (fs : Reg) (fd : Reg) : encode (.mul_d ft fs fd) = packR 0b010001#6 0b10001#5 ft fs fd 0b000010#6 := rfl
@[simp] theorem encode_div_s (ft : Reg) (fs : Reg) (fd : Reg) : encode (.div_s ft fs fd) = packR 0b010001#6 0b10000#5 ft fs fd 0b000011#6 := rfl
@[simp] theorem encode_div_d (ft : Reg) (fs : Reg) (fd : Reg) : encode (.div_d ft fs fd) = packR 0b010001#6 0b10001#5 ft fs fd 0b000011#6 := rfl
@[simp] theorem encode_movz_s (rt : Reg) (fs : Reg) (fd : Reg) : encode (.movz_s rt fs fd) = packR 0b010001#6 0b10000#5 rt fs fd 0b010010#6 := rfl
@[simp] theorem encode_movz_d (rt : Reg) (fs : Reg) (fd : Reg) : encode (.movz_d rt fs fd) = packR 0b010001#6 0b10001#5 rt fs fd 0b010010#6 := rfl
@[simp] theorem encode_movn_s (rt : Reg) (fs : Reg) (fd : Reg) : encode (.movn_s rt fs fd) = packR 0b010001#6 0b10000#5 rt fs fd 0b010011#6 := rfl
@[simp] theorem encode_movn_d (rt : Reg) (fs : Reg) (fd : Reg) : encode (.movn_d rt fs fd) = packR 0b010001#6 0b10001#5 rt fs fd 0b010011#6 := rfl
@[simp] theorem encode_wait : encode .wait = packR 0b010000#6 0b10000#5 0b00000#5 0b00000#5 0b00000#5 0b100000#6 := rfl
@[simp] theorem encode_bc1f (cc : BitVec 3) (imm : BitVec 16) : encode (.bc1f cc imm) = packI 0b010001#6 0b01000#5 (cc ++ 0b00#2) imm := rfl
@[simp] theorem encode_bc1t (cc : BitVec 3) (imm : BitVec 16) : encode (.bc1t cc imm) = packI 0b010001#6 0b01000#5 (cc ++ 0b01#2) imm := rfl
@[simp] theorem encode_bc1fl (cc : BitVec 3) (imm : BitVec 16) : encode (.bc1fl cc imm) = packI 0b010001#6 0b01000#5 (cc ++ 0b10#2) imm := rfl
@[simp] theorem encode_bc1tl (cc : BitVec 3) (imm : BitVec 16) : encode (.bc1tl cc imm) = packI 0b010001#6 0b01000#5 (cc ++ 0b11#2) imm := rfl
@[simp] theorem encode_bc2f (cc : BitVec 3) (imm : BitVec 16) : encode (.bc2f cc imm) = packI 0b010010#6 0b01000#5 (cc ++ 0b00#2) imm := rfl
@[simp] theorem encode_bc2t (cc : BitVec 3) (imm : BitVec 16) : encode (.bc2t cc imm) = packI 0b010010#6 0b01000#5 (cc ++ 0b01#2) imm := rfl
@[simp] theorem encode_bc2fl (cc : BitVec 3) (imm : BitVec 16) : encode (.bc2fl cc imm) = packI 0b010010#6 0b01000#5 (cc ++ 0b10#2) imm := rfl
@[simp] theorem encode_bc2tl (cc : BitVec 3) (imm : BitVec 16) : encode (.bc2tl cc imm) = packI 0b010010#6 0b01000#5 (cc ++ 0b11#2) imm := rfl
@[simp] theorem encode_ext (rs : Reg) (rt : Reg) (msb : Reg) (lsb : Reg) : encode (.ext rs rt msb lsb) = packR 0b011111#6 rs rt msb lsb 0b000000#6 := rfl
@[simp] theorem encode_ins (rs : Reg) (rt : Reg) (msb : Reg) (lsb : Reg) : encode (.ins rs rt msb lsb) = packR 0b011111#6 rs rt msb lsb 0b000100#6 := rfl
@[simp] theorem encode_syscall (code : BitVec 20) : encode (.syscall code) = packCode 0b000000#6 code 0b001100#6 := rfl
@[simp] theorem encode_break_ (code : BitVec 20) : encode (.break_ code) = packCode 0b000000#6 code 0b001101#6 := rfl
@[simp] theorem encode_sdbbp (code : BitVec 20) : encode (.sdbbp code) = packCode 0b011100#6 code 0b111111#6 := rfl
@[simp] theorem encode_tge (rs : Reg) (rt : Reg) (code : BitVec 10) : encode (.tge rs rt code) = packTrap 0b000000#6 rs rt code 0b110000#6 := rfl
@[simp] theorem encode_tgeu (rs : Reg) (rt : Reg) (code : BitVec 10) : encode (.tgeu rs rt code) = packTrap 0b000000#6 rs rt code 0b110001#6 := rfl
@[simp] theorem encode_tlt (rs : Reg) (rt : Reg) (code : BitVec 10) : encode (.tlt rs rt code) = packTrap 0b000000#6 rs rt code 0b110010#6 := rfl
@[simp] theorem encode_tltu (rs : Reg) (rt : Reg) (code : BitVec 10) : encode (.tltu rs rt code) = packTrap 0b000000#6 rs rt code 0b110011#6 := rfl
@[simp] theorem encode_teq (rs : Reg) (rt : Reg) (code : BitVec 10) : encode (.teq rs rt code) = packTrap 0b000000#6 rs rt code 0b110100#6 := rfl
@[simp] theorem encode_tne (rs : Reg) (rt : Reg) (code : BitVec 10) : encode (.tne rs rt code) = packTrap 0b000000#6 rs rt code 0b110110#6 := rfl
@[simp] theorem encode_madd_s (fr : Reg) (ft : Reg) (fs : Reg) (fd : Reg) : encode (.madd_s fr ft fs fd) = packR 0b010011#6 fr ft fs fd 0b100000#6 := rfl
@[simp] theorem encode_madd_d (fr : Reg) (ft : Reg) (fs : Reg) (fd : Reg) : encode (.madd_d fr ft fs fd) = packR 0b010011#6 fr ft fs fd 0b100001#6 := rfl
@[simp] theorem encode_msub_s (fr : Reg) (ft : Reg) (fs : Reg) (fd : Reg) : encode (.msub_s fr ft fs fd) = packR 0b010011#6 fr ft fs fd 0b101000#6 := rfl
@[simp] theorem encode_msub_d (fr : Reg) (ft : Reg) (fs : Reg) (fd : Reg) : encode (.msub_d fr ft fs fd) = packR 0b010011#6 fr ft fs fd 0b101001#6 := rfl
@[simp] theorem encode_nmadd_s (fr : Reg) (ft : Reg) (fs : Reg) (fd : Reg) : encode (.nmadd_s fr ft fs fd) = packR 0b010011#6 fr ft fs fd 0b110000#6 := rfl
@[simp] theorem encode_nmadd_d (fr : Reg) (ft : Reg) (fs : Reg) (fd : Reg) : encode (.nmadd_d fr ft fs fd) = packR 0b010011#6 fr ft fs fd 0b110001#6 := rfl
@[simp] theorem encode_nmsub_s (fr : Reg) (ft : Reg) (fs : Reg) (fd : Reg) : encode (.nmsub_s fr ft fs fd) = packR 0b010011#6 fr ft fs fd 0b111000#6 := rfl
@[simp] theorem encode_nmsub_d (fr : Reg) (ft : Reg) (fs : Reg) (fd : Reg) : encode (.nmsub_d fr ft fs fd) = packR 0b010011#6 fr ft fs fd 0b111001#6 := rfl
@[simp] theorem encode_lui (rt : Reg) (imm : BitVec 16) : encode (.lui rt imm) = packI 0b001111#6 0b00000#5 rt imm := rfl
@[simp] theorem encode_blez (rs : Reg) (imm : BitVec 16) : encode (.blez rs imm) = packI 0b000110#6 rs 0b00000#5 imm := rfl
@[simp] theorem encode_bgtz (rs : Reg) (imm : BitVec 16) : encode (.bgtz rs imm) = packI 0b000111#6 rs 0b00000#5 imm := rfl
@[simp] theorem encode_bltz (rs : Reg) (imm : BitVec 16) : encode (.bltz rs imm) = packI 0b000001#6 rs 0b00000#5 imm := rfl
@[simp] theorem encode_bgez (rs : Reg) (imm : BitVec 16) : encode (.bgez rs imm) = packI 0b000001#6 rs 0b00001#5 imm := rfl
@[simp] theorem encode_bltzal (rs : Reg) (imm : BitVec 16) : encode (.bltzal rs imm) = packI 0b000001#6 rs 0b10000#5 imm := rfl
@[simp] theorem encode_bgezal (rs : Reg) (imm : BitVec 16) : encode (.bgezal rs imm) = packI 0b000001#6 rs 0b10001#5 imm := rfl
@[simp] theorem encode_blezl (rs : Reg) (imm : BitVec 16) : encode (.blezl rs imm) = packI 0b010110#6 rs 0b00000#5 imm := rfl
@[simp] theorem encode_bgtzl (rs : Reg) (imm : BitVec 16) : encode (.bgtzl rs imm) = packI 0b010111#6 rs 0b00000#5 imm := rfl
@[simp] theorem encode_bltzl (rs : Reg) (imm : BitVec 16) : encode (.bltzl rs imm) = packI 0b000001#6 rs 0b00010#5 imm := rfl
@[simp] theorem encode_bgezl (rs : Reg) (imm : BitVec 16) : encode (.bgezl rs imm) = packI 0b000001#6 rs 0b00011#5 imm := rfl
@[simp] theorem encode_bltzall (rs : Reg) (imm : BitVec 16) : encode (.bltzall rs imm) = packI 0b000001#6 rs 0b10010#5 imm := rfl
@[simp] theorem encode_bgezall (rs : Reg) (imm : BitVec 16) : encode (.bgezall rs imm) = packI 0b000001#6 rs 0b10011#5 imm := rfl
@[simp] theorem encode_synci (base : Reg) (imm : BitVec 16) : encode (.synci base imm) = packI 0b000001#6 base 0b11111#5 imm := rfl
@[simp] theorem encode_tgei (rs : Reg) (imm : BitVec 16) : encode (.tgei rs imm) = packI 0b000001#6 rs 0b01000#5 imm := rfl
@[simp] theorem encode_tgeiu (rs : Reg) (imm : BitVec 16) : encode (.tgeiu rs imm) = packI 0b000001#6 rs 0b01001#5 imm := rfl
@[simp] theorem encode_tlti (rs : Reg) (imm : BitVec 16) : encode (.tlti rs imm) = packI 0b000001#6 rs 0b01010#5 imm := rfl
@[simp] theorem encode_tltiu (rs : Reg) (imm : BitVec 16) : encode (.tltiu rs imm) = packI 0b000001#6 rs 0b01011#5 imm := rfl
@[simp] theorem encode_teqi (rs : Reg) (imm : BitVec 16) : encode (.teqi rs imm) = packI 0b000001#6 rs 0b01100#5 imm := rfl
@[simp] theorem encode_tnei (rs : Reg) (imm : BitVec 16) : encode (.tnei rs imm) = packI 0b000001#6 rs 0b01110#5 imm := rfl
@[simp] theorem encode_mfc2 (rt : Reg) (impl : BitVec 16) : encode (.mfc2 rt impl) = packI 0b010010#6 0b00000#5 rt impl := rfl
@[simp] theorem encode_mtc2 (rt : Reg) (impl : BitVec 16) : encode (.mtc2 rt impl) = packI 0b010010#6 0b00100#5 rt impl := rfl
@[simp] theorem encode_mfhc2 (rt : Reg) (impl : BitVec 16) : encode (.mfhc2 rt impl) = packI 0b010010#6 0b00011#5 rt impl := rfl
@[simp] theorem encode_mthc2 (rt : Reg) (impl : BitVec 16) : encode (.mthc2 rt impl) = packI 0b010010#6 0b00111#5 rt impl := rfl
@[simp] theorem encode_udi (impl : BitVec 20) (impl2 : BitVec 4) : encode (.udi impl impl2) = packCode 0b011100#6 impl (0b01#2 ++ impl2) := rfl
@[simp] theorem encode_cop2 (impl : BitVec 25) : encode (.cop2 impl) = packJ 0b010010#6 (1#1 ++ impl) := rfl
@[simp] theorem encode_addi (rs : Reg) (rt : Reg) (imm : BitVec 16) : encode (.addi rs rt imm) = packI 0b001000#6 rs rt imm := rfl
@[simp] theorem encode_addiu (rs : Reg) (rt : Reg) (imm : BitVec 16) : encode (.addiu rs rt imm) = packI 0b001001#6 rs rt imm := rfl
@[simp] theorem encode_andi (rs : Reg) (rt : Reg) (imm : BitVec 16) : encode (.andi rs rt imm) = packI 0b001100#6 rs rt imm := rfl
@[simp] theorem encode_ori (rs : Reg) (rt : Reg) (imm : BitVec 16) : encode (.ori rs rt imm) = packI 0b001101#6 rs rt imm := rfl
@[simp] theorem encode_xori (rs : Reg) (rt : Reg) (imm : BitVec 16) : encode (.xori rs rt imm) = packI 0b001110#6 rs rt imm := rfl
@[simp] theorem encode_slti (rs : Reg) (rt : Reg) (imm : BitVec 16) : encode (.slti rs rt imm) = packI 0b001010#6 rs rt imm := rfl
@[simp] theorem encode_sltiu (rs : Reg) (rt : Reg) (imm : BitVec 16) : encode (.sltiu rs rt imm) = packI 0b001011#6 rs rt imm := rfl
@[simp] theorem encode_beq (rs : Reg) (rt : Reg) (imm : BitVec 16) : encode (.beq rs rt imm) = packI 0b000100#6 rs rt imm := rfl
@[simp] theorem encode_bne (rs : Reg) (rt : Reg) (imm : BitVec 16) : encode (.bne rs rt imm) = packI 0b000101#6 rs rt imm := rfl
@[simp] theorem encode_beql (rs : Reg) (rt : Reg) (imm : BitVec 16) : encode (.beql rs rt imm) = packI 0b010100#6 rs rt imm := rfl
@[simp] theorem encode_bnel (rs : Reg) (rt : Reg) (imm : BitVec 16) : encode (.bnel rs rt imm) = packI 0b010101#6 rs rt imm := rfl
@[simp] theorem encode_j (target : BitVec 26) : encode (.j target) = packJ 0b000010#6 target := rfl
@[simp] theorem encode_jal (target : BitVec 26) : encode (.jal target) = packJ 0b000011#6 target := rfl
@[simp] theorem encode_jalx (target : BitVec 26) : encode (.jalx target) = packJ 0b011101#6 target := rfl
@[simp] theorem encode_lb (base : Reg) (rt : Reg) (imm : BitVec 16) : encode (.lb base rt imm) = packI 0b100000#6 base rt imm := rfl
@[simp] theorem encode_lbu (base : Reg) (rt : Reg) (imm : BitVec 16) : encode (.lbu base rt imm) = packI 0b100100#6 base rt imm := rfl
@[simp] theorem encode_lh (base : Reg) (rt : Reg) (imm : BitVec 16) : encode (.lh base rt imm) = packI 0b100001#6 base rt imm := rfl
@[simp] theorem encode_lhu (base : Reg) (rt : Reg) (imm : BitVec 16) : encode (.lhu base rt imm) = packI 0b100101#6 base rt imm := rfl
@[simp] theorem encode_lw (base : Reg) (rt : Reg) (imm : BitVec 16) : encode (.lw base rt imm) = packI 0b100011#6 base rt imm := rfl
@[simp] theorem encode_lwl (base : Reg) (rt : Reg) (imm : BitVec 16) : encode (.lwl base rt imm) = packI 0b100010#6 base rt imm := rfl
@[simp] theorem encode_lwr (base : Reg) (rt : Reg) (imm : BitVec 16) : encode (.lwr base rt imm) = packI 0b100110#6 base rt imm := rfl
@[simp] theorem encode_sb (base : Reg) (rt : Reg) (imm : BitVec 16) : encode (.sb base rt imm) = packI 0b101000#6 base rt imm := rfl
@[simp] theorem encode_sh (base : Reg) (rt : Reg) (imm : BitVec 16) : encode (.sh base rt imm) = packI 0b101001#6 base rt imm := rfl
@[simp] theorem encode_sw (base : Reg) (rt : Reg) (imm : BitVec 16) : encode (.sw base rt imm) = packI 0b101011#6 base rt imm := rfl
@[simp] theorem encode_swl (base : Reg) (rt : Reg) (imm : BitVec 16) : encode (.swl base rt imm) = packI 0b101010#6 base rt imm := rfl
@[simp] theorem encode_swr (base : Reg) (rt : Reg) (imm : BitVec 16) : encode (.swr base rt imm) = packI 0b101110#6 base rt imm := rfl
@[simp] theorem encode_ll (base : Reg) (rt : Reg) (imm : BitVec 16) : encode (.ll base rt imm) = packI 0b110000#6 base rt imm := rfl
@[simp] theorem encode_sc (base : Reg) (rt : Reg) (imm : BitVec 16) : encode (.sc base rt imm) = packI 0b111000#6 base rt imm := rfl
@[simp] theorem encode_pref (base : Reg) (hint : Reg) (imm : BitVec 16) : encode (.pref base hint imm) = packI 0b110011#6 base hint imm := rfl
@[simp] theorem encode_cache (base : Reg) (op : Reg) (imm : BitVec 16) : encode (.cache base op imm) = packI 0b101111#6 base op imm := rfl
@[simp] theorem encode_lwc1 (base : Reg) (ft : Reg) (imm : BitVec 16) : encode (.lwc1 base ft imm) = packI 0b110001#6 base ft imm := rfl
@[simp] theorem encode_ldc1 (base : Reg) (ft : Reg) (imm : BitVec 16) : encode (.ldc1 base ft imm) = packI 0b110101#6 base ft imm := rfl
@[simp] theorem encode_swc1 (base : Reg) (ft : Reg) (imm : BitVec 16) : encode (.swc1 base ft imm) = packI 0b111001#6 base ft imm := rfl
@[simp] theorem encode_sdc1 (base : Reg) (ft : Reg) (imm : BitVec 16) : encode (.sdc1 base ft imm) = packI 0b111101#6 base ft imm := rfl
@[simp] theorem encode_lwc2 (base : Reg) (rt : Reg) (imm : BitVec 16) : encode (.lwc2 base rt imm) = packI 0b110010#6 base rt imm := rfl
@[simp] theorem encode_swc2 (base : Reg) (rt : Reg) (imm : BitVec 16) : encode (.swc2 base rt imm) = packI 0b111010#6 base rt imm := rfl
@[simp] theorem encode_ldc2 (base : Reg) (rt : Reg) (imm : BitVec 16) : encode (.ldc2 base rt imm) = packI 0b110110#6 base rt imm := rfl
@[simp] theorem encode_sdc2 (base : Reg) (rt : Reg) (imm : BitVec 16) : encode (.sdc2 base rt imm) = packI 0b111110#6 base rt imm := rfl

/-! Every format is canonical as built, but for the words of `wait` and of the register jumps -/

theorem canonicalWord_packR {op : BitVec 6} {rs rt rd sa : Reg} {fn : BitVec 6}
    (h : op ≠ 0b010000#6 ∧ op ≠ 0b000000#6) : canonicalWord (packR op rs rt rd sa fn) = packR op rs rt rd sa fn :=
  canonicalWord_of _ (.inl (by simpa using h.1)) (.inl (by simpa using h.2))

/-- SPECIAL, every function but the register jumps. -/
theorem canonicalWord_packR_special {op : BitVec 6} {rs rt rd sa : Reg} {fn : BitVec 6}
    (h : op ≠ 0b010000#6 ∧ fn ≠ 0b001000#6 ∧ fn ≠ 0b001001#6) :
    canonicalWord (packR op rs rt rd sa fn) = packR op rs rt rd sa fn :=
  canonicalWord_of _ (.inl (by simpa using h.1)) (.inr (by simpa using h.2))

theorem canonicalWord_packI {op : BitVec 6} {rs rt : Reg} {imm : BitVec 16} (h : op ≠ 0b010000#6 ∧ op ≠ 0b000000#6) :
    canonicalWord (packI op rs rt imm) = packI op rs rt imm :=
  canonicalWord_of _ (.inl (by simpa using h.1)) (.inl (by simpa using h.2))

theorem canonicalWord_packJ {op : BitVec 6} {target : BitVec 26} (h : op ≠ 0b010000#6 ∧ op ≠ 0b000000#6) :
    canonicalWord (packJ op target) = packJ op target :=
  canonicalWord_of _ (.inl (by simpa using h.1)) (.inl (by simpa using h.2))

theorem canonicalWord_packCode {op : BitVec 6} {code : BitVec 20} {fn : BitVec 6}
    (h : op ≠ 0b010000#6 ∧ fn ≠ 0b001000#6 ∧ fn ≠ 0b001001#6) :
    canonicalWord (packCode op code fn) = packCode op code fn :=
  canonicalWord_of _ (.inl (by simpa using h.1)) (.inr (by simpa using h.2))

theorem canonicalWord_packCode_other {op : BitVec 6} {code : BitVec 20} {fn : BitVec 6}
    (h : op ≠ 0b010000#6 ∧ op ≠ 0b000000#6) : canonicalWord (packCode op code fn) = packCode op code fn :=
  canonicalWord_of _ (.inl (by simpa using h.1)) (.inl (by simpa using h.2))

theorem canonicalWord_packTrap {op : BitVec 6} {rs rt : Reg} {code : BitVec 10} {fn : BitVec 6}
    (h : op ≠ 0b010000#6 ∧ fn ≠ 0b001000#6 ∧ fn ≠ 0b001001#6) :
    canonicalWord (packTrap op rs rt code fn) = packTrap op rs rt code fn :=
  canonicalWord_of _ (.inl (by simpa using h.1)) (.inr (by simpa using h.2))

theorem canonicalWord_packR_co {op : BitVec 6} {rs rt rd sa : Reg} {fn : BitVec 6} (h : rs.getLsbD 4 = false)
    (h2 : op ≠ 0b000000#6) : canonicalWord (packR op rs rt rd sa fn) = packR op rs rt rd sa fn :=
  canonicalWord_of _ (.inr (by rw [fieldRs_packR, h])) (.inl (by simpa using h2))

theorem append_and_append {m n : Nat} (x a : BitVec m) (y b : BitVec n) :
    (x ++ y) &&& (a ++ b) = (x &&& a) ++ (y &&& b) := by
  ext i hi
  simp only [BitVec.getElem_and, BitVec.getElem_append]
  split <;> simp

/-- A register jump as the encoder writes it. -/
theorem canonicalWord_packR_jump {op : BitVec 6} {rs rt rd sa : Reg} {fn : BitVec 6} (h : op ≠ 0b010000#6)
    (h2 : sa &&& 0b10000#5 = sa) : canonicalWord (packR op rs rt rd sa fn) = packR op rs rt rd sa fn := by
  have key : (op ++ rs ++ rt ++ rd ++ sa ++ fn) &&& (BitVec.allOnes 6 ++ BitVec.allOnes 5 ++ BitVec.allOnes 5
      ++ BitVec.allOnes 5 ++ 0b10000#5 ++ BitVec.allOnes 6) = op ++ rs ++ rt ++ rd ++ sa ++ fn := by
    simp only [append_and_append, BitVec.and_allOnes, h2]
  exact canonicalWord_of_hint _ (by simpa using h) key

end Sys2Proof
end

