-- ==== Sys2Proof/Laws/Fpu.lean ====
section
/-! SUPPORT. With tiny numbers flushed every floating point operation answers a result (R626, R627); what a write of an
FP register leaves in the others. -/

namespace Sys2Proof.Machine

/-- The operation answers a result, not Unimplemented. -/
def FpOut.isVal : FpOut → Prop
  | .val _ _ => True
  | .unimplemented => False

theorem flushTiny_some (f : FpFmt) (e : FpEnv) (p : Bool) (x : FpExact) (h : e.fs = true) : ∃ w, f.flushTiny e p x = some w := by
  unfold FpFmt.flushTiny
  split
  · simp only; repeat' split
    all_goals exact ⟨_, rfl⟩
  · simp [h]

theorem fit_val (f : FpFmt) (e : FpEnv) (x : FpExact) (r : FpRounded) (h : e.fs = true) : FpOut.isVal (f.fit e x r) := by
  unfold FpFmt.fit
  split
  · trivial
  · split
    · obtain ⟨w, hw⟩ := flushTiny_some f e false x h
      rw [hw]; trivial
    · trivial

theorem roundVal_val (f : FpFmt) (e : FpEnv) (s : Bool) (m : Nat) (x : Int) (h : e.fs = true) : FpOut.isVal (f.roundVal e s m x) := by
  unfold FpFmt.roundVal FpFmt.roundExact
  split
  · trivial
  · exact fit_val _ _ _ _ h

theorem addVal_val (f : FpFmt) (e : FpEnv) (a b : FpVal) (h : e.fs = true) : FpOut.isVal (f.addVal e a b) := by
  unfold FpFmt.addVal
  split
  · split <;> trivial
  · trivial
  · trivial
  · simp only; split
    · trivial
    · exact fit_val _ _ _ _ h
  · trivial

theorem operand_some (f : FpFmt) (e : FpEnv) (w : DWord) (h : e.fs = true) : ∃ v, f.operand e w = some v := by
  unfold FpFmt.operand
  simp only [h, Bool.true_or, if_true]
  split <;> exact ⟨_, rfl⟩

theorem nanResult_val (f : FpFmt) (e : FpEnv) (p : Bool) (ws : List DWord) (d : FpOut) (hd : FpOut.isVal d) : FpOut.isVal ((f.nanResult e p ws).getD d) := by
  unfold FpFmt.nanResult
  split
  · trivial
  · split
    · exact hd
    · trivial

theorem fpAdd_val (f : FpFmt) (n : Bool) (e : FpEnv) (a b : DWord) (h : e.fs = true) : FpOut.isVal (fpAdd f n e a b) := by
  unfold fpAdd
  obtain ⟨a', ha⟩ := operand_some f e a h
  obtain ⟨b', hb⟩ := operand_some f e b h
  rw [ha, hb]
  exact nanResult_val _ _ _ _ _ (addVal_val _ _ _ _ h)

theorem ofVal_val (f : FpFmt) (e : FpEnv) (v : FpVal) (h : e.fs = true) : FpOut.isVal (f.ofVal e v) := by
  cases v
  · trivial
  · trivial
  · exact roundVal_val _ _ _ _ _ h

theorem fpMul_val (f : FpFmt) (e : FpEnv) (a b : DWord) (h : e.fs = true) : FpOut.isVal (fpMul f e a b) := by
  unfold fpMul
  obtain ⟨a', ha⟩ := operand_some f e a h
  obtain ⟨b', hb⟩ := operand_some f e b h
  rw [ha, hb]
  refine nanResult_val _ _ _ _ _ ?_
  split
  · trivial
  · exact ofVal_val _ _ _ h

theorem fpDiv_val (f : FpFmt) (e : FpEnv) (a b : DWord) (h : e.fs = true) : FpOut.isVal (fpDiv f e a b) := by
  unfold fpDiv
  obtain ⟨a', ha⟩ := operand_some f e a h
  obtain ⟨b', hb⟩ := operand_some f e b h
  rw [ha, hb]
  refine nanResult_val _ _ _ _ _ ?_
  split
  · trivial
  · trivial
  · trivial
  · split
    · split <;> trivial
    · split
      · trivial
      · exact fit_val _ _ _ _ h
  · trivial

theorem fpSqrt_val (f : FpFmt) (e : FpEnv) (a : DWord) (h : e.fs = true) : FpOut.isVal (fpSqrt f e a) := by
  unfold fpSqrt
  obtain ⟨a', ha⟩ := operand_some f e a h
  rw [ha]
  refine nanResult_val _ _ _ _ _ ?_
  split
  · split <;> trivial
  · split
    · trivial
    · split
      · trivial
      · exact fit_val _ _ _ _ h
  · trivial

theorem approx_val (f : FpFmt) (e : FpEnv) (k : Nat) (x : FpExact) (h : e.fs = true) : FpOut.isVal (f.approx e k x) := by
  unfold FpFmt.approx
  exact fit_val _ _ _ _ h

theorem fpRecip_val (f : FpFmt) (e : FpEnv) (a : DWord) (h : e.fs = true) : FpOut.isVal (fpRecip f e a) := by
  unfold fpRecip
  obtain ⟨a', ha⟩ := operand_some f e a h
  rw [ha]
  refine nanResult_val _ _ _ _ _ ?_
  split
  · trivial
  · split
    · trivial
    · exact approx_val _ _ _ _ h
  · trivial

theorem fpRsqrt_val (f : FpFmt) (e : FpEnv) (a : DWord) (h : e.fs = true) : FpOut.isVal (fpRsqrt f e a) := by
  unfold fpRsqrt
  obtain ⟨a', ha⟩ := operand_some f e a h
  rw [ha]
  refine nanResult_val _ _ _ _ _ ?_
  split
  · split <;> trivial
  · split
    · trivial
    · split
      · trivial
      · exact approx_val _ _ _ _ h
  · trivial

theorem fpSign_val (f : FpFmt) (g : Bool → Bool) (a : DWord) : FpOut.isVal (fpSign f g a) := by
  unfold fpSign
  split
  · split <;> trivial
  · trivial

theorem also_val (c : FpFlags) (o : FpOut) (h : FpOut.isVal o) : FpOut.isVal (o.also c) := by
  cases o
  · trivial
  · exact h

theorem negated_val (f : FpFmt) (o : FpOut) (h : FpOut.isVal o) : FpOut.isVal (o.negated f) := by
  cases o
  · trivial
  · exact h

theorem fpMulAdd_val (f : FpFmt) (n : Bool) (e : FpEnv) (c a b : DWord) (h : e.fs = true) : FpOut.isVal (fpMulAdd f n e c a b) := by
  unfold fpMulAdd
  obtain ⟨a', ha⟩ := operand_some f e a h
  obtain ⟨b', hb⟩ := operand_some f e b h
  obtain ⟨c', hc⟩ := operand_some f e c h
  rw [ha, hb, hc]
  simp only
  split
  · split
    · trivial
    · exact nanResult_val _ _ _ _ _ trivial
  · rename_i hu
    unfold FpFmt.nanResult at hu
    split at hu
    · cases hu
    · split at hu <;> cases hu
  · split
    · trivial
    · exact also_val _ _ (nanResult_val _ _ _ _ _ (addVal_val _ _ _ _ h))

theorem fpToInt_val (a b : FpFmt) (m : FpEnv → BitVec 2) (e : FpEnv) (x : DWord) : FpOut.isVal (fpToInt a b m e x) := by
  unfold fpToInt
  split
  · simp only; split <;> trivial
  · trivial

theorem fpToFp_val (a b : FpFmt) (e : FpEnv) (x : DWord) (h : e.fs = true) : FpOut.isVal (fpToFp a b e x) := by
  unfold fpToFp
  split
  · split <;> trivial
  · trivial
  · exact roundVal_val _ _ _ _ _ h

theorem setFprLow_get (s : State) (r q : Reg) (v : Word) : (s.setFprLow r v).fpr.get q.toFin =
    if q = r then (s.fpr.get r.toFin).extractLsb' 32 32 ++ v else s.fpr.get q.toFin := by
  unfold State.setFprLow
  simp only [Vector.get_eq_getElem, Vector.getElem_set]
  by_cases h : q = r
  · subst h; simp
  · have : ¬ r.toNat = q.toNat := fun hh => h (BitVec.eq_of_toNat_eq hh.symm)
    simp [this, h]

theorem fpr_set_get (s : State) (r q : Reg) (v : DWord) : (s.fpr.set r.toNat v r.isLt).get q.toFin =
    if q = r then v else s.fpr.get q.toFin := by
  simp only [Vector.get_eq_getElem, Vector.getElem_set]
  by_cases h : q = r
  · subst h; simp
  · have : ¬ r.toNat = q.toNat := fun hh => h (BitVec.eq_of_toNat_eq hh.symm)
    simp [this, h]

end Sys2Proof.Machine
end

