-- ==== Sys2Proof/Laws/PerInstr.lean ====
section
/-! SUPPORT. Families of lemmas with one lemma per constructor of `Instr`: every encoded word is its own canonical word
(log 43). -/

namespace Sys2Proof.Laws.Canonical

/-- The encoder writes canonical words: the hint codes of `wait` and of the register jumps are 0 (R577, R310; logs 43,
49). -/
def Statement (i : Instr) : Prop := canonicalWord (encode i) = encode i

theorem eret : Statement .eret := show canonicalWord _ = _ by decide
theorem deret : Statement .deret := show canonicalWord _ = _ by decide
theorem tlbr : Statement .tlbr := show canonicalWord _ = _ by decide
theorem tlbwi : Statement .tlbwi := show canonicalWord _ = _ by decide
theorem tlbwr : Statement .tlbwr := show canonicalWord _ = _ by decide
theorem tlbp : Statement .tlbp := show canonicalWord _ = _ by decide
theorem nop : Statement .nop := canonicalWord_packR_special (by decide)
theorem ssnop : Statement .ssnop := canonicalWord_packR_special (by decide)
theorem ehb : Statement .ehb := canonicalWord_packR_special (by decide)
theorem mfhi (rd : Reg) : Statement (.mfhi rd) := canonicalWord_packR_special (by decide)
theorem mflo (rd : Reg) : Statement (.mflo rd) := canonicalWord_packR_special (by decide)
theorem mthi (rs : Reg) : Statement (.mthi rs) := canonicalWord_packR_special (by decide)
theorem mtlo (rs : Reg) : Statement (.mtlo rs) := canonicalWord_packR_special (by decide)
theorem jr (rs : Reg) : Statement (.jr rs) := canonicalWord_packR_jump (by decide) (by decide)
theorem jr_hb (rs : Reg) : Statement (.jr_hb rs) := canonicalWord_packR_jump (by decide) (by decide)
theorem sync (stype : Reg) : Statement (.sync stype) := canonicalWord_packR_special (by decide)
theorem di (rt : Reg) : Statement (.di rt) := canonicalWord_packR_co (by decide) (by decide)
theorem ei (rt : Reg) : Statement (.ei rt) := canonicalWord_packR_co (by decide) (by decide)
theorem seb (rt : Reg) (rd : Reg) : Statement (.seb rt rd) := canonicalWord_packR (by decide)
theorem seh (rt : Reg) (rd : Reg) : Statement (.seh rt rd) := canonicalWord_packR (by decide)
theorem wsbh (rt : Reg) (rd : Reg) : Statement (.wsbh rt rd) := canonicalWord_packR (by decide)
theorem mult (rs : Reg) (rt : Reg) : Statement (.mult rs rt) := canonicalWord_packR_special (by decide)
theorem multu (rs : Reg) (rt : Reg) : Statement (.multu rs rt) := canonicalWord_packR_special (by decide)
theorem madd (rs : Reg) (rt : Reg) : Statement (.madd rs rt) := canonicalWord_packR (by decide)
theorem maddu (rs : Reg) (rt : Reg) : Statement (.maddu rs rt) := canonicalWord_packR (by decide)
theorem msub (rs : Reg) (rt : Reg) : Statement (.msub rs rt) := canonicalWord_packR (by decide)
theorem msubu (rs : Reg) (rt : Reg) : Statement (.msubu rs rt) := canonicalWord_packR (by decide)
theorem div (rs : Reg) (rt : Reg) : Statement (.div rs rt) := canonicalWord_packR_special (by decide)
theorem divu (rs : Reg) (rt : Reg) : Statement (.divu rs rt) := canonicalWord_packR_special (by decide)
theorem jalr (rs : Reg) (rd : Reg) : Statement (.jalr rs rd) := canonicalWord_packR_jump (by decide) (by decide)
theorem jalr_hb (rs : Reg) (rd : Reg) : Statement (.jalr_hb rs rd) := canonicalWord_packR_jump (by decide) (by decide)
theorem rdpgpr (rt : Reg) (rd : Reg) : Statement (.rdpgpr rt rd) := canonicalWord_packR_co (by decide) (by decide)
theorem wrpgpr (rt : Reg) (rd : Reg) : Statement (.wrpgpr rt rd) := canonicalWord_packR_co (by decide) (by decide)
theorem rdhwr (rt : Reg) (rd : Reg) : Statement (.rdhwr rt rd) := canonicalWord_packR (by decide)
theorem mfc1 (rt : Reg) (fs : Reg) : Statement (.mfc1 rt fs) := canonicalWord_packR (by decide)
theorem mtc1 (rt : Reg) (fs : Reg) : Statement (.mtc1 rt fs) := canonicalWord_packR (by decide)
theorem mfhc1 (rt : Reg) (fs : Reg) : Statement (.mfhc1 rt fs) := canonicalWord_packR (by decide)
theorem mthc1 (rt : Reg) (fs : Reg) : Statement (.mthc1 rt fs) := canonicalWord_packR (by decide)
theorem cfc1 (rt : Reg) (fs : Reg) : Statement (.cfc1 rt fs) := canonicalWord_packR (by decide)
theorem ctc1 (rt : Reg) (fs : Reg) : Statement (.ctc1 rt fs) := canonicalWord_packR (by decide)
theorem sqrt_s (fs : Reg) (fd : Reg) : Statement (.sqrt_s fs fd) := canonicalWord_packR (by decide)
theorem sqrt_d (fs : Reg) (fd : Reg) : Statement (.sqrt_d fs fd) := canonicalWord_packR (by decide)
theorem abs_s (fs : Reg) (fd : Reg) : Statement (.abs_s fs fd) := canonicalWord_packR (by decide)
theorem abs_d (fs : Reg) (fd : Reg) : Statement (.abs_d fs fd) := canonicalWord_packR (by decide)
theorem neg_s (fs : Reg) (fd : Reg) : Statement (.neg_s fs fd) := canonicalWord_packR (by decide)
theorem neg_d (fs : Reg) (fd : Reg) : Statement (.neg_d fs fd) := canonicalWord_packR (by decide)
theorem mov_s (fs : Reg) (fd : Reg) : Statement (.mov_s fs fd) := canonicalWord_packR (by decide)
theorem mov_d (fs : Reg) (fd : Reg) : Statement (.mov_d fs fd) := canonicalWord_packR (by decide)
theorem recip_s (fs : Reg) (fd : Reg) : Statement (.recip_s fs fd) := canonicalWord_packR (by decide)
theorem recip_d (fs : Reg) (fd : Reg) : Statement (.recip_d fs fd) := canonicalWord_packR (by decide)
theorem rsqrt_s (fs : Reg) (fd : Reg) : Statement (.rsqrt_s fs fd) := canonicalWord_packR (by decide)
theorem rsqrt_d (fs : Reg) (fd : Reg) : Statement (.rsqrt_d fs fd) := canonicalWord_packR (by decide)
theorem round_w_s (fs : Reg) (fd : Reg) : Statement (.round_w_s fs fd) := canonicalWord_packR (by decide)
theorem round_w_d (fs : Reg) (fd : Reg) : Statement (.round_w_d fs fd) := canonicalWord_packR (by decide)
theorem trunc_w_s (fs : Reg) (fd : Reg) : Statement (.trunc_w_s fs fd) := canonicalWord_packR (by decide)
theorem trunc_w_d (fs : Reg) (fd : Reg) : Statement (.trunc_w_d fs fd) := canonicalWord_packR (by decide)
theorem ceil_w_s (fs : Reg) (fd : Reg) : Statement (.ceil_w_s fs fd) := canonicalWord_packR (by decide)
theorem ceil_w_d (fs : Reg) (fd : Reg) : Statement (.ceil_w_d fs fd) := canonicalWord_packR (by decide)
theorem floor_w_s (fs : Reg) (fd : Reg) : Statement (.floor_w_s fs fd) := canonicalWord_packR (by decide)
theorem floor_w_d (fs : Reg) (fd : Reg) : Statement (.floor_w_d fs fd) := canonicalWord_packR (by decide)
theorem round_l_s (fs : Reg) (fd : Reg) : Statement (.round_l_s fs fd) := canonicalWord_packR (by decide)
theorem round_l_d (fs : Reg) (fd : Reg) : Statement (.round_l_d fs fd) := canonicalWord_packR (by decide)
theorem trunc_l_s (fs : Reg) (fd : Reg) : Statement (.trunc_l_s fs fd) := canonicalWord_packR (by decide)
theorem trunc_l_d (fs : Reg) (fd : Reg) : Statement (.trunc_l_d fs fd) := canonicalWord_packR (by decide)
theorem ceil_l_s (fs : Reg) (fd : Reg) : Statement (.ceil_l_s fs fd) := canonicalWord_packR (by decide)
theorem ceil_l_d (fs : Reg) (fd : Reg) : Statement (.ceil_l_d fs fd) := canonicalWord_packR (by decide)
theorem floor_l_s (fs : Reg) (fd : Reg) : Statement (.floor_l_s fs fd) := canonicalWord_packR (by decide)
theorem floor_l_d (fs : Reg) (fd : Reg) : Statement (.floor_l_d fs fd) := canonicalWord_packR (by decide)
theorem cvt_s_d (fs : Reg) (fd : Reg) : Statement (.cvt_s_d fs fd) := canonicalWord_packR (by decide)
theorem cvt_s_w (fs : Reg) (fd : Reg) : Statement (.cvt_s_w fs fd) := canonicalWord_packR (by decide)
theorem cvt_s_l (fs : Reg) (fd : Reg) : Statement (.cvt_s_l fs fd) := canonicalWord_packR (by decide)
theorem cvt_d_s (fs : Reg) (fd : Reg) : Statement (.cvt_d_s fs fd) := canonicalWord_packR (by decide)
theorem cvt_d_w (fs : Reg) (fd : Reg) : Statement (.cvt_d_w fs fd) := canonicalWord_packR (by decide)
theorem cvt_d_l (fs : Reg) (fd : Reg) : Statement (.cvt_d_l fs fd) := canonicalWord_packR (by decide)
theorem cvt_w_s (fs : Reg) (fd : Reg) : Statement (.cvt_w_s fs fd) := canonicalWord_packR (by decide)
theorem cvt_w_d (fs : Reg) (fd : Reg) : Statement (.cvt_w_d fs fd) := canonicalWord_packR (by decide)
theorem cvt_l_s (fs : Reg) (fd : Reg) : Statement (.cvt_l_s fs fd) := canonicalWord_packR (by decide)
theorem cvt_l_d (fs : Reg) (fd : Reg) : Statement (.cvt_l_d fs fd) := canonicalWord_packR (by decide)
theorem cfc2 (rt : Reg) (rd : Reg) : Statement (.cfc2 rt rd) := canonicalWord_packR (by decide)
theorem ctc2 (rt : Reg) (rd : Reg) : Statement (.ctc2 rt rd) := canonicalWord_packR (by decide)
theorem movf (rs : Reg) (cc : BitVec 3) (rd : Reg) : Statement (.movf rs cc rd) := canonicalWord_packR_special (by decide)
theorem movt (rs : Reg) (cc : BitVec 3) (rd : Reg) : Statement (.movt rs cc rd) := canonicalWord_packR_special (by decide)
theorem mfc0 (rt : Reg) (rd : Reg) (sel : BitVec 3) : Statement (.mfc0 rt rd sel) := canonicalWord_packR_co (by decide) (by decide)
theorem mtc0 (rt : Reg) (rd : Reg) (sel : BitVec 3) : Statement (.mtc0 rt rd sel) := canonicalWord_packR_co (by decide) (by decide)
theorem c_f_s (ft : Reg) (fs : Reg) (cc : BitVec 3) : Statement (.c_f_s ft fs cc) := canonicalWord_packR (by decide)
theorem c_un_s (ft : Reg) (fs : Reg) (cc : BitVec 3) : Statement (.c_un_s ft fs cc) := canonicalWord_packR (by decide)
theorem c_eq_s (ft : Reg) (fs : Reg) (cc : BitVec 3) : Statement (.c_eq_s ft fs cc) := canonicalWord_packR (by decide)
theorem c_ueq_s (ft : Reg) (fs : Reg) (cc : BitVec 3) : Statement (.c_ueq_s ft fs cc) := canonicalWord_packR (by decide)
theorem c_olt_s (ft : Reg) (fs : Reg) (cc : BitVec 3) : Statement (.c_olt_s ft fs cc) := canonicalWord_packR (by decide)
theorem c_ult_s (ft : Reg) (fs : Reg) (cc : BitVec 3) : Statement (.c_ult_s ft fs cc) := canonicalWord_packR (by decide)
theorem c_ole_s (ft : Reg) (fs : Reg) (cc : BitVec 3) : Statement (.c_ole_s ft fs cc) := canonicalWord_packR (by decide)
theorem c_ule_s (ft : Reg) (fs : Reg) (cc : BitVec 3) : Statement (.c_ule_s ft fs cc) := canonicalWord_packR (by decide)
theorem c_sf_s (ft : Reg) (fs : Reg) (cc : BitVec 3) : Statement (.c_sf_s ft fs cc) := canonicalWord_packR (by decide)
theorem c_ngle_s (ft : Reg) (fs : Reg) (cc : BitVec 3) : Statement (.c_ngle_s ft fs cc) := canonicalWord_packR (by decide)
theorem c_seq_s (ft : Reg) (fs : Reg) (cc : BitVec 3) : Statement (.c_seq_s ft fs cc) := canonicalWord_packR (by decide)
theorem c_ngl_s (ft : Reg) (fs : Reg) (cc : BitVec 3) : Statement (.c_ngl_s ft fs cc) := canonicalWord_packR (by decide)
theorem c_lt_s (ft : Reg) (fs : Reg) (cc : BitVec 3) : Statement (.c_lt_s ft fs cc) := canonicalWord_packR (by decide)
theorem c_nge_s (ft : Reg) (fs : Reg) (cc : BitVec 3) : Statement (.c_nge_s ft fs cc) := canonicalWord_packR (by decide)
theorem c_le_s (ft : Reg) (fs : Reg) (cc : BitVec 3) : Statement (.c_le_s ft fs cc) := canonicalWord_packR (by decide)
theorem c_ngt_s (ft : Reg) (fs : Reg) (cc : BitVec 3) : Statement (.c_ngt_s ft fs cc) := canonicalWord_packR (by decide)
theorem c_f_d (ft : Reg) (fs : Reg) (cc : BitVec 3) : Statement (.c_f_d ft fs cc) := canonicalWord_packR (by decide)
theorem c_un_d (ft : Reg) (fs : Reg) (cc : BitVec 3) : Statement (.c_un_d ft fs cc) := canonicalWord_packR (by decide)
theorem c_eq_d (ft : Reg) (fs : Reg) (cc : BitVec 3) : Statement (.c_eq_d ft fs cc) := canonicalWord_packR (by decide)
theorem c_ueq_d (ft : Reg) (fs : Reg) (cc : BitVec 3) : Statement (.c_ueq_d ft fs cc) := canonicalWord_packR (by decide)
theorem c_olt_d (ft : Reg) (fs : Reg) (cc : BitVec 3) : Statement (.c_olt_d ft fs cc) := canonicalWord_packR (by decide)
theorem c_ult_d (ft : Reg) (fs : Reg) (cc : BitVec 3) : Statement (.c_ult_d ft fs cc) := canonicalWord_packR (by decide)
theorem c_ole_d (ft : Reg) (fs : Reg) (cc : BitVec 3) : Statement (.c_ole_d ft fs cc) := canonicalWord_packR (by decide)
theorem c_ule_d (ft : Reg) (fs : Reg) (cc : BitVec 3) : Statement (.c_ule_d ft fs cc) := canonicalWord_packR (by decide)
theorem c_sf_d (ft : Reg) (fs : Reg) (cc : BitVec 3) : Statement (.c_sf_d ft fs cc) := canonicalWord_packR (by decide)
theorem c_ngle_d (ft : Reg) (fs : Reg) (cc : BitVec 3) : Statement (.c_ngle_d ft fs cc) := canonicalWord_packR (by decide)
theorem c_seq_d (ft : Reg) (fs : Reg) (cc : BitVec 3) : Statement (.c_seq_d ft fs cc) := canonicalWord_packR (by decide)
theorem c_ngl_d (ft : Reg) (fs : Reg) (cc : BitVec 3) : Statement (.c_ngl_d ft fs cc) := canonicalWord_packR (by decide)
theorem c_lt_d (ft : Reg) (fs : Reg) (cc : BitVec 3) : Statement (.c_lt_d ft fs cc) := canonicalWord_packR (by decide)
theorem c_nge_d (ft : Reg) (fs : Reg) (cc : BitVec 3) : Statement (.c_nge_d ft fs cc) := canonicalWord_packR (by decide)
theorem c_le_d (ft : Reg) (fs : Reg) (cc : BitVec 3) : Statement (.c_le_d ft fs cc) := canonicalWord_packR (by decide)
theorem c_ngt_d (ft : Reg) (fs : Reg) (cc : BitVec 3) : Statement (.c_ngt_d ft fs cc) := canonicalWord_packR (by decide)
theorem movf_s (cc : BitVec 3) (fs : Reg) (fd : Reg) : Statement (.movf_s cc fs fd) := canonicalWord_packR (by decide)
theorem movt_s (cc : BitVec 3) (fs : Reg) (fd : Reg) : Statement (.movt_s cc fs fd) := canonicalWord_packR (by decide)
theorem movf_d (cc : BitVec 3) (fs : Reg) (fd : Reg) : Statement (.movf_d cc fs fd) := canonicalWord_packR (by decide)
theorem movt_d (cc : BitVec 3) (fs : Reg) (fd : Reg) : Statement (.movt_d cc fs fd) := canonicalWord_packR (by decide)
theorem add (rs : Reg) (rt : Reg) (rd : Reg) : Statement (.add rs rt rd) := canonicalWord_packR_special (by decide)
theorem addu (rs : Reg) (rt : Reg) (rd : Reg) : Statement (.addu rs rt rd) := canonicalWord_packR_special (by decide)
theorem sub (rs : Reg) (rt : Reg) (rd : Reg) : Statement (.sub rs rt rd) := canonicalWord_packR_special (by decide)
theorem subu (rs : Reg) (rt : Reg) (rd : Reg) : Statement (.subu rs rt rd) := canonicalWord_packR_special (by decide)
theorem and (rs : Reg) (rt : Reg) (rd : Reg) : Statement (.and rs rt rd) := canonicalWord_packR_special (by decide)
theorem or (rs : Reg) (rt : Reg) (rd : Reg) : Statement (.or rs rt rd) := canonicalWord_packR_special (by decide)
theorem xor (rs : Reg) (rt : Reg) (rd : Reg) : Statement (.xor rs rt rd) := canonicalWord_packR_special (by decide)
theorem nor (rs : Reg) (rt : Reg) (rd : Reg) : Statement (.nor rs rt rd) := canonicalWord_packR_special (by decide)
theorem slt (rs : Reg) (rt : Reg) (rd : Reg) : Statement (.slt rs rt rd) := canonicalWord_packR_special (by decide)
theorem sltu (rs : Reg) (rt : Reg) (rd : Reg) : Statement (.sltu rs rt rd) := canonicalWord_packR_special (by decide)
theorem sll (rt : Reg) (rd : Reg) (sa : Reg) : Statement (.sll rt rd sa) := canonicalWord_packR_special (by decide)
theorem srl (rt : Reg) (rd : Reg) (sa : Reg) : Statement (.srl rt rd sa) := canonicalWord_packR_special (by decide)
theorem sra (rt : Reg) (rd : Reg) (sa : Reg) : Statement (.sra rt rd sa) := canonicalWord_packR_special (by decide)
theorem sllv (rs : Reg) (rt : Reg) (rd : Reg) : Statement (.sllv rs rt rd) := canonicalWord_packR_special (by decide)
theorem srlv (rs : Reg) (rt : Reg) (rd : Reg) : Statement (.srlv rs rt rd) := canonicalWord_packR_special (by decide)
theorem srav (rs : Reg) (rt : Reg) (rd : Reg) : Statement (.srav rs rt rd) := canonicalWord_packR_special (by decide)
theorem rotr (rt : Reg) (rd : Reg) (sa : Reg) : Statement (.rotr rt rd sa) := canonicalWord_packR_special (by decide)
theorem rotrv (rs : Reg) (rt : Reg) (rd : Reg) : Statement (.rotrv rs rt rd) := canonicalWord_packR_special (by decide)
theorem movz (rs : Reg) (rt : Reg) (rd : Reg) : Statement (.movz rs rt rd) := canonicalWord_packR_special (by decide)
theorem movn (rs : Reg) (rt : Reg) (rd : Reg) : Statement (.movn rs rt rd) := canonicalWord_packR_special (by decide)
theorem clz (rs : Reg) (rt : Reg) (rd : Reg) : Statement (.clz rs rt rd) := canonicalWord_packR (by decide)
theorem clo (rs : Reg) (rt : Reg) (rd : Reg) : Statement (.clo rs rt rd) := canonicalWord_packR (by decide)
theorem mul (rs : Reg) (rt : Reg) (rd : Reg) : Statement (.mul rs rt rd) := canonicalWord_packR (by decide)
theorem lwxc1 (base : Reg) (index : Reg) (fd : Reg) : Statement (.lwxc1 base index fd) := canonicalWord_packR (by decide)
theorem ldxc1 (base : Reg) (index : Reg) (fd : Reg) : Statement (.ldxc1 base index fd) := canonicalWord_packR (by decide)
theorem luxc1 (base : Reg) (index : Reg) (fd : Reg) : Statement (.luxc1 base index fd) := canonicalWord_packR (by decide)
theorem swxc1 (base : Reg) (index : Reg) (fs : Reg) : Statement (.swxc1 base index fs) := canonicalWord_packR (by decide)
theorem sdxc1 (base : Reg) (index : Reg) (fs : Reg) : Statement (.sdxc1 base index fs) := canonicalWord_packR (by decide)
theorem suxc1 (base : Reg) (index : Reg) (fs : Reg) : Statement (.suxc1 base index fs) := canonicalWord_packR (by decide)
theorem prefx (base : Reg) (index : Reg) (hint : Reg) : Statement (.prefx base index hint) := canonicalWord_packR (by decide)
theorem add_s (ft : Reg) (fs : Reg) (fd : Reg) : Statement (.add_s ft fs fd) := canonicalWord_packR (by decide)
theorem add_d (ft : Reg) (fs : Reg) (fd : Reg) : Statement (.add_d ft fs fd) := canonicalWord_packR (by decide)
theorem sub_s (ft : Reg) (fs : Reg) (fd : Reg) : Statement (.sub_s ft fs fd) := canonicalWord_packR (by decide)
theorem sub_d (ft : Reg) (fs : Reg) (fd : Reg) : Statement (.sub_d ft fs fd) := canonicalWord_packR (by decide)
theorem mul_s (ft : Reg) (fs : Reg) (fd : Reg) : Statement (.mul_s ft fs fd) := canonicalWord_packR (by decide)
theorem mul_d (ft : Reg) (fs : Reg) (fd : Reg) : Statement (.mul_d ft fs fd) := canonicalWord_packR (by decide)
theorem div_s (ft : Reg) (fs : Reg) (fd : Reg) : Statement (.div_s ft fs fd) := canonicalWord_packR (by decide)
theorem div_d (ft : Reg) (fs : Reg) (fd : Reg) : Statement (.div_d ft fs fd) := canonicalWord_packR (by decide)
theorem movz_s (rt : Reg) (fs : Reg) (fd : Reg) : Statement (.movz_s rt fs fd) := canonicalWord_packR (by decide)
theorem movz_d (rt : Reg) (fs : Reg) (fd : Reg) : Statement (.movz_d rt fs fd) := canonicalWord_packR (by decide)
theorem movn_s (rt : Reg) (fs : Reg) (fd : Reg) : Statement (.movn_s rt fs fd) := canonicalWord_packR (by decide)
theorem movn_d (rt : Reg) (fs : Reg) (fd : Reg) : Statement (.movn_d rt fs fd) := canonicalWord_packR (by decide)
theorem wait : Statement .wait := show canonicalWord _ = _ by decide
theorem bc1f (cc : BitVec 3) (imm : BitVec 16) : Statement (.bc1f cc imm) := canonicalWord_packI (by decide)
theorem bc1t (cc : BitVec 3) (imm : BitVec 16) : Statement (.bc1t cc imm) := canonicalWord_packI (by decide)
theorem bc1fl (cc : BitVec 3) (imm : BitVec 16) : Statement (.bc1fl cc imm) := canonicalWord_packI (by decide)
theorem bc1tl (cc : BitVec 3) (imm : BitVec 16) : Statement (.bc1tl cc imm) := canonicalWord_packI (by decide)
theorem bc2f (cc : BitVec 3) (imm : BitVec 16) : Statement (.bc2f cc imm) := canonicalWord_packI (by decide)
theorem bc2t (cc : BitVec 3) (imm : BitVec 16) : Statement (.bc2t cc imm) := canonicalWord_packI (by decide)
theorem bc2fl (cc : BitVec 3) (imm : BitVec 16) : Statement (.bc2fl cc imm) := canonicalWord_packI (by decide)
theorem bc2tl (cc : BitVec 3) (imm : BitVec 16) : Statement (.bc2tl cc imm) := canonicalWord_packI (by decide)
theorem ext (rs : Reg) (rt : Reg) (msb : Reg) (lsb : Reg) : Statement (.ext rs rt msb lsb) := canonicalWord_packR (by decide)
theorem ins (rs : Reg) (rt : Reg) (msb : Reg) (lsb : Reg) : Statement (.ins rs rt msb lsb) := canonicalWord_packR (by decide)
theorem syscall (code : BitVec 20) : Statement (.syscall code) := canonicalWord_packCode (by decide)
theorem break_ (code : BitVec 20) : Statement (.break_ code) := canonicalWord_packCode (by decide)
theorem sdbbp (code : BitVec 20) : Statement (.sdbbp code) := canonicalWord_packCode (by decide)
theorem tge (rs : Reg) (rt : Reg) (code : BitVec 10) : Statement (.tge rs rt code) := canonicalWord_packTrap (by decide)
theorem tgeu (rs : Reg) (rt : Reg) (code : BitVec 10) : Statement (.tgeu rs rt code) := canonicalWord_packTrap (by decide)
theorem tlt (rs : Reg) (rt : Reg) (code : BitVec 10) : Statement (.tlt rs rt code) := canonicalWord_packTrap (by decide)
theorem tltu (rs : Reg) (rt : Reg) (code : BitVec 10) : Statement (.tltu rs rt code) := canonicalWord_packTrap (by decide)
theorem teq (rs : Reg) (rt : Reg) (code : BitVec 10) : Statement (.teq rs rt code) := canonicalWord_packTrap (by decide)
theorem tne (rs : Reg) (rt : Reg) (code : BitVec 10) : Statement (.tne rs rt code) := canonicalWord_packTrap (by decide)
theorem madd_s (fr : Reg) (ft : Reg) (fs : Reg) (fd : Reg) : Statement (.madd_s fr ft fs fd) := canonicalWord_packR (by decide)
theorem madd_d (fr : Reg) (ft : Reg) (fs : Reg) (fd : Reg) : Statement (.madd_d fr ft fs fd) := canonicalWord_packR (by decide)
theorem msub_s (fr : Reg) (ft : Reg) (fs : Reg) (fd : Reg) : Statement (.msub_s fr ft fs fd) := canonicalWord_packR (by decide)
theorem msub_d (fr : Reg) (ft : Reg) (fs : Reg) (fd : Reg) : Statement (.msub_d fr ft fs fd) := canonicalWord_packR (by decide)
theorem nmadd_s (fr : Reg) (ft : Reg) (fs : Reg) (fd : Reg) : Statement (.nmadd_s fr ft fs fd) := canonicalWord_packR (by decide)
theorem nmadd_d (fr : Reg) (ft : Reg) (fs : Reg) (fd : Reg) : Statement (.nmadd_d fr ft fs fd) := canonicalWord_packR (by decide)
theorem nmsub_s (fr : Reg) (ft : Reg) (fs : Reg) (fd : Reg) : Statement (.nmsub_s fr ft fs fd) := canonicalWord_packR (by decide)
theorem nmsub_d (fr : Reg) (ft : Reg) (fs : Reg) (fd : Reg) : Statement (.nmsub_d fr ft fs fd) := canonicalWord_packR (by decide)
theorem lui (rt : Reg) (imm : BitVec 16) : Statement (.lui rt imm) := canonicalWord_packI (by decide)
theorem blez (rs : Reg) (imm : BitVec 16) : Statement (.blez rs imm) := canonicalWord_packI (by decide)
theorem bgtz (rs : Reg) (imm : BitVec 16) : Statement (.bgtz rs imm) := canonicalWord_packI (by decide)
theorem bltz (rs : Reg) (imm : BitVec 16) : Statement (.bltz rs imm) := canonicalWord_packI (by decide)
theorem bgez (rs : Reg) (imm : BitVec 16) : Statement (.bgez rs imm) := canonicalWord_packI (by decide)
theorem bltzal (rs : Reg) (imm : BitVec 16) : Statement (.bltzal rs imm) := canonicalWord_packI (by decide)
theorem bgezal (rs : Reg) (imm : BitVec 16) : Statement (.bgezal rs imm) := canonicalWord_packI (by decide)
theorem blezl (rs : Reg) (imm : BitVec 16) : Statement (.blezl rs imm) := canonicalWord_packI (by decide)
theorem bgtzl (rs : Reg) (imm : BitVec 16) : Statement (.bgtzl rs imm) := canonicalWord_packI (by decide)
theorem bltzl (rs : Reg) (imm : BitVec 16) : Statement (.bltzl rs imm) := canonicalWord_packI (by decide)
theorem bgezl (rs : Reg) (imm : BitVec 16) : Statement (.bgezl rs imm) := canonicalWord_packI (by decide)
theorem bltzall (rs : Reg) (imm : BitVec 16) : Statement (.bltzall rs imm) := canonicalWord_packI (by decide)
theorem bgezall (rs : Reg) (imm : BitVec 16) : Statement (.bgezall rs imm) := canonicalWord_packI (by decide)
theorem synci (base : Reg) (imm : BitVec 16) : Statement (.synci base imm) := canonicalWord_packI (by decide)
theorem tgei (rs : Reg) (imm : BitVec 16) : Statement (.tgei rs imm) := canonicalWord_packI (by decide)
theorem tgeiu (rs : Reg) (imm : BitVec 16) : Statement (.tgeiu rs imm) := canonicalWord_packI (by decide)
theorem tlti (rs : Reg) (imm : BitVec 16) : Statement (.tlti rs imm) := canonicalWord_packI (by decide)
theorem tltiu (rs : Reg) (imm : BitVec 16) : Statement (.tltiu rs imm) := canonicalWord_packI (by decide)
theorem teqi (rs : Reg) (imm : BitVec 16) : Statement (.teqi rs imm) := canonicalWord_packI (by decide)
theorem tnei (rs : Reg) (imm : BitVec 16) : Statement (.tnei rs imm) := canonicalWord_packI (by decide)
theorem mfc2 (rt : Reg) (impl : BitVec 16) : Statement (.mfc2 rt impl) := canonicalWord_packI (by decide)
theorem mtc2 (rt : Reg) (impl : BitVec 16) : Statement (.mtc2 rt impl) := canonicalWord_packI (by decide)
theorem mfhc2 (rt : Reg) (impl : BitVec 16) : Statement (.mfhc2 rt impl) := canonicalWord_packI (by decide)
theorem mthc2 (rt : Reg) (impl : BitVec 16) : Statement (.mthc2 rt impl) := canonicalWord_packI (by decide)
theorem udi (impl : BitVec 20) (impl2 : BitVec 4) : Statement (.udi impl impl2) := canonicalWord_packCode_other (by decide)
theorem cop2 (impl : BitVec 25) : Statement (.cop2 impl) := canonicalWord_packJ (by decide)
theorem addi (rs : Reg) (rt : Reg) (imm : BitVec 16) : Statement (.addi rs rt imm) := canonicalWord_packI (by decide)
theorem addiu (rs : Reg) (rt : Reg) (imm : BitVec 16) : Statement (.addiu rs rt imm) := canonicalWord_packI (by decide)
theorem andi (rs : Reg) (rt : Reg) (imm : BitVec 16) : Statement (.andi rs rt imm) := canonicalWord_packI (by decide)
theorem ori (rs : Reg) (rt : Reg) (imm : BitVec 16) : Statement (.ori rs rt imm) := canonicalWord_packI (by decide)
theorem xori (rs : Reg) (rt : Reg) (imm : BitVec 16) : Statement (.xori rs rt imm) := canonicalWord_packI (by decide)
theorem slti (rs : Reg) (rt : Reg) (imm : BitVec 16) : Statement (.slti rs rt imm) := canonicalWord_packI (by decide)
theorem sltiu (rs : Reg) (rt : Reg) (imm : BitVec 16) : Statement (.sltiu rs rt imm) := canonicalWord_packI (by decide)
theorem beq (rs : Reg) (rt : Reg) (imm : BitVec 16) : Statement (.beq rs rt imm) := canonicalWord_packI (by decide)
theorem bne (rs : Reg) (rt : Reg) (imm : BitVec 16) : Statement (.bne rs rt imm) := canonicalWord_packI (by decide)
theorem beql (rs : Reg) (rt : Reg) (imm : BitVec 16) : Statement (.beql rs rt imm) := canonicalWord_packI (by decide)
theorem bnel (rs : Reg) (rt : Reg) (imm : BitVec 16) : Statement (.bnel rs rt imm) := canonicalWord_packI (by decide)
theorem j (target : BitVec 26) : Statement (.j target) := canonicalWord_packJ (by decide)
theorem jal (target : BitVec 26) : Statement (.jal target) := canonicalWord_packJ (by decide)
theorem jalx (target : BitVec 26) : Statement (.jalx target) := canonicalWord_packJ (by decide)
theorem lb (base : Reg) (rt : Reg) (imm : BitVec 16) : Statement (.lb base rt imm) := canonicalWord_packI (by decide)
theorem lbu (base : Reg) (rt : Reg) (imm : BitVec 16) : Statement (.lbu base rt imm) := canonicalWord_packI (by decide)
theorem lh (base : Reg) (rt : Reg) (imm : BitVec 16) : Statement (.lh base rt imm) := canonicalWord_packI (by decide)
theorem lhu (base : Reg) (rt : Reg) (imm : BitVec 16) : Statement (.lhu base rt imm) := canonicalWord_packI (by decide)
theorem lw (base : Reg) (rt : Reg) (imm : BitVec 16) : Statement (.lw base rt imm) := canonicalWord_packI (by decide)
theorem lwl (base : Reg) (rt : Reg) (imm : BitVec 16) : Statement (.lwl base rt imm) := canonicalWord_packI (by decide)
theorem lwr (base : Reg) (rt : Reg) (imm : BitVec 16) : Statement (.lwr base rt imm) := canonicalWord_packI (by decide)
theorem sb (base : Reg) (rt : Reg) (imm : BitVec 16) : Statement (.sb base rt imm) := canonicalWord_packI (by decide)
theorem sh (base : Reg) (rt : Reg) (imm : BitVec 16) : Statement (.sh base rt imm) := canonicalWord_packI (by decide)
theorem sw (base : Reg) (rt : Reg) (imm : BitVec 16) : Statement (.sw base rt imm) := canonicalWord_packI (by decide)
theorem swl (base : Reg) (rt : Reg) (imm : BitVec 16) : Statement (.swl base rt imm) := canonicalWord_packI (by decide)
theorem swr (base : Reg) (rt : Reg) (imm : BitVec 16) : Statement (.swr base rt imm) := canonicalWord_packI (by decide)
theorem ll (base : Reg) (rt : Reg) (imm : BitVec 16) : Statement (.ll base rt imm) := canonicalWord_packI (by decide)
theorem sc (base : Reg) (rt : Reg) (imm : BitVec 16) : Statement (.sc base rt imm) := canonicalWord_packI (by decide)
theorem pref (base : Reg) (hint : Reg) (imm : BitVec 16) : Statement (.pref base hint imm) := canonicalWord_packI (by decide)
theorem cache (base : Reg) (op : Reg) (imm : BitVec 16) : Statement (.cache base op imm) := canonicalWord_packI (by decide)
theorem lwc1 (base : Reg) (ft : Reg) (imm : BitVec 16) : Statement (.lwc1 base ft imm) := canonicalWord_packI (by decide)
theorem ldc1 (base : Reg) (ft : Reg) (imm : BitVec 16) : Statement (.ldc1 base ft imm) := canonicalWord_packI (by decide)
theorem swc1 (base : Reg) (ft : Reg) (imm : BitVec 16) : Statement (.swc1 base ft imm) := canonicalWord_packI (by decide)
theorem sdc1 (base : Reg) (ft : Reg) (imm : BitVec 16) : Statement (.sdc1 base ft imm) := canonicalWord_packI (by decide)
theorem lwc2 (base : Reg) (rt : Reg) (imm : BitVec 16) : Statement (.lwc2 base rt imm) := canonicalWord_packI (by decide)
theorem swc2 (base : Reg) (rt : Reg) (imm : BitVec 16) : Statement (.swc2 base rt imm) := canonicalWord_packI (by decide)
theorem ldc2 (base : Reg) (rt : Reg) (imm : BitVec 16) : Statement (.ldc2 base rt imm) := canonicalWord_packI (by decide)
theorem sdc2 (base : Reg) (rt : Reg) (imm : BitVec 16) : Statement (.sdc2 base rt imm) := canonicalWord_packI (by decide)

end Sys2Proof.Laws.Canonical
end

