-- ==== Sys2Proof/Laws/Tlb.lean ====
section
/-! SUPPORT. Matching and translation by the TLB, bit by bit. -/

namespace Sys2Proof.Machine

/-- The bitwise reading of a match is the model's test (R212). -/
theorem maps_iff (e : TlbEntry) (v : BitVec 19) (a : Byte) : e.maps v a ↔ e.covers v a = true := by
  unfold TlbEntry.maps TlbEntry.covers
  simp only [Bool.and_eq_true, decide_eq_true_eq, Bool.or_eq_true]
  refine and_congr ?_ Iff.rfl
  constructor
  · intro h
    apply BitVec.eq_of_getLsbD_eq
    intro j hj
    rw [BitVec.getLsbD_and, BitVec.getLsbD_and, BitVec.getLsbD_not]
    simp only [hj, decide_true, Bool.true_and, BitVec.getLsbD_setWidth]
    cases hm : e.mask.getLsbD j
    · rw [h j hj hm]
    · simp
  · intro h j hj hm
    have := congrArg (fun w : BitVec 19 => w.getLsbD j) h
    simp only [BitVec.getLsbD_and, BitVec.getLsbD_not, hj, decide_true, Bool.true_and, BitVec.getLsbD_setWidth, hm] at this
    simpa using this

/-- Where no entry maps a page pair the search finds nothing. -/
theorem matches_none (s : State) (v : BitVec 19) (h : s.noMatch v) : tlbMatches s.tlb s.cfg.tlbEntries v s.asid = [] := by
  unfold tlbMatches
  rw [List.filter_eq_nil_iff]
  intro i _
  have := h i
  rw [maps_iff] at this
  simp only [Bool.and_eq_true, decide_eq_true_eq, not_and]
  exact this

theorem filter_single {α : Type} [DecidableEq α] (l : List α) (p : α → Bool) (i : α) (hn : l.Nodup) (hi : i ∈ l) (hp : p i = true)
    (ho : ∀ j, j ≠ i → p j = false) : l.filter p = [i] := by
  induction l with
  | nil => cases hi
  | cons a t ih =>
    rw [List.nodup_cons] at hn
    by_cases h : a = i
    · subst h
      rw [List.filter_cons_of_pos hp]
      congr 1
      rw [List.filter_eq_nil_iff]
      intro j hj
      have : j ≠ a := fun e => hn.1 (e ▸ hj)
      simp [ho j this]
    · rw [List.filter_cons_of_neg (by simp [ho a h])]
      exact ih hn.2 (by rcases List.mem_cons.1 hi with e | e; exact absurd e.symm h; exact e)

/-- Where one entry maps a page pair the search finds it alone. -/
theorem matches_one (s : State) (i : Fin 64) (v : BitVec 19) (h : s.onlyMatch i v) : tlbMatches s.tlb s.cfg.tlbEntries v s.asid = [i] := by
  obtain ⟨h1, h2, h3⟩ := h
  unfold tlbMatches
  refine filter_single _ _ i (List.nodup_finRange 64) (List.mem_finRange i) ?_ ?_
  · simp only [Bool.and_eq_true, decide_eq_true_eq]; exact ⟨h1, (maps_iff _ _ _).1 h2⟩
  · intro j hj
    rw [Bool.and_eq_false_iff]
    by_cases hn : j.val < s.cfg.tlbEntries
    · right
      have := h3 j hn hj
      rw [maps_iff] at this
      simpa using this
    · left; simpa using hn

/-- The legal masks are `4^k - 1` (R87). -/
theorem legal_iff (e : TlbEntry) : e.maskLegal ↔ legalMask e.mask = true := by
  unfold TlbEntry.maskLegal legalMask
  simp only [Bool.or_eq_true, decide_eq_true_eq]
  constructor
  · rintro ⟨k, hk, h⟩
    have : k = 0 ∨ k = 1 ∨ k = 2 ∨ k = 3 ∨ k = 4 ∨ k = 5 ∨ k = 6 ∨ k = 7 ∨ k = 8 := by omega
    rcases this with rfl | rfl | rfl | rfl | rfl | rfl | rfl | rfl | rfl <;> simp [h]
  · rintro ((((((((h | h) | h) | h) | h) | h) | h) | h) | h)
    · exact ⟨0, by omega, h⟩
    · exact ⟨1, by omega, h⟩
    · exact ⟨2, by omega, h⟩
    · exact ⟨3, by omega, h⟩
    · exact ⟨4, by omega, h⟩
    · exact ⟨5, by omega, h⟩
    · exact ⟨6, by omega, h⟩
    · exact ⟨7, by omega, h⟩
    · exact ⟨8, by omega, h⟩

/-- The page size of a legal mask (R87). -/
theorem shift_of (m : BitVec 16) (n : Nat) (hn : n ≤ 8) (h : m = BitVec.ofNat 16 (4 ^ n - 1)) : pageShift m = 12 + 2 * n := by
  have : n = 0 ∨ n = 1 ∨ n = 2 ∨ n = 3 ∨ n = 4 ∨ n = 5 ∨ n = 6 ∨ n = 7 ∨ n = 8 := by omega
  subst h
  rcases this with rfl | rfl | rfl | rfl | rfl | rfl | rfl | rfl | rfl <;> decide

/-- The physical address of a page, bit by bit (R212). -/
theorem physical_bits (e : TlbEntry) (p : TlbPage) (va : Word) (n : Nat) (hn : n ≤ 8) (h : e.mask = BitVec.ofNat 16 (4 ^ n - 1)) (j : Nat) (hj : j < 32) :
   (e.physical p va).getLsbD j = if j < 12 + 2 * n then va.getLsbD j else p.pfn.getLsbD (j - 12) := by
  have hs := shift_of _ n hn h
  unfold TlbEntry.physical
  simp only [hs]
  have hl : ∀ j, j < 32 → ((1#32 <<< (12 + 2 * n)) - 1).getLsbD j = decide (j < 12 + 2 * n) := by
    have : n = 0 ∨ n = 1 ∨ n = 2 ∨ n = 3 ∨ n = 4 ∨ n = 5 ∨ n = 6 ∨ n = 7 ∨ n = 8 := by omega
    rcases this with rfl | rfl | rfl | rfl | rfl | rfl | rfl | rfl | rfl <;> decide
  have hl' := hl j hj
  rw [BitVec.getLsbD_or, BitVec.getLsbD_and, BitVec.getLsbD_and, BitVec.getLsbD_not, hl', BitVec.getLsbD_append]
  by_cases h12 : j < 12 + 2 * n
  · simp [h12]
  · have : ¬ j < 12 := by omega
    simp [h12, this, hj]

end Sys2Proof.Machine
end

