-- ==== Sys2Proof/Tests/Slice0.lean ====
section
/-! SUPPORT. Tests: ill-formed terms, words written out from the spec's encodings, the vectors of spec/95_test_vectors.md
(their letters and numbers are in the comments), and witnesses for the premises of the statements. -/

set_option Elab.async false

namespace Sys2Proof

open Machine

/-! ## Well-formedness -/

theorem test_sll_named_nop_refused : (Instr.sll 0 0 0).wellFormed = false := by decide

theorem test_sll_named_ssnop_refused : (Instr.sll 0 0 1).wellFormed = false := by decide

theorem test_sll_named_ehb_refused : (Instr.sll 0 0 3).wellFormed = false := by decide

theorem test_sll_wellFormed : (Instr.sll 0 0 2).wellFormed = true ∧ (Instr.sll 0 1 0).wellFormed = true := by decide

/-! ## Decoding -/

/-- A word decodes to an instruction. -/
def reads (p : Word × Instr) : Bool := match decode p.1 with
  | .ok i => i = p.2
  | .error _ => false

/-- A word decodes to nothing. -/
def undecodable (w : Word) : Bool := match decode w with
  | .ok _ => false
  | .error _ => true

/-- R310: the hint bits 9:6 of a register jump are ignored (log 49). -/
theorem test_decode_jump_hints : [((0x00A003C8 : Word), Instr.jr 5), (0x00A007C8, .jr_hb 5), (0x00A0F849, .jalr 5 31),
    (0x00A0FE09, .jalr_hb 5 31)].all reads = true := by decide

/-- Reserved words: R310 (E11, A unused major opcode), a DSP ASE word (X6), `lui` with a source register (R354), `srl` with
a reserved bit (R360), a COP0 function that is none, a FP format that is none. -/
theorem test_decode_reserved :
    [0xFC000000, 0x7C00000C, 0x3C248000, 0x00452002, 0x42000003, 0x46C00000].all undecodable = true := by decide

/-- Words written out from the encodings of spec/40_alu.md. -/
theorem test_decode_Alu_1 : ([
    (0b00000000101001100011100000100000, .add 5 6 7),
    (0b00100000101001101000000100100011, .addi 5 6 0x8123),
    (0b00100100101001101000000100100011, .addiu 5 6 0x8123),
    (0b00000000101001100011100000100001, .addu 5 6 7),
    (0b00000000101001100011100000100010, .sub 5 6 7),
    (0b00000000101001100011100000100011, .subu 5 6 7),
    (0b00000000101001100011100000100100, .and 5 6 7),
    (0b00110000101001101000000100100011, .andi 5 6 0x8123),
    (0b00000000101001100011100000100101, .or 5 6 7),
    (0b00110100101001101000000100100011, .ori 5 6 0x8123),
    (0b00000000101001100011100000100110, .xor 5 6 7),
    (0b00111000101001101000000100100011, .xori 5 6 0x8123),
    (0b00000000101001100011100000100111, .nor 5 6 7),
    (0b00111100000001101000000100100011, .lui 6 0x8123),
    (0b00000000101001100011100000101010, .slt 5 6 7),
    (0b00101000101001101000000100100011, .slti 5 6 0x8123),
    (0b00000000101001100011100000101011, .sltu 5 6 7),
    (0b00101100101001101000000100100011, .sltiu 5 6 0x8123),
    (0b00000000000001100011101001000000, .sll 6 7 9),
    (0b00000000000001100011101001000010, .srl 6 7 9),
    (0b00000000000001100011101001000011, .sra 6 7 9),
    (0b00000000101001100011100000000100, .sllv 5 6 7),
    (0b00000000101001100011100000000110, .srlv 5 6 7),
    (0b00000000101001100011100000000111, .srav 5 6 7),
    (0b00000000001001100011101001000010, .rotr 6 7 9),
    (0b00000000101001100011100001000110, .rotrv 5 6 7),
    (0b00000000101001100011100000001010, .movz 5 6 7),
    (0b00000000101001100011100000001011, .movn 5 6 7),
    (0b00000000101101000011100000000001, .movf 5 5 7),
    (0b00000000101101010011100000000001, .movt 5 5 7),
    (0b01110000101001100011100000100000, .clz 5 6 7),
    (0b01110000101001100011100000100001, .clo 5 6 7)] : List (Word × Instr)).all reads = true := by decide

/-- Words written out from the encodings of spec/40_alu.md. -/
theorem test_decode_Alu_2 : ([
    (0b01111100101001101011000011000000, .ext 5 6 22 3),
    (0b01111100101001101011000011000100, .ins 5 6 22 3),
    (0b01111100000001100011110000100000, .seb 6 7),
    (0b01111100000001100011111000100000, .seh 6 7),
    (0b01111100000001100011100010100000, .wsbh 6 7)] : List (Word × Instr)).all reads = true := by decide

/-- Words written out from the encodings of spec/41_muldiv.md. -/
theorem test_decode_MulDiv_1 : ([
    (0b00000000101001100000000000011000, .mult 5 6),
    (0b00000000101001100000000000011001, .multu 5 6),
    (0b01110000101001100011100000000010, .mul 5 6 7),
    (0b01110000101001100000000000000000, .madd 5 6),
    (0b01110000101001100000000000000001, .maddu 5 6),
    (0b01110000101001100000000000000100, .msub 5 6),
    (0b01110000101001100000000000000101, .msubu 5 6),
    (0b00000000101001100000000000011010, .div 5 6),
    (0b00000000101001100000000000011011, .divu 5 6),
    (0b00000000000000000011100000010000, .mfhi 7),
    (0b00000000000000000011100000010010, .mflo 7),
    (0b00000000101000000000000000010001, .mthi 5),
    (0b00000000101000000000000000010011, .mtlo 5)] : List (Word × Instr)).all reads = true := by decide

/-- Words written out from the encodings of spec/42_branch_jump.md. -/
theorem test_decode_Branch_1 : ([
    (0b00010000101001101000000100100011, .beq 5 6 0x8123),
    (0b00010100101001101000000100100011, .bne 5 6 0x8123),
    (0b00011000101000001000000100100011, .blez 5 0x8123),
    (0b00011100101000001000000100100011, .bgtz 5 0x8123),
    (0b00000100101000001000000100100011, .bltz 5 0x8123),
    (0b00000100101000011000000100100011, .bgez 5 0x8123),
    (0b00000100101100001000000100100011, .bltzal 5 0x8123),
    (0b00000100101100011000000100100011, .bgezal 5 0x8123),
    (0b01010000101001101000000100100011, .beql 5 6 0x8123),
    (0b01010100101001101000000100100011, .bnel 5 6 0x8123),
    (0b01011000101000001000000100100011, .blezl 5 0x8123),
    (0b01011100101000001000000100100011, .bgtzl 5 0x8123),
    (0b00000100101000101000000100100011, .bltzl 5 0x8123),
    (0b00000100101000111000000100100011, .bgezl 5 0x8123),
    (0b00000100101100101000000100100011, .bltzall 5 0x8123),
    (0b00000100101100111000000100100011, .bgezall 5 0x8123),
    (0b00001010101010111100110111100001, .j 0x2abcde1),
    (0b00001110101010111100110111100001, .jal 0x2abcde1),
    (0b00000000101000000000000000001000, .jr 5),
    (0b00000000101000000011100000001001, .jalr 5 7),
    (0b00000000101000000000010000001000, .jr_hb 5),
    (0b00000000101000000011110000001001, .jalr_hb 5 7),
    (0b01110110101010111100110111100001, .jalx 0x2abcde1)] : List (Word × Instr)).all reads = true := by decide

/-- Words written out from the encodings of spec/43_load_store.md. -/
theorem test_decode_LoadStore_1 : ([
    (0b10000001010001101000000100100011, .lb 10 6 0x8123),
    (0b10010001010001101000000100100011, .lbu 10 6 0x8123),
    (0b10000101010001101000000100100011, .lh 10 6 0x8123),
    (0b10010101010001101000000100100011, .lhu 10 6 0x8123),
    (0b10001101010001101000000100100011, .lw 10 6 0x8123),
    (0b10001001010001101000000100100011, .lwl 10 6 0x8123),
    (0b10011001010001101000000100100011, .lwr 10 6 0x8123),
    (0b10100001010001101000000100100011, .sb 10 6 0x8123),
    (0b10100101010001101000000100100011, .sh 10 6 0x8123),
    (0b10101101010001101000000100100011, .sw 10 6 0x8123),
    (0b10101001010001101000000100100011, .swl 10 6 0x8123),
    (0b10111001010001101000000100100011, .swr 10 6 0x8123),
    (0b11000001010001101000000100100011, .ll 10 6 0x8123),
    (0b11100001010001101000000100100011, .sc 10 6 0x8123),
    (0b11001101010110011000000100100011, .pref 10 25 0x8123),
    (0b00000000000000000000010010001111, .sync 18),
    (0b00000101010111111000000100100011, .synci 10 0x8123),
    (0b10111101010101011000000100100011, .cache 10 21 0x8123)] : List (Word × Instr)).all reads = true := by decide

/-- Words written out from the encodings of spec/44_system.md. -/
theorem test_decode_System_1 : ([
    (0b00000010100000000101010101001100, .syscall 0xa0155),
    (0b00000010100000000101010101001101, .break_ 0xa0155),
    (0b01110010100000000101010101111111, .sdbbp 0xa0155),
    (0b00000000101001100101010101110000, .tge 5 6 0x155),
    (0b00000000101001100101010101110001, .tgeu 5 6 0x155),
    (0b00000000101001100101010101110010, .tlt 5 6 0x155),
    (0b00000000101001100101010101110011, .tltu 5 6 0x155),
    (0b00000000101001100101010101110100, .teq 5 6 0x155),
    (0b00000000101001100101010101110110, .tne 5 6 0x155),
    (0b00000100101010001000000100100011, .tgei 5 0x8123),
    (0b00000100101010011000000100100011, .tgeiu 5 0x8123),
    (0b00000100101010101000000100100011, .tlti 5 0x8123),
    (0b00000100101010111000000100100011, .tltiu 5 0x8123),
    (0b00000100101011001000000100100011, .teqi 5 0x8123),
    (0b00000100101011101000000100100011, .tnei 5 0x8123),
    (0b01000010000000000000000000011000, .eret),
    (0b01000010000000000000000000011111, .deret),
    (0b01000010000001000000000001100000, .wait),
    (0b01000000000001100011100000000011, .mfc0 6 7 3),
    (0b01000000100001100011100000000011, .mtc0 6 7 3),
    (0b01000001011001100110000000000000, .di 6),
    (0b01000001011001100110000000100000, .ei 6),
    (0b01000001010001100011100000000000, .rdpgpr 6 7),
    (0b01000001110001100011100000000000, .wrpgpr 6 7),
    (0b01111100000001100011100000111011, .rdhwr 6 7),
    (0b01000010000000000000000000000001, .tlbr),
    (0b01000010000000000000000000000010, .tlbwi),
    (0b01000010000000000000000000000110, .tlbwr),
    (0b01000010000000000000000000001000, .tlbp),
    (0b00000000000000000000000000000000, .nop),
    (0b00000000000000000000000001000000, .ssnop),
    (0b00000000000000000000000011000000, .ehb)] : List (Word × Instr)).all reads = true := by decide

/-- Words written out from the encodings of spec/45_fpu.md. -/
theorem test_decode_Fpu_1 : ([
    (0b01000100000001100110000000000000, .mfc1 6 12),
    (0b01000100100001100110000000000000, .mtc1 6 12),
    (0b01000100011001100110000000000000, .mfhc1 6 12),
    (0b01000100111001100110000000000000, .mthc1 6 12),
    (0b01000100010001100110000000000000, .cfc1 6 12),
    (0b01000100110001100110000000000000, .ctc1 6 12),
    (0b11000101010010111000000100100011, .lwc1 10 11 0x8123),
    (0b11010101010010111000000100100011, .ldc1 10 11 0x8123),
    (0b11100101010010111000000100100011, .swc1 10 11 0x8123),
    (0b11110101010010111000000100100011, .sdc1 10 11 0x8123),
    (0b01001101010100010000001101000000, .lwxc1 10 17 13),
    (0b01001101010100010000001101000001, .ldxc1 10 17 13),
    (0b01001101010100010000001101000101, .luxc1 10 17 13),
    (0b01001101010100010110000000001000, .swxc1 10 17 12),
    (0b01001101010100010110000000001001, .sdxc1 10 17 12),
    (0b01001101010100010110000000001101, .suxc1 10 17 12),
    (0b01001101010100011100100000001111, .prefx 10 17 25),
    (0b01000110000010110110001101000000, .add_s 11 12 13),
    (0b01000110001010110110001101000000, .add_d 11 12 13),
    (0b01000110000010110110001101000001, .sub_s 11 12 13),
    (0b01000110001010110110001101000001, .sub_d 11 12 13),
    (0b01000110000010110110001101000010, .mul_s 11 12 13),
    (0b01000110001010110110001101000010, .mul_d 11 12 13),
    (0b01000110000010110110001101000011, .div_s 11 12 13),
    (0b01000110001010110110001101000011, .div_d 11 12 13),
    (0b01000110000000000110001101000100, .sqrt_s 12 13),
    (0b01000110001000000110001101000100, .sqrt_d 12 13),
    (0b01000110000000000110001101000101, .abs_s 12 13),
    (0b01000110001000000110001101000101, .abs_d 12 13),
    (0b01000110000000000110001101000111, .neg_s 12 13),
    (0b01000110001000000110001101000111, .neg_d 12 13),
    (0b01000110000000000110001101000110, .mov_s 12 13)] : List (Word × Instr)).all reads = true := by decide

/-- Words written out from the encodings of spec/45_fpu.md. -/
theorem test_decode_Fpu_2 : ([
    (0b01000110001000000110001101000110, .mov_d 12 13),
    (0b01000110000000000110001101010101, .recip_s 12 13),
    (0b01000110001000000110001101010101, .recip_d 12 13),
    (0b01000110000000000110001101010110, .rsqrt_s 12 13),
    (0b01000110001000000110001101010110, .rsqrt_d 12 13),
    (0b01001101110010110110001101100000, .madd_s 14 11 12 13),
    (0b01001101110010110110001101100001, .madd_d 14 11 12 13),
    (0b01001101110010110110001101101000, .msub_s 14 11 12 13),
    (0b01001101110010110110001101101001, .msub_d 14 11 12 13),
    (0b01001101110010110110001101110000, .nmadd_s 14 11 12 13),
    (0b01001101110010110110001101110001, .nmadd_d 14 11 12 13),
    (0b01001101110010110110001101111000, .nmsub_s 14 11 12 13),
    (0b01001101110010110110001101111001, .nmsub_d 14 11 12 13),
    (0b01000110000000000110001101001100, .round_w_s 12 13),
    (0b01000110001000000110001101001100, .round_w_d 12 13),
    (0b01000110000000000110001101001101, .trunc_w_s 12 13),
    (0b01000110001000000110001101001101, .trunc_w_d 12 13),
    (0b01000110000000000110001101001110, .ceil_w_s 12 13),
    (0b01000110001000000110001101001110, .ceil_w_d 12 13),
    (0b01000110000000000110001101001111, .floor_w_s 12 13),
    (0b01000110001000000110001101001111, .floor_w_d 12 13),
    (0b01000110000000000110001101001000, .round_l_s 12 13),
    (0b01000110001000000110001101001000, .round_l_d 12 13),
    (0b01000110000000000110001101001001, .trunc_l_s 12 13),
    (0b01000110001000000110001101001001, .trunc_l_d 12 13),
    (0b01000110000000000110001101001010, .ceil_l_s 12 13),
    (0b01000110001000000110001101001010, .ceil_l_d 12 13),
    (0b01000110000000000110001101001011, .floor_l_s 12 13),
    (0b01000110001000000110001101001011, .floor_l_d 12 13),
    (0b01000110001000000110001101100000, .cvt_s_d 12 13),
    (0b01000110100000000110001101100000, .cvt_s_w 12 13),
    (0b01000110101000000110001101100000, .cvt_s_l 12 13)] : List (Word × Instr)).all reads = true := by decide

/-- Words written out from the encodings of spec/45_fpu.md. -/
theorem test_decode_Fpu_3 : ([
    (0b01000110000000000110001101100001, .cvt_d_s 12 13),
    (0b01000110100000000110001101100001, .cvt_d_w 12 13),
    (0b01000110101000000110001101100001, .cvt_d_l 12 13),
    (0b01000110000000000110001101100100, .cvt_w_s 12 13),
    (0b01000110001000000110001101100100, .cvt_w_d 12 13),
    (0b01000110000000000110001101100101, .cvt_l_s 12 13),
    (0b01000110001000000110001101100101, .cvt_l_d 12 13),
    (0b01000110000010110110010100110000, .c_f_s 11 12 5),
    (0b01000110000010110110010100110001, .c_un_s 11 12 5),
    (0b01000110000010110110010100110010, .c_eq_s 11 12 5),
    (0b01000110000010110110010100110011, .c_ueq_s 11 12 5),
    (0b01000110000010110110010100110100, .c_olt_s 11 12 5),
    (0b01000110000010110110010100110101, .c_ult_s 11 12 5),
    (0b01000110000010110110010100110110, .c_ole_s 11 12 5),
    (0b01000110000010110110010100110111, .c_ule_s 11 12 5),
    (0b01000110000010110110010100111000, .c_sf_s 11 12 5),
    (0b01000110000010110110010100111001, .c_ngle_s 11 12 5),
    (0b01000110000010110110010100111010, .c_seq_s 11 12 5),
    (0b01000110000010110110010100111011, .c_ngl_s 11 12 5),
    (0b01000110000010110110010100111100, .c_lt_s 11 12 5),
    (0b01000110000010110110010100111101, .c_nge_s 11 12 5),
    (0b01000110000010110110010100111110, .c_le_s 11 12 5),
    (0b01000110000010110110010100111111, .c_ngt_s 11 12 5),
    (0b01000110001010110110010100110000, .c_f_d 11 12 5),
    (0b01000110001010110110010100110001, .c_un_d 11 12 5),
    (0b01000110001010110110010100110010, .c_eq_d 11 12 5),
    (0b01000110001010110110010100110011, .c_ueq_d 11 12 5),
    (0b01000110001010110110010100110100, .c_olt_d 11 12 5),
    (0b01000110001010110110010100110101, .c_ult_d 11 12 5),
    (0b01000110001010110110010100110110, .c_ole_d 11 12 5),
    (0b01000110001010110110010100110111, .c_ule_d 11 12 5),
    (0b01000110001010110110010100111000, .c_sf_d 11 12 5)] : List (Word × Instr)).all reads = true := by decide

/-- Words written out from the encodings of spec/45_fpu.md. -/
theorem test_decode_Fpu_4 : ([
    (0b01000110001010110110010100111001, .c_ngle_d 11 12 5),
    (0b01000110001010110110010100111010, .c_seq_d 11 12 5),
    (0b01000110001010110110010100111011, .c_ngl_d 11 12 5),
    (0b01000110001010110110010100111100, .c_lt_d 11 12 5),
    (0b01000110001010110110010100111101, .c_nge_d 11 12 5),
    (0b01000110001010110110010100111110, .c_le_d 11 12 5),
    (0b01000110001010110110010100111111, .c_ngt_d 11 12 5),
    (0b01000110000101000110001101010001, .movf_s 5 12 13),
    (0b01000110000101010110001101010001, .movt_s 5 12 13),
    (0b01000110001101000110001101010001, .movf_d 5 12 13),
    (0b01000110001101010110001101010001, .movt_d 5 12 13),
    (0b01000110000001100110001101010010, .movz_s 6 12 13),
    (0b01000110001001100110001101010010, .movz_d 6 12 13),
    (0b01000110000001100110001101010011, .movn_s 6 12 13),
    (0b01000110001001100110001101010011, .movn_d 6 12 13),
    (0b01000101000101001000000100100011, .bc1f 5 0x8123),
    (0b01000101000101011000000100100011, .bc1t 5 0x8123),
    (0b01000101000101101000000100100011, .bc1fl 5 0x8123),
    (0b01000101000101111000000100100011, .bc1tl 5 0x8123)] : List (Word × Instr)).all reads = true := by decide

/-- Words written out from the encodings of spec/46_cop2_corextend.md. -/
theorem test_decode_Cop2_1 : ([
    (0b01001000000001101001001000110100, .mfc2 6 0x9234),
    (0b01001000100001101001001000110100, .mtc2 6 0x9234),
    (0b01001000010001100011100000000000, .cfc2 6 7),
    (0b01001000110001100011100000000000, .ctc2 6 7),
    (0b01001000011001101001001000110100, .mfhc2 6 0x9234),
    (0b01001000111001101001001000110100, .mthc2 6 0x9234),
    (0b01001001000101001000000100100011, .bc2f 5 0x8123),
    (0b01001001000101011000000100100011, .bc2t 5 0x8123),
    (0b01001001000101101000000100100011, .bc2fl 5 0x8123),
    (0b01001001000101111000000100100011, .bc2tl 5 0x8123),
    (0b11001001010001101000000100100011, .lwc2 10 6 0x8123),
    (0b11101001010001101000000100100011, .swc2 10 6 0x8123),
    (0b11011001010001101000000100100011, .ldc2 10 6 0x8123),
    (0b11111001010001101000000100100011, .sdc2 10 6 0x8123),
    (0b01001011101010111100110111101111, .cop2 0x1abcdef),
    (0b01110000101010010111110011011011, .udi 0x2a5f3 0xb)] : List (Word × Instr)).all reads = true := by decide

/-! ## Small states -/

/-- Kernel code in kseg0 with coprocessors 1 and 2 usable, outside exception level. -/
def kern : State := { State.reset with
  pc := 0x80001000
  npc := 0x80001004
  cp0 := { State.reset.cp0 with status := 0x60000000 } }

def Machine.State.withRegs (s : State) (rs : List (Reg × Word)) : State := rs.foldl (fun s p => s.writeGpr p.1 p.2) s

def Machine.State.withStatus (s : State) (w : Word) : State := { s with cp0 := { s.cp0 with status := w } }

def Machine.State.withCfg (s : State) (f : Cfg → Cfg) : State := { s with cfg := f s.cfg }

/-- The code `p` at `pc`. -/
def Machine.State.at_ (s : State) (p : Word) : State := { s with pc := p, npc := p + 4 }

/-- Running the word answers a next state of which `f` is `v`. -/
def gives {α : Type} [DecidableEq α] (o : Out) (f : State → α) (v : α) : Bool := match o with
  | .next t => f t = v
  | _ => false

def refusedAs (o : Out) (r : Refusal) : Bool := match o with
  | .refused q => q = r
  | _ => false

def excCode (t : State) : BitVec 5 := t.cp0.cause.extractLsb' 2 5

/-! ## Integer arithmetic -/

/-- `x[4]` after a word, from `x[5] = a`, `x[6] = b`, `x[4] = 1`. -/
def aluOk (v : Word × Word × Word × Word) : Bool :=
  gives ((kern.withRegs [(5, v.2.1), (6, v.2.2.1), (4, 1)]).runWord v.1) (fun t => t.readGpr 4) v.2.2.2

/-- A3, A5, A7, the `and`, `xor`, `nor`, `lui` rows of R347 to R354, A8 to A10. -/
theorem test_add_sub_logic : [(0x00A62021, 0x7FFFFFFF, 1, 0x80000000), (0x24A48000, 0, 0, 0xFFFF8000),
    (0x00A62023, 0x80000000, 1, 0x7FFFFFFF), (0x30A4FFFF, 0xFFFFFFFF, 0, 0x0000FFFF),
    (0x34A48000, 0, 0, 0x00008000), (0x3C04FFFF, 0, 0, 0xFFFF0000), (0x00A62024, 0xFF00FF00, 0x0FF00FF0, 0x0F000F00),
    (0x00A62025, 0xFF00FF00, 0x0FF00FF0, 0xFFF0FFF0), (0x00A62026, 0xFF00FF00, 0x0FF00FF0, 0xF0F0F0F0),
    (0x38A4FFFF, 0xFFFFFFFF, 0, 0xFFFF0000), (0x00A62027, 0xFF00FF00, 0x0FF00FF0, 0x000F000F)].all aluOk = true := by
  decide +kernel

/-- R341, R342, R345 with sums and differences that fit. -/
theorem test_trapping_fits : [(0x00A62020, 2, 0xFFFFFFFF, 1), (0x20A4FFFF, 0, 0, 0xFFFFFFFF),
    (0x00A62022, 5, 7, 0xFFFFFFFE)].all aluOk = true := by decide +kernel

/-- A1, A2, A4, A6: Integer Overflow in the state before. -/
theorem test_overflow :
    let s := fun (a b : Word) => kern.withRegs [(5, a), (6, b), (4, 0xDEADBEEF)]
    (s 0x7FFFFFFF 1).runWord 0x00A62020 = (s 0x7FFFFFFF 1).raise .ov ∧
    (s 0x80000000 0xFFFFFFFF).runWord 0x00A62020 = (s 0x80000000 0xFFFFFFFF).raise .ov ∧
    (s 0x7FFF8001 0).runWord 0x20A47FFF = (s 0x7FFF8001 0).raise .ov ∧
    (s 0x80000000 1).runWord 0x00A62022 = (s 0x80000000 1).raise .ov := ⟨rfl, rfl, rfl, rfl⟩

/-- A1: what Integer Overflow leaves. -/
theorem test_overflow_entry :
    gives ((kern.withRegs [(5, 0x7FFFFFFF), (6, 1), (4, 0xDEADBEEF)]).runWord 0x00A62020)
      (fun t => (t.readGpr 4, t.cp0.epc, t.pc, t.cp0.status)) (0xDEADBEEF, 0x80001000, 0x80000180, 0x60000002) = true := by
  decide +kernel

/-- A12, A13, and signed against unsigned of R355, R357. -/
theorem test_set_on_less : [(0x28A48000, 0xFFFF7FFF, 0, 1), (0x2CA48000, 0x0000FFFF, 0, 1),
    (0x00A6202A, 0x80000000, 0x7FFFFFFF, 1), (0x00A6202B, 0x80000000, 0x7FFFFFFF, 0)].all aluOk = true := by
  decide +kernel

/-- A14 to A19, `srlv`, `srav`. -/
theorem test_shifts : [(0x000527C0, 3, 0, 0x80000000), (0x000527C3, 0x80000000, 0, 0xFFFFFFFF),
    (0x00052002, 0x80000001, 0, 0x80000001), (0x00C52004, 1, 0xFFFFFFE4, 0x10), (0x00252002, 0x12345678, 0, 0x12345678),
    (0x00C52046, 0x12345678, 36, 0x81234567), (0x00C52006, 0x80000000, 31, 1), (0x00C52007, 0x80000000, 31, 0xFFFFFFFF)].all
    aluOk = true := by decide +kernel

/-- A20 to A22, A24, A25, A27, A28, A30 to A32. -/
theorem test_bits : [(0x70A42020, 0, 0, 32), (0x70A42021, 0xFFFFFFFF, 0, 32), (0x70A42020, 0x80000000, 0, 0),
    (0x7CA4F800, 0xCAFEBABE, 0, 0xCAFEBABE), (0x7CA407C0, 0x80000000, 0, 1), (0x7CA4F804, 0x12345678, 0, 0x12345678),
    (0x7CA4FFC4, 0xFFFFFFFF, 0, 0x80000001), (0x7C052420, 0xFFFFFF7F, 0, 0x7F), (0x7C052620, 0x0001FFFF, 0, 0xFFFFFFFF),
    (0x7C0520A0, 0xAABBCCDD, 0, 0xBBAADDCC)].all aluOk = true := by decide +kernel

/-- A33, A34; `movf` and `movt` of condition 0, which is clear. -/
theorem test_conditional_moves : [(0x00A6200A, 9, 0, 9), (0x00A6200B, 9, 0, 1), (0x00A02001, 9, 0, 9), (0x00A12001, 9, 0, 1)].all
    aluOk = true := by decide +kernel

/-- A23, A26, A29, B11, B14: operands that are refused. -/
theorem test_unpredictable_refused : ([0x70A62020, 0x7CA40FC0, 0x7CA40204, 0x00A02809, 0x07F00003] : List Word).all (fun w =>
    refusedAs (kern.runWord w) .unpredictableOperands) = true := by decide +kernel

/-! ## Multiply and divide -/

/-- `HI`, `LO` after a word, from `x[5]`, `x[6]` and an accumulator. -/
def hiLoOk (v : Word × Word × Word × DWord × DWord) : Bool :=
  gives (State.runWord { kern.withRegs [(5, v.2.1), (6, v.2.2.1)] with
      hi := v.2.2.2.1.extractLsb' 32 32, lo := v.2.2.2.1.extractLsb' 0 32 } v.1) (fun t => t.hi ++ t.lo) v.2.2.2.2

/-- M1 to M3, M5 to M9, M11, M12. -/
theorem test_hi_lo : [(0x00A60018, 0x80000000, 0x80000000, 0, 0x4000000000000000),
    (0x00A60019, 0xFFFFFFFF, 0xFFFFFFFF, 0, 0xFFFFFFFE00000001), (0x00A60018, 0xFFFFFFFF, 0xFFFFFFFF, 0, 1),
    (0x70A60000, 1, 1, 0xFFFFFFFF, 0x100000000), (0x70A60001, 1, 1, 0xFFFFFFFFFFFFFFFF, 0),
    (0x70A60004, 1, 1, 0, 0xFFFFFFFFFFFFFFFF), (0x70A60005, 1, 1, 0, 0xFFFFFFFFFFFFFFFF),
    (0x00A6001A, 7, 0xFFFFFFFE, 0, 0x00000001FFFFFFFD), (0x00A6001A, 0x80000000, 0xFFFFFFFF, 0, 0x0000000080000000),
    (0x00A6001B, 0xFFFFFFFF, 0x10, 0, 0x0000000F0FFFFFFF), (0x00A00011, 9, 0, 7, 0x900000007), (0x00A00013, 9, 0, 7, 9)].all
    hiLoOk = true := by decide +kernel

/-- M4, `mfhi`, `mflo`. -/
theorem test_mul_mfhi_mflo : [(0x70A62002, 0x10000, 0x10000, 0), (0x70A62002, 0xFFFFFFFE, 3, 0xFFFFFFFA), (0x00002010, 0, 0, 0),
    (0x00002012, 0, 0, 0)].all aluOk = true := by decide +kernel

/-- M10: division by zero completes. -/
theorem test_divide_by_zero : gives (kern.runWord 0x00A6001A) (fun t => (t.pc, t.excCount)) (0x80001004, 0) = true := by
  decide +kernel

/-! ## Branches and jumps -/

/-- The addresses of the next two instructions, and `x[31]`, of a word at `0x80000100`. -/
def goes (v : Word × Word × Word × Word × Word × Word) : Bool :=
  gives (((kern.at_ 0x80000100).withRegs [(5, v.2.1), (6, v.2.2.1)]).runWord v.1)
    (fun t => (t.pc, t.npc, t.readGpr 31)) v.2.2.2

/-- B1 to B5, B8, and the conditions of R457 to R469. -/
theorem test_branches : [(0x1000FFFF, 0, 0, 0x80000104, 0x80000100, 0), (0x10A67FFF, 1, 1, 0x80000104, 0x80020100, 0),
    (0x10A68000, 1, 1, 0x80000104, 0x7FFE0104, 0), (0x04B10003, 0xFFFFFFFF, 0, 0x80000104, 0x80000108, 0x80000108),
    (0x04B00003, 0xFFFFFFFF, 0, 0x80000104, 0x80000110, 0x80000108), (0x50A60003, 1, 2, 0x80000108, 0x8000010C, 0),
    (0x50A60003, 2, 2, 0x80000104, 0x80000110, 0), (0x14A60003, 1, 2, 0x80000104, 0x80000110, 0),
    (0x18A00003, 0, 0, 0x80000104, 0x80000110, 0), (0x1CA00003, 0, 0, 0x80000104, 0x80000108, 0),
    (0x04A00003, 0x80000000, 0, 0x80000104, 0x80000110, 0), (0x04A10003, 0, 0, 0x80000104, 0x80000110, 0)].all goes = true := by
  decide +kernel

/-- R465 to R469, R471, R472: the branch-likely forms not taken skip their slot, the linking ones still link. -/
theorem test_branch_likely : [(0x54A60003, 1, 1, 0x80000108, 0x8000010C, 0), (0x58A00003, 1, 0, 0x80000108, 0x8000010C, 0),
    (0x5CA00003, 0, 0, 0x80000108, 0x8000010C, 0), (0x04A20003, 0, 0, 0x80000108, 0x8000010C, 0),
    (0x04A30003, 0x80000000, 0, 0x80000108, 0x8000010C, 0), (0x04B20003, 0, 0, 0x80000108, 0x8000010C, 0x80000108),
    (0x04B30003, 0x80000000, 0, 0x80000108, 0x8000010C, 0x80000108)].all goes = true := by decide +kernel

/-- B8, B9, B12, the hazard barrier forms, `j`. -/
theorem test_jumps : [(0x0C000040, 0, 0, 0x80000104, 0x80000100, 0x80000108), (0x08000040, 0, 0, 0x80000104, 0x80000100, 0),
    (0x00A00008, 0x80000202, 0, 0x80000104, 0x80000202, 0), (0x00A0F809, 0x80000400, 0, 0x80000104, 0x80000400, 0x80000108),
    (0x00A00408, 0x80000400, 0, 0x80000104, 0x80000400, 0), (0x00A0FC09, 0x80000400, 0, 0x80000104, 0x80000400, 0x80000108)].all
    goes = true := by decide +kernel

/-- B7: the region is that of the delay slot. -/
theorem test_jump_region : gives ((kern.at_ 0x9FFFFFFC).runWord 0x08000000) (fun t => (t.pc, t.npc)) (0xA0000000, 0xA0000000) = true := by
  decide +kernel

/-- B10, X5, B13: refused transfers. -/
theorem test_transfers_refused :
    refusedAs ((kern.withRegs [(5, 0x80000201)]).runWord 0x00A00008) .mips16 = true ∧
    refusedAs (kern.runWord 0x74000400) .mips16 = true ∧
    refusedAs (State.runWord { kern with slot := .fallThrough } 0x1000FFFF) .branchInDelaySlot = true := by decide +kernel

/-- F34, and `bc1f` of a clear condition. -/
theorem test_fp_branches :
    gives (State.runWord { kern with fcsr := 0x00800000 } 0x45050003) (fun t => t.npc) 0x80001008 = true ∧
    gives (State.runWord { kern with fcsr := 0x00800000 } 0x45040003) (fun t => t.npc) 0x80001010 = true ∧
    gives (State.runWord { kern with fcsr := 0x00800000 } 0x45020003) (fun t => t.pc) 0x80001008 = true ∧
    gives (State.runWord { kern with fcsr := 0x00800000 } 0x45030003) (fun t => t.npc) 0x80001010 = true := by decide +kernel

/-! ## Loads and stores -/

/-- The word `0x11223344` at physical `0x1000`, `x[5] = 0x80001000`, `x[4] = 0xAABBCCDD`. -/
def data (big : Bool) : State :=
  let bs : List Byte := if big then [0x11, 0x22, 0x33, 0x44] else [0x44, 0x33, 0x22, 0x11]
  { (kern.withRegs [(5, 0x80001000), (4, 0xAABBCCDD)]).withCfg (fun c => { c with bigEndian := big }) with
    pc := 0x80002000
    npc := 0x80002004
    mem := (List.range 4).map (fun j => (0x1000 + j, bs.getD j 0)) }

def loads (big : Bool) (v : Word × Word) : Bool := gives ((data big).runWord v.1) (fun t => t.readGpr 4) v.2

def stores (big : Bool) (v : Word × Word) : Bool :=
  gives ((data big).runWord v.1) (fun t => (t.memWord 0x1000, t.mem.all (fun c => 0x1000 ≤ c.1 && c.1 < 0x1004))) (v.2, true)

/-- L1 to L3 and the unsigned loads, the byte order of each. -/
theorem test_loads :
    [(0x80A40000, 0x11), (0x80A40003, 0x44), (0x84A40002, 0x3344), (0x90A40001, 0x22), (0x94A40000, 0x1122),
      (0x8CA40000, 0x11223344)].all (loads true) = true ∧
    [(0x80A40000, 0x44), (0x80A40003, 0x11), (0x84A40002, 0x1122), (0x90A40001, 0x33), (0x94A40000, 0x3344),
      (0x8CA40000, 0x11223344)].all (loads false) = true := by decide +kernel

/-- The table of `lwl` and `lwr`, both byte orders. -/
theorem test_partial_loads :
    [(0x88A40000, 0x11223344), (0x88A40001, 0x223344DD), (0x88A40002, 0x3344CCDD), (0x88A40003, 0x44BBCCDD),
      (0x98A40000, 0xAABBCC11), (0x98A40001, 0xAABB1122), (0x98A40002, 0xAA112233), (0x98A40003, 0x11223344)].all
      (loads true) = true ∧
    [(0x88A40000, 0x44BBCCDD), (0x88A40001, 0x3344CCDD), (0x88A40002, 0x223344DD), (0x88A40003, 0x11223344),
      (0x98A40000, 0x11223344), (0x98A40001, 0xAA112233), (0x98A40002, 0xAABB1122), (0x98A40003, 0xAABBCC11)].all
      (loads false) = true := by decide +kernel

/-- L7, L8 and the table of `swl` and `swr`, both byte orders. -/
theorem test_stores :
    [(0xA4A40002, 0x1122CCDD), (0xA0A40000, 0xDD223344), (0xACA40000, 0xAABBCCDD), (0xA8A40000, 0xAABBCCDD),
      (0xA8A40001, 0x11AABBCC), (0xA8A40002, 0x1122AABB), (0xA8A40003, 0x112233AA), (0xB8A40000, 0xDD223344),
      (0xB8A40001, 0xCCDD3344), (0xB8A40002, 0xBBCCDD44), (0xB8A40003, 0xAABBCCDD)].all (stores true) = true ∧
    [(0xA4A40002, 0xCCDD3344), (0xA0A40000, 0x112233DD), (0xACA40000, 0xAABBCCDD), (0xA8A40000, 0x112233AA),
      (0xA8A40001, 0x1122AABB), (0xA8A40002, 0x11AABBCC), (0xA8A40003, 0xAABBCCDD), (0xB8A40000, 0xAABBCCDD),
      (0xB8A40001, 0xBBCCDD44), (0xB8A40002, 0xCCDD3344), (0xB8A40003, 0xDD223344)].all (stores false) = true := by
  decide +kernel

/-- L4 to L6: address errors. -/
theorem test_misaligned : [(0x84A40001, 0x80001001), (0x8CA40002, 0x80001002), (0xACA40001, 0x80001001)].all
    (fun v : Word × Word => gives ((data false).runWord v.1)
      (fun t => (t.pc, t.cp0.badVAddr, t.readGpr 4, t.memWord 0x1000)) (0x80000180, v.2, 0xAABBCCDD, 0x11223344)) = true := by
  decide +kernel

/-- L9: user code and a kernel address. -/
theorem test_user_kernel_address : gives (((data false).withStatus 0x10).runWord 0x8CA40000)
    (fun t => (t.pc, t.cp0.badVAddr, t.cp0.epc)) (0x80000180, 0x80001000, 0x80002000) = true := by decide +kernel

/-- L10, S6: fixed mapping, with and without `ERL`. -/
theorem test_fixed_mapping :
    let s := (kern.withCfg (fun c => { c with mmu := .fmt }))
    let pa := fun (s : State) (va : Word) => match s.translate .load va with
      | .ok r _ => some r.1
      | _ => none
    pa s 0x00001000 = some 0x40001000 ∧ pa s 0x7FFFFFFC = some 0xBFFFFFFC ∧ pa s 0x80001000 = some 0x00001000 ∧
    pa s 0xBFC00000 = some 0x1FC00000 ∧ pa s 0xC0001000 = some 0xC0001000 ∧ pa s 0xFFFFFFFC = some 0xFFFFFFFC ∧
    pa (s.withStatus 4) 0x00001000 = some 0x00001000 := by decide +kernel

/-- A D-cache line at kseg0 `0x80001000`: way 0, set 128, clean, `0x11223344` at its start; `Config[K0] = 3`. -/
def cached : State :=
  let s := data false
  { s with
    cp0 := { s.cp0 with config := (s.cp0.config &&& 0xFFFFFFF8) ||| 3 }
    dcache := (s.dcache.setTag 128 ⟨1, true, false, false⟩).setBytes 32 128 0 [0x44, 0x33, 0x22, 0x11] }

/-- L11: `ll` then `sc`. -/
theorem test_ll_sc : gives (match (cached.withRegs [(6, 7)]).runWord 0xC0A40000 with
      | .next t => t.runWord 0xE0A60000
      | o => o)
    (fun t => (t.readGpr 4, t.readGpr 6, t.llBit, t.dcache.bytes 32 128 0 4)) (0x11223344, 1, false, [7, 0, 0, 0]) = true := by
  decide +kernel

/-- L13, L14. -/
theorem test_sc_fails_ll_uncached :
    gives ((cached.withRegs [(6, 7)]).runWord 0xE0A60000) (fun t => (t.readGpr 6, t.dcache.bytes 32 128 0 4))
      (0, [0x44, 0x33, 0x22, 0x11]) = true ∧
    refusedAs (((data false).withRegs [(5, 0xA0001000)]).runWord 0xC0A40000) .llscUncached = true := by decide +kernel

/-- L15, L16, L17, L19. -/
theorem test_pref_cache_sync :
    gives (((kern.withStatus 0x10).withRegs [(5, 1)]).runWord 0xCCA00000) (fun t => (t.pc, t.excCount)) (0x80001004, 0) = true ∧
    gives (kern.runWord 0xCCBF0000) (fun t => t.pc) 0x80001004 = true ∧
    gives (kern.runWord 0x0000014F) (fun t => t.pc) 0x80001004 = true := by decide +kernel

/-- L18 and R519: an address error, and a dirty line written back. -/
theorem test_synci :
    gives (((kern.withStatus 0x10).withRegs [(5, 0x80001234)]).runWord 0x04BF0000)
      (fun t => (t.pc, t.cp0.badVAddr)) (0x80000180, 0x80001234) = true ∧
    gives (State.runWord { cached with dcache := (cached.dcache.setTag 128 ⟨1, true, true, false⟩), mem := [] } 0x04BF0000)
      (fun t => (t.memWord 0x1000, (t.dcache.tag 128).d)) (0x11223344, false) = true := by decide +kernel

/-- R515, R516: hint 25 on an uncached address writes a present line back and removes it. -/
theorem test_nudge_uncached : gives (State.runWord { cached.withRegs [(5, 0xA0001000)] with
      dcache := (cached.dcache.setTag 128 ⟨1, true, true, false⟩), mem := [] } 0xCCB90000)
    (fun t => (t.memWord 0x1000, (t.dcache.tag 128).v)) (0x11223344, false) = true := by decide +kernel

/-- R244: a cached load that misses on the gathered line finds the gathered word. -/
theorem test_load_flushes_gathered : gives (State.runWord { cached with
      dcache := Cache.empty, gather := some ⟨0x1000, [(0x1000, 1), (0x1001, 2), (0x1002, 3), (0x1003, 4)]⟩ } 0x8CA40000)
    (fun t => (t.readGpr 4, t.gather)) (0x04030201, none) = true := by decide +kernel

/-- R251, D17: a write of another bus master inside the linked block clears the link bit, one outside it does not. -/
theorem test_bus_master_unlinks :
    let s : State := { cached with llBit := true, llBlock := 0x1000 }
    (applyEvent (.dmaWrite 0x1004 1) s).llBit = false ∧ (applyEvent (.dmaWrite 0x2000 1) s).llBit = true := by decide +kernel

/-- R246: a load whose read fails goes on; the bus error is pending. -/
theorem test_failed_load : gives (State.runWord { (data false).withRegs [(5, 0xA0001000)] with
      inputs := { (data false).inputs with failData := true } } 0x8CA40000)
    (fun t => (t.pc, t.pendDBE.length)) (0x80002004, 1) = true := by decide +kernel

/-- R246: a read from a device range that is answered with an error is a bus error, and no fault. -/
theorem test_failed_device_load :
    let s := ((data false).withRegs [(5, 0xA0001000)]).withCfg (fun c => { c with physMap := [⟨0, 0x20000000, .device⟩] })
    gives (State.runWord { s with inputs := { s.inputs with failData := true } } 0x8CA40000)
      (fun t => (t.pc, t.pendDBE.length)) (0x80002004, 1) = true := by decide +kernel

/-- R514: an `sc` whose line refill is answered with an error stores and writes 1 all the same; the error is pending. -/
theorem test_sc_failed_refill : gives (State.runWord { cached.withRegs [(6, 7)] with
      dcache := Cache.empty, llBit := true, llBlock := 0x1000, inputs := { cached.inputs with failData := true } } 0xE0A60000)
    (fun t => (t.readGpr 6, t.memWord 0x1000, t.pendDBE.length)) (1, 7, 1) = true := by decide +kernel

/-- R270: where both scratchpads have an address a load reads the DSPRAM and a fetch the ISPRAM; a fetch from the DSPRAM
alone is refused (U30). -/
theorem test_both_scratchpads :
    let s : State := { (data false).withCfg (fun c => { c with hasISPRAM := true, hasDSPRAM := true }) with
      ispram := ⟨[(0, 5)], 0x00001080, 0x00001000⟩, dspram := ⟨[(0, 9)], 0x00001080, 0x00002000⟩ }
    gives (s.runWord 0x8CA40000) (fun t => t.readGpr 4) 9 = true ∧
    (match s.fetchPart 0x80001000 0x1000 3 with
      | .ok bs _ => bs = some [5, 0, 0, 0]
      | _ => false) = true ∧
    (match s.fetchPart 0x80002000 0x2000 3 with
      | .ref r => r = .spramCrossSide
      | _ => false) = true := by decide +kernel

/-- R974: what a producer other than `mtc0` wrote is old for its own consumer only. -/
theorem test_producers :
    let h : Producer → CpReg → Hazard := fun p r => ⟨.reg p r allOnes 0, true, true⟩
    (h .readBack .index).mask .tlbOp = 0 ∧ (h .readBack .index).mask .readReg = 0xFFFFFFFF ∧
    (h .readBack .entryHi).mask .data = 0 ∧ (h .mtc0 .entryHi).mask .data = 0xFF ∧
    (h .readBack .tagLo0).mask .cacheOp = 0 ∧ (h .mtc0 .tagLo0).mask .cacheOp = 0xFFFFFFFF ∧
    (h .irqEnable .status).mask .readReg = 0 ∧ (h .irqEnable .status).mask .interrupt = 1 ∧
    (h .mtc0 .status).mask .perf = 0x1E := by decide

/-- R970: what a newer producer left new stays new in exactly the bits it wrote. The new `PD` of Index Load Tag does not
hide an old `WST`, a write of `Cause` not an old `TI`, a new tag not the old bytes. -/
theorem test_hazards_apart :
    let s : State := { State.reset with cp0 := { State.reset.cp0 with errCtl := 0x20000005, cause := 0x40800000 } }
    let old : State := { State.reset with cp0 := { State.reset.cp0 with errCtl := 0x10000003 } }
    (HazardOld.keep (.reg .readBack .errCtl (parityBits State.reset.cfg true) 0) s old).cp0.errCtl = 0x10000005 ∧
    (HazardOld.keep (.reg .mtc0 .cause (cpWrote State.reset.cfg .cause 0x00C00000) 0) s old).cp0.cause = 0x00800000 ∧
    (let c : Cache := { State.reset.icache with tags := [(0, ⟨5, true, false, false⟩)], data := [(0, 1), (8, 2)] }
     let d : Cache := { State.reset.icache with tags := [(0, ⟨6, true, false, false⟩)], data := [(0, 3), (8, 4)] }
     LinePart.tag.keep 0 32 c d = { d with tags := c.tags } ∧
     (LinePart.dword 8).keep 0 32 c d = { d with data := [(0, 3), (8, 2)] } ∧
     LinePart.line.keep 0 32 c d = c) := by decide +kernel

/-- R577, R812: with a controller fitted and compatibility mode in force an unmasked software request wakes the core; in
EIC mode the level alone does. -/
theorem test_wakes :
    let s : State := { kern.withCfg (fun c => { c with eicPresent := true }) with
      cp0 := { kern.cp0 with status := 0x100, cause := 0x100, intCtl := 0x20 } }
    s.wakeRequest = true ∧
    State.wakeRequest { s with cp0 := { s.cp0 with status := 0x200 } } = false ∧
    State.wakeRequest { s with cp0 := { s.cp0 with cause := 0x00800100 } } = false := by decide +kernel

/-- R916: an off trigger keeps trace off when software then clears every `TE`; before any trigger trace is on. -/
theorem test_trigger_off :
    State.reset.dbg.tracingNow = true ∧ (State.reset.dbg.applyTriggers 0 []).tracingNow = true ∧
    (State.reset.dbg.applyTriggers 0 [0]).tracingNow = false ∧ (State.reset.dbg.applyTriggers 0 [1]).tracingNow = true := by
  decide +kernel

/-- R926, D46: branches and `jr $31` are events 2 and 3 of counter 0, and not the environment's. -/
theorem test_branch_events :
    instrEvent false 2 (instrInfo (.beq 1 2 0)) false = true ∧ instrEvent false 2 (instrInfo (.bc1tl 0 0)) false = true ∧
    instrEvent false 2 (instrInfo (.j 0)) false = false ∧ instrEvent false 3 (instrInfo (.jr 31)) false = true ∧
    instrEvent false 3 (instrInfo (.jr 30)) false = false ∧ microEvent false 2 = false ∧ microEvent false 3 = false ∧
    microEvent true 2 = true := by decide

/-- D33: a load through a reserved code is refused; a cache operation is no such access
(log 30). -/
theorem test_reserved_code :
    let s : State := { cached with cp0 := { cached.cp0 with config := (cached.cp0.config &&& 0xFFFFFFF8) ||| 4 } }
    refusedAs (s.runWord 0x8CA40000) .reservedCacheability = true ∧
    gives (s.runWord 0xBCB50000) (fun t => (t.dcache.tag 128).v) false = true := by decide +kernel

/-- R521: Index Store Tag of the D-cache, Hit Writeback Invalidate. -/
theorem test_cache_ops :
    gives (State.runWord { cached with cp0 := { cached.cp0 with tagLo1 := 0x00005080 } } 0xBCA90000)
      (fun t => t.dcache.tag 128) ⟨5, true, false, false⟩ = true ∧
    gives (State.runWord { cached with dcache := (cached.dcache.setTag 128 ⟨1, true, true, false⟩), mem := [] } 0xBCB50000)
      (fun t => (t.memWord 0x1000, (t.dcache.tag 128).v)) (0x11223344, false) = true := by decide +kernel

/-- R140, R143: Index Store Tag of the way-select RAM; parity forced by Index Store Data and read by Index Load Tag. -/
theorem test_cache_test_modes :
    gives (State.runWord { cached with cp0 := { cached.cp0 with tagLo1 := 0x000AFC00, errCtl := 0x20000000 } } 0xBCA90000)
      (fun t => ((t.dcache.tag 128).d, (t.dcache.tag 384).d, (t.dcache.tag 896).d, sparseGet none t.dcache.lru 128))
      (false, true, true, some 0x3F) = true ∧
    gives (State.runWord { cached with cp0 := { cached.cp0 with dataLo1 := 7, errCtl := 0x40000005 } } 0xBCAD0000)
      (fun t => (t.dcache.bytes 32 128 0 4, sparseGet none t.dcache.dataP 1024)) ([7, 0, 0, 0], some 5) = true ∧
    gives (State.runWord { cached with dcache :=
        { cached.dcache with dataP := [(1024, some 5)] } } 0xBCA50000)
      (fun t => (t.cp0.errCtl, t.cp0.dataLo1)) (5, 0x11223344) = true := by decide +kernel

/-- L21: reversed byte order of user code; the word reads as `0x11223344` in the order of the access. -/
theorem test_reversed_bytes :
    let page : TlbPage := ⟨1, 2, true, true⟩
    gives (State.runWord { ((data false).withRegs [(5, 0x00002000)]).withStatus 0x02000010 with
        mem := (data true).mem
        tlb := (data false).tlb.set 0 ⟨1, 0, true, 0, page, page⟩ } 0x80A40000) (fun t => t.readGpr 4) 0x11 = true := by
  decide +kernel

/-- R891: in debug mode the core runs what the probe supplies in dmseg, and waits while the probe does not answer. -/
theorem test_dmseg_fetch :
    let s : State := { kern.at_ 0xFF200200 with
      cp0 := { kern.cp0 with debug := 0x42010000 }
      dbg := { kern.dbg with ejtagControl := 0x0000C000, probeReplies := [0x24040007] } }
    gives (step s) (fun t => (t.readGpr 4, t.pc)) (7, 0xFF200204) = true ∧
    gives (step { s with dbg := { s.dbg with probeAnswers := false } })
      (fun t => (t.pc, t.dbg.ejtagControl.getLsbD 18, t.dbg.ejtagAddress)) (0xFF200200, true, 0xFF200200) = true := by
  decide +kernel

/-! ## System instructions and CP0 -/

/-- Y1, Y2, Y3: `syscall` in a delay slot, at exception level, `break` with `BEV`. -/
theorem test_syscall_break :
    gives (State.runWord { (kern.withStatus 1).at_ 0x80001008 with slot := .jump false } 0x0000000C)
      (fun t => (t.cp0.epc, t.cp0.status, t.pc)) (0x80001004, 3, 0x80000180) = true ∧
    gives (State.runWord { kern with cp0 := { kern.cp0 with status := 2, epc := 0x11111110 } } 0x0000000C)
      (fun t => (t.cp0.epc, t.pc)) (0x11111110, 0x80000180) = true ∧
    gives ((kern.withStatus 0x00400000).runWord 0x0007000D) (fun t => t.pc) 0xBFC00380 = true := by decide +kernel

/-- Y1 to Y4, E11, X4, F4, F31: which exception. -/
theorem test_which_exception :
    kern.runWord 0x0000000C = kern.raise .sys ∧ kern.runWord 0x0007000D = kern.raise .bp ∧
    kern.runWord 0x00800034 = kern.raise .tr ∧ kern.runWord 0xFC000000 = kern.raise .ri ∧
    kern.runWord 0x70A62010 = kern.raise .ceu ∧ kern.runWord 0x7000003F = kern.raise .sdbbp ∧
    kern.runWord 0x4200001F = kern.raise .ri ∧ kern.runWord 0x7C02203B = kern.raise .ri :=
  ⟨rfl, rfl, rfl, rfl, rfl, rfl, rfl, rfl⟩

/-- The codes of R785. -/
theorem test_codes : [(Exc.int, 0), (.tlbMod 0, 1), (.tlbRefill false 0, 2), (.tlbRefill true 0, 3), (.tlbInvalid false 0, 2),
    (.addrError false 0, 4), (.addrError true 0, 5), (.ibe, 6), (.dbe, 7), (.sys, 8), (.bp, 9), (.ri, 10), (.cpu 1, 11), (.ov, 12),
    (.tr, 13), (.fpe, 15), (.is1, 16), (.ceu, 17), (.c2e, 18), (.watch, 23), (.mcheck, 24)].all
    (fun p : Exc × BitVec 5 => p.1.code = p.2) = true := by decide

/-- Y4, Y5 and the other trap forms, on operands where signed and unsigned comparison differ. -/
theorem test_traps :
    ([0x00A60030, 0x00A60033, 0x00A60036, 0x00C60034, 0x04AA8000, 0x04AE0001, 0x04A80000, 0x04AC0000, 0x04CA0000,
      0x04C90001, 0x04AB0001, 0x00C50032] : List Word).all (fun w =>
      gives ((kern.withRegs [(5, 0), (6, 0x80000000)]).runWord w) (fun t => t.pc)
        (if w = 0x04AA8000 then 0x80001004 else 0x80000180)) = true ∧
    ([0x00A60031, 0x00A60032, 0x04AA0000, 0x04AC0001, 0x04AE0000, 0x04CB0001, 0x00C50033, 0x00C50030] : List Word).all (fun w =>
      gives ((kern.withRegs [(5, 0), (6, 0x80000000)]).runWord w) (fun t => t.pc) 0x80001004) = true ∧
    gives ((kern.withRegs [(3, 0xFFFFFFFE)]).runWord 0x0469FFFF) (fun t => t.pc) 0x80001004 = true := by decide +kernel

/-- Y6 to Y8, S7: `mfc0`. -/
theorem test_mfc0 :
    gives ((kern.withStatus 0x10).runWord 0x40026000) (fun t => (excCode t, t.cp0.cause.extractLsb' 28 2)) (11, 0) = true ∧
    gives ((kern.withStatus 0x10000010).runWord 0x40026000) (fun t => t.readGpr 2) 0x10000010 = true ∧
    gives ((kern.withRegs [(2, 5)]).runWord 0x4002B000) (fun t => (t.readGpr 2, t.pc)) (0, 0x80001004) = true ∧
    gives (kern.runWord 0x40027800) (fun t => t.readGpr 2) 0x00019300 = true := by decide +kernel

/-- Y9: a write of `Status` stores the writable bits. -/
theorem test_mtc0_status :
    gives (((kern.withStatus 0).withRegs [(2, 0xFFFDFFE7)]).runWord 0x40826000) (fun t => t.cp0.status) 0x7E40FF07 = true := by
  decide +kernel

/-- E15: a write of `Compare` clears the timer interrupt. -/
theorem test_mtc0_compare :
    gives (State.runWord { kern with cp0 := { kern.cp0 with cause := 0x40000000 } } 0x40805800) (fun t => (t.ti, t.cp0.compare)) (false, 0) = true := by
  decide +kernel

/-- Y10, Y11: `di`, `ei`. -/
theorem test_di_ei :
    gives ((kern.withStatus 0xFF01).runWord 0x41626000) (fun t => (t.readGpr 2, t.cp0.status)) (0xFF01, 0xFF00) = true ∧
    gives ((kern.withStatus 0xFF00).runWord 0x41626020) (fun t => (t.readGpr 2, t.cp0.status)) (0xFF00, 0xFF01) = true ∧
    gives ((kern.withStatus 0x10).runWord 0x41626020) (fun t => excCode t) 11 = true := by decide +kernel

/-- Y12 to Y14: `eret`. -/
theorem test_eret :
    let s := fun (st : Word) => { kern with cp0 := { kern.cp0 with status := st, errorEPC := 0x80002000, epc := 0x80003000 } }
    gives ((s 6).runWord 0x42000018) (fun t => (t.pc, t.cp0.status)) (0x80002000, 2) = true ∧
    gives ((s 2).runWord 0x42000018) (fun t => (t.pc, t.cp0.status)) (0x80003000, 0) = true ∧
    gives ((s 0x10).runWord 0x42000018) (fun t => excCode t) 11 = true ∧
    refusedAs (State.runWord { kern with cp0 := { kern.cp0 with epc := 0x80001001 } } 0x42000018) .mips16 = true := by
  decide +kernel

/-- L12: an `eret` ends the reservation. -/
theorem test_eret_clears_link :
    gives (State.runWord { kern with llBit := true } 0x42000018) (fun t => t.llBit) false = true := by decide +kernel

/-- Y15 to Y17, S8, S11: `deret` outside debug mode, `rdhwr`. -/
theorem test_deret_rdhwr :
    gives (kern.runWord 0x7C02083B) (fun t => t.readGpr 2) 32 = true ∧
    gives (kern.runWord 0x7C02183B) (fun t => t.readGpr 2) 2 = true ∧
    gives ((kern.withStatus 0x10).runWord 0x7C02003B) (fun t => t.pc) 0x80000180 = true ∧
    gives (State.runWord { kern with cp0 := { kern.cp0 with status := 0x10, hwrena := 1 } } 0x7C02003B)
      (fun t => (t.readGpr 2, t.pc)) (0, 0x80001004) = true := by decide +kernel

/-- Y18, Y19: `tlbwi` on a fixed-mapping core, and with an index outside the TLB. -/
theorem test_tlbwi_bounds :
    gives ((kern.withCfg (fun c => { c with mmu := .fmt })).runWord 0x42000002) (fun t => t.pc) 0x80000180 = true ∧
    refusedAs ((State.runWord { kern with cp0 := { kern.cp0 with index := 15 } } 0x42000002)) .tlbIndexRange = false ∧
    refusedAs ((State.runWord { kern.withCfg (fun c => { c with tlbEntries := 12 }) with
      cp0 := { kern.cp0 with index := 12 } } 0x42000002)) .tlbIndexRange = true := by decide +kernel

/-- Y21, Y22: `wait` sleeps; `rdpgpr` with one register set. -/
theorem test_wait_rdpgpr :
    gives (kern.runWord 0x42000020) (fun t => t.sleeping) true = true ∧
    gives (((kern.withCfg (fun c => { c with numShadowSets := 1 })).withRegs [(3, 9)]).runWord 0x41431000)
      (fun t => t.readGpr 2) 9 = true ∧
    gives ((kern.withRegs [(3, 9)]).runWord 0x41C31000) (fun t => t.readSet 0 2) 9 = true := by decide +kernel

/-- R589 to R591. -/
theorem test_nops : ([0, 0x40, 0xC0] : List Word).all (fun w => gives (kern.runWord w) (fun t => t.pc) 0x80001004) = true := by
  decide +kernel

/-! ## The TLB -/

/-- T1's entry, in entry 2. -/
def paged (asid : Word) : State := { kern with
  cp0 := { kern.cp0 with entryHi := asid }
  tlb := kern.tlb.set 2 ⟨0x200, 5, false, 0, ⟨0x100, 2, true, true⟩, ⟨0x101, 2, false, true⟩⟩ }

def physical (s : State) (k : AccKind) (va : Word) : Option Word := match s.translate k va with
  | .ok r _ => some r.1
  | _ => none

/-- T1, T2, T8. -/
theorem test_tlb_hits : physical (paged 5) .load 0x00400ABC = some 0x00100ABC ∧ physical (paged 5) .load 0x00401ABC = some 0x00101ABC ∧
    physical ((paged 5).withStatus 4) .load 0x00001000 = some 0x00001000 := by decide +kernel

/-- T3, T4: the refill, outside and inside exception level. -/
theorem test_tlb_refill :
    gives (((paged 6).withRegs [(5, 0x00400ABC)]).runWord 0x8CA40000)
      (fun t => (t.cp0.badVAddr, t.cp0.entryHi, t.cp0.context, t.pc)) (0x00400ABC, 0x00400006, 0x2000, 0x80000000) = true ∧
    gives ((((paged 6).withStatus 2).withRegs [(5, 0x00400ABC)]).runWord 0x8CA40000) (fun t => t.pc) 0x80000180 = true := by
  decide +kernel

/-- L20: a store to a page that is not dirty. -/
theorem test_tlb_modified : gives (((paged 5).withRegs [(5, 0x00401ABC)]).runWord 0xACA40000) (fun t => t.pc) 0x80000180 = true := by
  decide +kernel

/-- T5 and T7 with 16-Kbyte pages. -/
theorem test_tlb_large_page :
    let s := { kern with tlb := kern.tlb.set 2 ⟨0x200, 0, true, 3, ⟨0x400, 2, true, true⟩, ⟨0x500, 2, true, false⟩⟩ }
    physical s .load 0x00403ABC = some 0x00403ABC ∧
    gives ((s.withRegs [(5, 0x00404000)]).runWord 0x8CA40000) (fun t => t.pc) 0x80000180 = true := by
  decide +kernel

/-- T9: supervisor code. -/
theorem test_supervisor :
    let s := { kern.withStatus 8 with tlb := kern.tlb.set 2 ⟨0x60000, 0, true, 0, ⟨0x100, 2, true, true⟩, ⟨0x101, 2, true, true⟩⟩ }
    physical s .load 0xC0000000 = some 0x00100000 ∧ physical s .load 0xE0000000 = none ∧ physical s .load 0x80000000 = none := by
  decide +kernel

/-- T12: a duplicate. -/
theorem test_tlb_duplicate :
    gives (State.runWord { paged 5 with cp0 := { (paged 5).cp0 with index := 3, entryHi := 0x00400005, entryLo0 := 2 } } 0x42000002)
      (fun t => (t.cp0.status.getLsbD 21, t.tlb)) (true, (paged 5).tlb) = true := by decide +kernel

/-- R585 to R588: read an entry, probe. -/
theorem test_tlb_instructions :
    let s := { paged 5 with cp0 := { (paged 5).cp0 with index := 2, entryHi := 0x00400005 } }
    gives (State.runWord { s with cp0 := { s.cp0 with entryHi := 0 } } 0x42000001)
      (fun t => (t.cp0.entryHi, t.cp0.entryLo0, t.cp0.entryLo1)) (0x00400005, 0x4016, 0x4052) = true ∧
    gives (State.runWord { s with cp0 := { s.cp0 with index := 0 } } 0x42000008) (fun t => t.cp0.index) 2 = true := by
  decide +kernel

/-! ## Exceptions, interrupts, debug, reset -/

/-- The word of hardware inputs, the vector spacing. -/
def hooked (status cause intCtl : Word) (ip : BitVec 6) : State := { kern.at_ 0x80001010 with
  cp0 := { kern.cp0 with status := status, cause := cause, intCtl := intCtl }
  inputs := { kern.inputs with hwInt := ip } }

/-- E1 to E4, E9: the interrupt, its vectors, its masks. -/
theorem test_interrupts :
    gives (step (hooked 0x8401 0 0 1)) (fun t => (t.cp0.epc, t.cp0.status, t.pc)) (0x80001010, 0x8403, 0x80000180) = true ∧
    gives (step (hooked 0x8401 0x00800000 0 1)) (fun t => t.pc) 0x80000200 = true ∧
    gives (step (hooked 0x8001 0 0 1)) (fun t => t.pc) 0x80001014 = true ∧
    gives (step (hooked 0x8400 0 0 1)) (fun t => t.pc) 0x80001014 = true ∧
    gives (step (hooked 0x00408401 0x00800000 0 1)) (fun t => t.pc) 0xBFC00400 = true := by decide +kernel

/-- E5, E6: vectored interrupts. -/
theorem test_vectored :
    gives (step (hooked 0x8401 0x00800000 0x20 0x21)) (fun t => t.pc) 0x800002E0 = true ∧
    gives (step (hooked 0x0101 0x00800100 0x20 0)) (fun t => t.pc) 0x80000200 = true := by decide +kernel

/-- E7, E8: the external controller. -/
theorem test_eic :
    let s := fun (status : Word) => { (hooked status 0x00800000 0x40 0).withCfg (fun c => { c with eicPresent := true }) with
      inputs := { kern.inputs with eicRIPL := 5, eicSS := 1 } }
    gives (step (s 0x0C01)) (fun t => (t.pc, t.cp0.srsCtl.extractLsb' 18 4, t.css)) (0x80000340, 1, 1) = true ∧
    gives (step (s 0x1401)) (fun t => t.pc) 0x80001014 = true := by decide +kernel

/-- E11: a reserved word is fetched and run. -/
theorem test_reserved_instruction :
    gives (step (State.reset.withFetchWord 32 0xFC000000)) (fun t => (t.pc, t.cp0.epc)) (0xBFC00380, 0xBFC00000) = true := by decide +kernel

/-- E12: NMI. -/
theorem test_nmi : gives ((kern.withStatus 1).at_ 0x80001234).takeNmi
    (fun t => (t.cp0.errorEPC, t.cp0.status, t.pc, t.cp0.epc)) (0x80001234, 0x00480005, 0xBFC00000, 0) = true := by decide +kernel

/-- E13: shadow register sets. -/
theorem test_shadow_sets :
    let s := { kern with cp0 := { kern.cp0 with srsCtl := 0x0C001000 } }
    gives (s.runWord 0x0000000C) (fun t => (t.css, t.pss)) (1, 0) = true ∧
    gives (match s.runWord 0x0000000C with
      | .next t => t.runWord 0x42000018
      | o => o) (fun t => t.css) 0 = true := by decide +kernel

/-- R886, R887: what `Debug` deferred comes before an interrupt, the cache error first. -/
theorem test_deferred_first : gives (step { hooked 0x8401 0 0 1 with
      cp0 := { (hooked 0x8401 0 0 1).cp0 with debug := 0x02610000 } })
    (fun t => (t.pc, t.cp0.errorEPC, (t.cp0.debug).extractLsb' 21 2)) (0xA0000100, 0x80001010, 1) = true := by decide +kernel

/-- R907: writing `PrAcc` with 0 clears it; `ProbEn` stays. -/
theorem test_probe_access : ejtagControlWrite 0x00048000 0x00008000 = 0x00008000 ∧
    ejtagControlWrite 0x00048000 0x0004C000 = 0x0004C000 := by decide

/-- E14: a tick of the timer. -/
theorem test_timer :
    let t := applyEvent .countTick { kern with cp0 := { kern.cp0 with count := 0xFFF, compare := 0x1000, intCtl := 0xE0000000 } }
    t.cp0.count = 0x1000 ∧ t.ti = true ∧ t.ip.getLsbD 7 = true := by decide +kernel

/-- G1, G2, Y23, G3's first half: debug entry and return. -/
theorem test_debug :
    gives (kern.runWord 0x7000003F) (fun t => (t.cp0.depc, t.pc, t.cp0.epc)) (0x80001000, 0xBFC00480, 0) = true ∧
    gives (State.runWord { kern with slot := .jump false } 0x7000003F) (fun t => t.cp0.depc) 0x80000FFC = true ∧
    (let d := { kern with cp0 := { kern.cp0 with debug := 0x42010000, depc := 0x80005000 } };
      gives (d.runWord 0x7000003F) (fun t => (t.cp0.depc, (t.cp0.debug).extractLsb' 10 5, t.dm)) (0x80001000, 9, true) = true ∧
      gives (d.runWord 0x4200001F) (fun t => (t.pc, t.dm)) (0x80005000, false) = true) := by decide +kernel

/-- G5, G6: instruction breakpoints stop the fetch. -/
theorem test_instruction_break :
    ([0, 0x00000FFC] : List Word).all (fun m =>
      match State.fetchWord { kern with dbg := { kern.dbg with ib := kern.dbg.ib.set 0 ⟨0x80001000, m, 0, 1⟩ } } 0x80001000 with
      | .exc e t => e = .debug 0x10 && t.dbg.ibs.getLsbD 0
      | _ => false) = true := by decide +kernel

/-- G8, G9, G10: the debug segment, `DEPC` outside debug mode, an address error in debug mode. -/
theorem test_debug_mode :
    let d := { kern.withRegs [(5, 0xFF300000)] with cp0 := { kern.cp0 with debug := 0x42010000 } }
    gives (d.runWord 0x8CA40000) (fun t => t.readGpr 4 &&& 0x11) 0x10 = true ∧
    refusedAs (kern.runWord 0x4082C000) .debugRegisterWrite = true ∧
    gives (d.runWord 0x8CA40002) (fun t => ((t.cp0.debug).extractLsb' 10 5, t.pc, t.cp0.badVAddr)) (4, 0xBFC00480, 0) = true := by
  decide +kernel

/-- E10, R921: a data watchpoint before an address error, also on the second doubleword of a misaligned load. -/
theorem test_watch :
    gives (State.runWord { data false with cp0 := { (data false).cp0 with
        watchLo := (data false).cp0.watchLo.set 2 0x80001002
        watchHi := (data false).cp0.watchHi.set 2 0x40000000 } } 0x8CA40002) (fun t => (t.pc, t.cp0.badVAddr)) (0x80000180, 0) = true ∧
    gives (State.runWord { data false with cp0 := { (data false).cp0 with
        watchLo := (data false).cp0.watchLo.set 2 0x80001002
        watchHi := (data false).cp0.watchHi.set 2 0x40000000 } } 0x8CA4FFFE) (fun t => (t.pc, t.cp0.badVAddr)) (0x80000180, 0) = true := by decide +kernel

/-- Z1 to Z6. -/
theorem test_reset : State.reset.pc = 0xBFC00000 ∧ State.reset.bev = true ∧ State.reset.erl = true ∧
    State.reset.cp0.config.extractLsb' 0 3 = 2 ∧ State.reset.cp0.ebase = 0x80000000 ∧ State.reset.cp0.hwrena = 0 ∧
    State.reset.cp0.wired = 0 ∧ State.reset.css = 0 ∧ State.reset.dcrInte = true ∧ State.reset.dcrNmie = true := by decide +kernel

/-- The first instruction after reset, placed at the boot address. -/
theorem test_first_instruction :
    gives (step (State.reset.withFetchWord 32 0x24048000)) (fun t => (t.pc, t.readGpr 4)) (0xBFC00004, 0xFFFF8000) = true := by
  decide +kernel

/-! ## Floating point -/

/-- `f[2][31:0]` and `FCSR` after a word, from `f[4]`, `f[6]`, `f[8]` and `FCSR`. -/
def fpState (c a b : Word) : State := { kern with
  fcsr := c
  fpr := ((kern.fpr.set 4 (a.setWidth 64)).set 6 (b.setWidth 64)).set 8 0xBF800002 }

def fpOk (v : Word × Word × Word × Word × Word × Word) : Bool :=
  gives ((fpState v.2.1 v.2.2.1 v.2.2.2.1).runWord v.1) (fun t => ((t.fpr.get 2).extractLsb' 0 32, t.fcsr, t.excCount))
    (v.2.2.2.2.1, v.2.2.2.2.2, 0)

/-- F1 to F3, F5, F8, F15, F32: add, divide, multiply-add. -/
theorem test_fp_add_div : [(0x46062080, 0, 0x7F7FFFFF, 0x7F7FFFFF, 0x7F800000, 0x00005014),
    (0x46062080, 1, 0x7F7FFFFF, 0x7F7FFFFF, 0x7F7FFFFF, 0x00005015), (0x46062083, 0, 0x3F800000, 0, 0x7F800000, 0x00008020),
    (0x46062083, 0, 0, 0, 0x7FBFFFFF, 0x00010040), (0x46062080, 0, 0x7FC00000, 0x3F800000, 0x7FBFFFFF, 0x00010040),
    (0x46062080, 0x00400000, 1, 0x3F800000, 0x3F800000, 0x00400000),
    (0x4D0620A0, 0, 0x3F800001, 0x3F800001, 0, 0x00001004)].all fpOk = true := by decide +kernel

/-- R625, R629: an invalid product gives the default quiet NaN, whatever NaN the addend is. -/
theorem test_fp_invalid_product : gives (State.runWord { fpState 0 0 0x7F800000 with
      fpr := (fpState 0 0 0x7F800000).fpr.set 8 0x7FC00001 } 0x4D0620A0)
    (fun t => ((t.fpr.get 2).extractLsb' 0 32, t.fcsr)) (0x7FBFFFFF, 0x00010040) = true := by decide +kernel

/-- F6, F7, F16, F11 to F13: square root, negate, flushed results. -/
theorem test_fp_sqrt_flush : [(0x46002084, 0, 0xBF800000, 0, 0x7FBFFFFF, 0x00010040), (0x46002084, 0, 0x80000000, 0, 0x80000000, 0),
    (0x46002084, 0, 0x40800000, 0, 0x40000000, 0), (0x46002087, 0, 1, 0, 0x80000001, 0), (0x46002085, 0, 0xBF800000, 0, 0x3F800000, 0),
    (0x46062082, 0x01000000, 0x00800000, 0x3F400000, 0, 0x0100300C), (0x46062082, 0x01000002, 0x00800000, 0x3F400000, 0x00800000, 0x0100300E),
    (0x46062082, 0x01600000, 0x00800000, 0x3F400000, 0x00800000, 0x0160300C),
    (0x46062081, 0, 0x40400000, 0x3F800000, 0x40000000, 0)].all fpOk = true := by decide +kernel

/-- F17 to F21: conversions. -/
theorem test_fp_convert : [(0x460020A4, 0, 0x4F000000, 0, 0x7FFFFFFF, 0x00010040), (0x460020A4, 0, 0xCF000000, 0, 0x80000000, 0),
    (0x4600208D, 0, 0x7FA00000, 0, 0x7FFFFFFF, 0x00010040), (0x4600208C, 0, 0x3F000000, 0, 0, 0x00001004),
    (0x4600208C, 0, 0x3FC00000, 0, 2, 0x00001004), (0x4600208C, 0, 0x40200000, 0, 2, 0x00001004),
    (0x4600208E, 0, 0x3F000000, 0, 1, 0x00001004), (0x4600208F, 0, 0xBF000000, 0, 0xFFFFFFFF, 0x00001004),
    (0x468020A0, 0, 0x7FFFFFFF, 0, 0x4F000000, 0x00001004), (0x46002086, 0, 0x7FC00000, 0, 0x7FC00000, 0)].all fpOk = true := by
  decide +kernel

/-- F4, F10, F14, F29, F30: Floating Point and Coprocessor Unusable exceptions. -/
theorem test_fp_exceptions :
    [(0x46062083, 0x400, 0x3F800000, 0, 0x8400), (0x46062082, 0, 0x00800000, 0x3F400000, 0x20000),
      (0x46062080, 0, 1, 0x3F800000, 0x20000)].all (fun v : Word × Word × Word × Word × Word =>
      gives ((fpState v.2.1 v.2.2.1 v.2.2.2.1).runWord v.1) (fun t => (t.pc, t.fcsr, t.fpr.get 2)) (0x80000180, v.2.2.2.2, 0)) = true ∧
    gives ((kern.withStatus 0).runWord 0x46062080) (fun t => (excCode t, t.cp0.cause.extractLsb' 28 2)) (11, 1) = true ∧
    gives ((kern.withCfg (fun c => { c with hasFPU := false })).runWord 0x46062080) (fun t => excCode t) 11 = true := by decide +kernel

/-- F22 and doubles under `FR = 0`; F26, F27 refused. -/
theorem test_fp_double :
    gives ((fpState 0 0x7F800000 0).runWord 0x460020A1) (fun t => t.readFprD 2) 0x7FF0000000000000 = true ∧
    gives (State.runWord { fpState 0 0 0 with fpr := ((kern.fpr.set 5 0x3FF80000).set 7 0x40000000) } 0x46262082)
      (fun t => t.readFprD 2) 0x4008000000000000 = true ∧
    refusedAs (kern.runWord 0x462620C0) .oddFpRegister = true ∧ refusedAs (kern.runWord 0x460020A5) .fr0LongFormat = true := by
  decide +kernel

/-- F23 to F25: compares. -/
theorem test_fp_compare : [(0x46062032, 0, 0x80000000, 0x00800000), (0x46062335, 0x7FA00000, 0x3F800000, 0x08000000),
    (0x4606203E, 0x7FA00000, 0x3F800000, 0x00010040), (0x4606203C, 0x3F800000, 0x40000000, 0x00800000)].all
    (fun v : Word × Word × Word × Word => gives ((fpState 0 v.2.1 v.2.2.1).runWord v.1) (fun t => t.fcsr) v.2.2.2) = true := by
  decide +kernel

/-- F28, F31, F35: moves. -/
theorem test_fp_moves :
    gives (match (kern.withRegs [(2, 0x3FF80000)]).runWord 0x44822800 with
      | .next t => t.runWord 0x44632000
      | o => o) (fun t => t.readGpr 3) 0x3FF80000 = true ∧
    gives ((kern.withRegs [(2, 0x00010800)]).runWord 0x44C2F800) (fun t => (t.fcsr, t.pc)) (0x00010800, 0x80000180) = true ∧
    gives ((fpState 0x00800000 0x7FC00000 0).runWord 0x46012091) (fun t => ((t.fpr.get 2).extractLsb' 0 32, t.fcsr)) (0x7FC00000, 0x00800000) = true ∧
    gives ((fpState 0 0x3F800000 0).runWord 0x44022000) (fun t => t.readGpr 2) 0x3F800000 = true := by decide +kernel

/-- R636, R639: FP loads and stores. -/
theorem test_fp_memory :
    gives ((data false).runWord 0xC4A20000) (fun t => (t.fpr.get 2).extractLsb' 0 32) 0x11223344 = true ∧
    gives (State.runWord { data false with fpr := (kern.fpr.set 2 0x01020304).set 3 0x05060708 } 0xF4A20000)
      (fun t => (t.memWord 0x1000, t.memWord 0x1004)) (0x01020304, 0x05060708) = true := by decide +kernel

/-! ## Coprocessor 2 and CorExtend -/

/-- X1 to X4. -/
theorem test_cop2_corextend :
    gives ((kern.withCfg (fun c => { c with hasCP2 := false })).runWord 0x48022000)
      (fun t => (excCode t, t.cp0.cause.extractLsb' 28 2)) (11, 2) = true ∧
    gives ((kern.withStatus 0x10).runWord 0xC8A40008) (fun t => (excCode t, t.cp0.cause.extractLsb' 28 2)) (11, 2) = true ∧
    gives ((kern.withCfg (fun c => { c with hasCorExtend := false })).runWord 0x70A62010) (fun t => t.pc) 0x80000180 = true := by decide +kernel

/-! ## Witnesses: states and operands that meet the premises of the statements -/

/-- Answers a next state. -/
def runs (o : Out) : Bool := gives o (fun _ => ()) ()

/-- Answers a next state, with no exception entered. -/
def completes (s : State) (i : Instr) : Bool := gives (exec i s) (fun t => t.excCount) s.excCount

/-- The last address an instruction may stand at, and any address in the delay slot of a jump. -/
def lastWord : State := kern.at_ 0xFFFFFFF8

def wrapSlot : State := { kern.at_ 0xFFFFFFFC with slot := .jump true }

theorem witness_AluResults : lastWord.canAdvance = true ∧ wrapSlot.canAdvance = true := by decide +kernel

theorem witness_TrappingArithmeticResults :
    let s := kern.withRegs [(5, 0x7FFFFFFF), (6, 1)]
    (fitsSigned ((s.readGpr 5).toInt + (s.readGpr 0).toInt) ∧ s.canAdvance = true) ∧
    ¬fitsSigned ((s.readGpr 5).toInt + (s.readGpr 6).toInt) := by unfold fitsSigned; decide +kernel

theorem witness_CompareShiftResults : kern.canAdvance = true := by decide +kernel

theorem witness_ConditionalMoves : kern.canAdvance = true ∧ kern.cp1Usable = true := by decide +kernel

theorem witness_BitFieldResults : kern.canAdvance = true ∧ (31 : Reg).toNat + (0 : Reg).toNat ≤ 31 ∧
    (0 : Reg).toNat + (31 : Reg).toNat ≤ 31 ∧ (31 : Reg).toNat ≤ (31 : Reg).toNat := by decide +kernel

theorem witness_UnpredictableOperandsRefused : [Instr.jalr 5 5, .jalr_hb 5 5, .bltzal 31 0, .bgezal 31 0, .bltzall 31 0,
    .bgezall 31 0, .ext 1 2 31 1, .ins 1 2 0 1, .clz 1 2 3, .clo 1 2 3].all Instr.unpredictable = true := by decide

theorem witness_MultiplyResults : lastWord.canAdvance = true := by decide +kernel

theorem witness_DivideResults : kern.canAdvance = true ∧ (kern.withRegs [(6, 1)]).readGpr 6 ≠ 0 ∧ kern.readGpr 6 = 0 := by
  decide +kernel

theorem witness_MulAndHiLoMoves : kern.canAdvance = true := by decide +kernel

theorem witness_ConditionalBranches : lastWord.canBranch = true ∧ (5 : Reg) ≠ 31 := by decide +kernel

theorem witness_BranchLikely : (kern.at_ 0xFFFFFFF4).canBranch = true ∧ (kern.at_ 0xFFFFFFF4).pc ≠ 0xFFFFFFF8 := by
  decide +kernel

theorem witness_Jumps : lastWord.canBranch = true ∧ (lastWord.readGpr 5).getLsbD 0 = false ∧ (5 : Reg) ≠ 31 := by
  decide +kernel

theorem witness_ControlTransfersRefused :
    (kern.slot = .none ∧ ((kern.withRegs [(5, 1)]).readGpr 5).getLsbD 0 = true) ∧
    (let s := { kern with slot := .fallThrough, cp0 := { kern.cp0 with debug := 0x42010000 } };
      s.slot ≠ .none ∧ s.cp0Usable = true ∧ s.cp1Usable = true ∧ s.cp2Usable = true ∧ s.dm = true) := by decide +kernel

theorem witness_CoprocessorBranches : kern.canBranch = true ∧ kern.pc ≠ 0xFFFFFFF8 ∧ kern.cp1Usable = true ∧ kern.cp2Usable = true := by
  decide +kernel

/-- `x[5]` is the last byte, halfword, word and doubleword of kseg1 below the boot ROM. -/
theorem witness_LoadResults :
    let s := fun (va : Word) => kern.withRegs [(5, va)]
    (s 0xBBFFFFFF).canAdvance = true ∧ (s 0xBBFFFFFF).uncachedAccess false 0xBBFFFFFF 1 = true ∧
    (s 0xBBFFFFFE).uncachedAccess false 0xBBFFFFFE 2 = true ∧ (s 0xBBFFFFFC).uncachedAccess false 0xBBFFFFFC 4 = true ∧
    cached.canAdvance = true ∧ cached.gather = none ∧ cached.cachedBytes false 0x8000101F 1 128 = true ∧
    cached.cachedBytes false 0x8000101E 2 128 = true ∧ cached.cachedBytes false 0x8000101C 4 128 = true := by decide +kernel

theorem witness_PartialLoadResults : kern.canAdvance = true ∧ kern.uncachedAccess false (wordAt 0xA0000003) 4 = true := by decide +kernel

theorem witness_StoreResults : kern.canAdvance = true ∧ kern.uncachedAccess true 0xBBFFFFFF 1 = true ∧
    kern.uncachedAccess true 0xBBFFFFFE 2 = true ∧ kern.uncachedAccess true 0xBBFFFFFC 4 = true ∧
    cached.canAdvance = true ∧ cached.cachedBytes true 0x8000101F 1 128 = true ∧
    cached.cachedBytes true 0x8000101E 2 128 = true ∧ cached.cachedBytes true 0x8000101C 4 128 = true := by decide +kernel

theorem witness_PartialStoreResults : kern.canAdvance = true ∧ kern.uncachedAccess true (wordAt 0xA0000003) 4 = true := by decide +kernel

/-- The reservation of the first word of the line, and none. -/
theorem witness_LinkedLoadAndStore :
    cached.canAdvance = true ∧ (cached.readGpr 5).extractLsb' 0 2 = 0 ∧ cached.cachedAccess false 0x80001000 128 = true ∧
    cached.gather = none ∧ cached.cachedAccess true 0x80001000 128 = true ∧ cached.llBit = false ∧
    (let s := { cached with llBit := true, llBlock := 0x1000 };
      s.cachedAccess true 0x80001000 128 = true ∧ s.llTouched = false ∧ s.llBlock.toNat = 0x1000 / 2 ^ s.cfg.llGranuleLog2 * 2 ^ s.cfg.llGranuleLog2) := by
  decide +kernel

/-- 64-bit FP registers. -/
def wideFp : State := kern.withStatus 0x64000000

/-- The last odd address for halfwords, one that is twice odd for words, one that is a multiple of four for doublewords,
with an even and an odd register. -/
theorem witness_MisalignedAccessTraps :
    let s := fun (va : Word) => wideFp.withRegs [(5, va)]
    (s 0).hazards = [] ∧ (s 0).noDataTraps false = true ∧ (s 0).noDataTraps true = true ∧
    (∀ p ∈ [(Instr.lh 5 4 0, 0xFFFFFFFF, 2), (.lwxc1 5 0 4, 0x80001002, 4), (.ldc2 5 4 0, 0x80001004, 8)],
      p ∈ (s p.2.1).loads 5 0 4 0 ∧ p.2.1.toNat % p.2.2 ≠ 0) ∧
    (Instr.ldc1 5 3 0, 0x80001004, 8) ∈ (s 0x80001004).loads 5 0 3 0 ∧
    (∀ p ∈ [(Instr.sc 5 4 0, 0xFFFFFFFE, 4), (.sdxc1 5 0 4, 0x80001004, 8), (.swc2 5 4 0, 0x80001002, 4)],
      p ∈ (s p.2.1).stores 5 0 4 0 ∧ p.2.1.toNat % p.2.2 ≠ 0) := by decide +kernel

theorem witness_MisalignedAccessTraps_pair : let s := kern.withRegs [(5, 0x80001004)]
    s.frUse = false ∧ (Instr.sdc1 5 4 0, 0x80001004, 8) ∈ s.stores 5 0 4 0 := by decide +kernel

theorem witness_LoadStoreFrame : (completes (data false) (.lwl 5 4 1) && completes cached (.lw 5 4 0) &&
    completes cached (.swr 5 4 2)) = true := by decide +kernel

theorem witness_PrefetchHasNoResult : runs (exec (.pref 5 30 0) cached) = true ∧ runs (exec (.prefx 5 0 4) cached) = true ∧
    (let s := kern.withRegs [(5, 0xBFFFFFFF)];
      s.canAdvance = true ∧ s.hazards = [] ∧ s.mode? = some .kernel ∧ s.cp1Usable = true ∧ inKseg1 (s.readGpr 5 + s.readGpr 0) = true) ∧
    kern.dcache.lookup kern.cfg true 0xA0001000 (unmapped 0xA0001000) = none ∧
    (let s := cached.withRegs [(5, 0xA000101F)];
      inKseg1 (s.readGpr 5) = true ∧ s.plainRam (unmapped 0xA000101F) 1 = true ∧ lineBytes s.cfg true ≠ 0 ∧
        s.dcache.lookup s.cfg true 0xA000101F (unmapped 0xA000101F) = some 128) := by decide +kernel

theorem witness_SyncFlushes :
    lastWord.canAdvance = true ∧ kern.gather = none ∧ risingKeys none [(0x2000, (1 : Byte)), (0x2001, 2)] = true ∧
    regionAt kern.cfg.physMap 0x2001 = some .ram := by decide +kernel

/-- A line present in both caches, dirty in the D-cache. -/
def bothCaches : State := { cached with
  dcache := cached.dcache.setTag 128 ⟨1, true, true, false⟩
  icache := cached.icache.setTag 128 ⟨1, true, false, false⟩ }

theorem witness_SynciCleansAndInvalidates :
    bothCaches.canAdvance = true ∧ bothCaches.hazards = [] ∧ bothCaches.mode? = some .kernel ∧
    bothCaches.cachedAccess false 0x80001000 128 = true ∧ (bothCaches.dcache.tag 128).d = true ∧
    (cached.dcache.tag 128).d = false ∧ lineBytes bothCaches.cfg false ≠ 0 ∧
    bothCaches.icache.lookup bothCaches.cfg false 0x80001000 (unmapped 0x80001000) = some 128 := by decide +kernel

theorem witness_CacheOperations :
    bothCaches.canAdvance = true ∧ bothCaches.hazards = [] ∧ bothCaches.mode? = some .kernel ∧ cacheNoOp 0x02 = true ∧
    cacheNoOp 0x18 = true ∧ inKseg0 (bothCaches.readGpr 5) = true ∧ bothCaches.cp0.errCtl &&& 0x78000000 = 0 ∧
    lineBytes bothCaches.cfg true ≠ 0 ∧ lineBytes bothCaches.cfg false ≠ 0 ∧ bothCaches.cachedAccess false 0x80001000 128 = true := by
  decide +kernel

/-- A line absent from both caches, at the end of the bytes of kseg0 that RAM backs; one present in the I-cache. -/
theorem witness_CacheOperations_fetch :
    bothCaches.icache.lookup bothCaches.cfg false 0x80001000 (unmapped 0x80001000) = some 128 ∧
    (let s := cached.withRegs [(5, 0x9BFFFFFF)];
      s.hazards = [] ∧ s.mode? = some .kernel ∧ inKseg0 (s.readGpr 5) = true ∧
      [false, true].all (fun d => (s.cache d).lookup s.cfg d (s.readGpr 5) (unmapped (s.readGpr 5)) = none &&
        lineBytes s.cfg d ≠ 0 && s.plainRam (BitVec.ofNat 32 (lineBase s.cfg d (unmapped (s.readGpr 5)))) (lineBytes s.cfg d) &&
        3 < numWays s.cfg d &&
        !((s.cache d).tag (slotOf s.cfg d 3 (setIndex s.cfg d (s.readGpr 5) (unmapped (s.readGpr 5))))).l) = true ∧
      s.gather = none ∧ s.inputs.failData = false) := by
  decide +kernel

theorem witness_FpLoadResults : wideFp.canAdvance = true ∧ wideFp.cp1Usable = true ∧ wideFp.frUse = true ∧ kern.frUse = false ∧
    wideFp.uncachedAccess false 0xBBFFFFFC 4 = true ∧ wideFp.uncachedAccess false 0xBBFFFFF8 8 = true ∧
    kern.uncachedAccess false 0xBBFFFFF8 8 = true := by decide +kernel

theorem witness_FpStoreResults : wideFp.canAdvance = true ∧ wideFp.cp1Usable = true ∧ wideFp.frUse = true ∧
    wideFp.uncachedAccess true 0xBBFFFFFC 4 = true ∧ wideFp.uncachedAccess true 0xBBFFFFF8 8 = true ∧
    kern.uncachedAccess true 0xBBFFFFF8 8 = true := by decide +kernel

theorem witness_Cop2MemoryResults : kern.canAdvance = true ∧ kern.cp2Usable = true ∧ kern.uncachedAccess false 0xBBFFFFFC 4 = true ∧
    kern.uncachedAccess false 0xBBFFFFF8 8 = true ∧ kern.uncachedAccess true 0xBBFFFFFC 4 = true ∧
    kern.uncachedAccess true 0xBBFFFFF8 8 = true := by decide +kernel

theorem witness_Cop2Moves : kern.canAdvance = true ∧ kern.cp2Usable = true ∧ kern.dm = false ∧ kern.hazards = [] ∧
    kern.setOk kern.ess = true := by decide +kernel

theorem witness_CorExtendResults :
    (kern.withCfg (fun c => { c with hasCorExtend := false })).cfg.hasCorExtend = false ∧
    (kern.cfg.hasCorExtend = true ∧ kern.hazards = [] ∧ kern.cfg.corExtendNeedsCEE = true ∧ kern.cee = false) ∧
    (let s := kern.withStatus 0x00020000;
      s.cfg.hasCorExtend = true ∧ s.hazards = [] ∧ s.cee = true ∧ s.canAdvance = true ∧ s.dm = false ∧ s.setOk s.ess = true) := by
  decide +kernel

theorem witness_CoprocessorUnusable : let s := kern.withStatus 0x10
    s.cp0Usable = false ∧ s.cp1Usable = false ∧ s.cp2Usable = false ∧ (encode .wait).extractLsb' 26 6 = 0x10 ∧
    (encode (.cache 5 0 0)).extractLsb' 26 6 = 0x2F ∧ (encode (.movt 5 0 4)).extractLsb' 26 6 = 0 ∧
    (encode (.movt 5 0 4)).extractLsb' 0 6 = 1 ∧ (encode (.suxc1 5 4 6)).extractLsb' 26 6 = 0x13 ∧
    (encode (.cop2 0)).extractLsb' 26 6 = 0x12 := by decide +kernel

theorem witness_DecodeEncode : (Instr.sll 0 0 31).wellFormed = true ∧ (Instr.udi 0xFFFFF 15).wellFormed = true := by decide

theorem witness_DecodedWordIsEncoding : reads (0x42FFFFE0, .wait) = true := by decide

theorem witness_StepKeepsMemoryForm : bothCaches.memWf = true ∧ runs (step bothCaches) = true := by decide +kernel

theorem witness_StepKeepsPcSequential : kern.pcOk = true ∧ wrapSlot.pcOk = true ∧ runs (step kern) = true := by decide +kernel

theorem witness_StepKeepsReservedBits : kern.reservedOk = true ∧ runs (step kern) = true := by decide +kernel

/-- `addiu $4, $0, -32768` at kseg1 `0xA0001000`. -/
def coded : State := { kern.at_ 0xA0001000 with
  mem := [(0x1001, 0x80), (0x1002, 0x04), (0x1003, 0x24)] }

/-- R820: a cache error of the data side (item 22) takes the place of `addiu` but comes after `syscall` (item 17), one of the
fetch (item 13) before it. -/
theorem test_cache_error_sides :
    let call : State := { coded with mem := [(0x1000, 0x0C)] }
    gives (step { coded with pendCacheErrData := true }) (fun t => (t.pc, t.cp0.errorEPC, t.readGpr 4, t.pendCacheErrData))
      (0xA0000100, 0xA0001000, 0, false) = true ∧
    gives (step { call with pendCacheErrData := true }) (fun t => (t.pc, t.pendCacheErrData)) (0x80000180, true) = true ∧
    gives (step { call with pendCacheErr := true }) (fun t => (t.pc, t.pendCacheErr)) (0xA0000100, false) = true := by
  decide +kernel

theorem witness_StepRunsDecoded : coded.quiet = true ∧ coded.plainFetch = true ∧
    reads (coded.codeWord (unmapped coded.pc), .addiu 0 4 0x8000) = true ∧
    (match State.fetchWord { coded with freeCtr := 1 } coded.pc with
      | .ok w _ => w = 0x24048000
      | _ => false) = true := by decide +kernel

/-- A fetch at an odd address. -/
theorem witness_StepRunsDecoded_exc : let s := coded.at_ 0xA0001001
    s.quiet = true ∧ State.fetchWord { s with freeCtr := 1 } s.pc = .exc (.addrError false 0xA0001001) { s with freeCtr := 1 } :=
  ⟨by decide +kernel, rfl⟩

theorem not_decoded {w : Word} (h : undecodable w = true) : ∀ i, decode w ≠ .ok i := by
  intro i hi
  unfold undecodable at h
  rw [hi] at h
  cases h

theorem witness_UndecodedWordsTrap :
    (∀ w ∈ ([0x42000003, 0x46C00000, 0x00A22001, 0x4C000002, 0x49600000, 0xFC000000] : List Word), ∀ i, decode w ≠ .ok i) ∧
    (let s := kern.withStatus 0x10;
      s.cp0Usable = false ∧ s.cp1Usable = false ∧ s.cp2Usable = false) ∧
    kern.cp0Usable = true ∧ kern.cp1Usable = true ∧ kern.cp2Usable = true := by
  have h : ([0x42000003, 0x46C00000, 0x00A22001, 0x4C000002, 0x49600000, 0xFC000000] : List Word).all undecodable = true := by decide
  exact ⟨fun w hw => not_decoded (List.all_eq_true.mp h w hw), by decide +kernel⟩

theorem witness_UnprivilegedCodeKeepsCp0 : let s := kern.withStatus 0x10
    s.cp0Usable = false ∧ s.hazards = [] ∧ completes s (.addiu 5 4 1) = true := by decide +kernel

theorem witness_SystemCallsAndTraps : kern.canAdvance = true ∧
    (let s := kern.withRegs [(5, 0x80000000)];
      (s.readGpr 5).toInt < (s.readGpr 0).toInt ∧ ¬(s.readGpr 5).toNat < (s.readGpr 0).toNat ∧ s.readGpr 0 = s.readGpr 0) := by
  decide +kernel

theorem witness_ExceptionEntry : (kern.dm = false ∧ kern.hazards = [] ∧ kern.setOk kern.ess = true) ∧
    (kern.withStatus 2).exl = true := by decide +kernel

theorem witness_AddressExceptionEntry : kern.dm = false ∧ kern.hazards = [] ∧ kern.setOk kern.ess = true := by decide +kernel

theorem witness_DebugNmiCacheErrorEntry : (kern.dm = false ∧ kern.dbg.pendBreaks = [] ∧ kern.hazards = []) ∧
    { kern with cp0 := { kern.cp0 with debug := 0x42010000 } }.dm = true := by decide +kernel

/-- Premises of an interrupt that is due. -/
def due (s : State) : Bool :=
  s.env = [] && s.hazards = [] && s.dm = false && s.sst = false && s.dintPending = false && s.dbg.pendBreaks = [] &&
    (s.dcrNmip && s.dcrNmie) = false && s.cacheEP = false && s.dbusEP = false && s.dcrInte && s.ie && s.exl = false && s.erl = false

/-- Input 0 and input 5; with `VS` of 1 and of 16; the controller at levels 1 and 63. -/
theorem witness_InterruptIsTaken :
    (let s := hooked 0x8401 0 0 0x21;
      due s = true ∧ s.cfg.eicPresent = false ∧ s.ip &&& s.im ≠ 0 ∧ s.setOk s.ess = true ∧ s.iv = false) ∧
    (let s := hooked 0x8401 0x00800000 0 0x21;
      due s = true ∧ s.iv = true ∧ (s.cp0.intCtl.extractLsb' 5 5).toNat = 0) ∧
    (let s := hooked 0x8401 0x00800000 0x200 0x21;
      due s = true ∧ s.bev = false ∧ (s.cp0.intCtl.extractLsb' 5 5).toNat = 16 ∧ (s.ip &&& s.im).getLsbD 7 = true ∧
        s.setOk (s.cp0.srsMap.extractLsb' (4 * 7) 4) = true) ∧
    (let s := { (hooked 0xF801 0x00800000 0x20 0).withCfg (fun c => { c with eicPresent := true }) with
        inputs := { kern.inputs with eicRIPL := 63, eicSS := 3 } };
      due s = true ∧ s.cfg.eicPresent = true ∧ s.ipl.toNat < s.inputs.eicRIPL.toNat ∧ s.setOk s.inputs.eicSS = true) := by
  decide +kernel

theorem witness_Returns : (kern.cp0Usable = true ∧ kern.slot = .none ∧ kern.hazards = [] ∧ kern.erl = false ∧ kern.setOk kern.pss = true ∧
      kern.cp0.epc.getLsbD 0 = false ∧ kern.dm = false) ∧
    (kern.withStatus 4).erl = true ∧ runs (exec .eret kern) = true ∧
    (let d := { kern with cp0 := { kern.cp0 with debug := 0x42010000, depc := 1, epc := 1, errorEPC := 1 } };
      d.dm = true ∧ d.cp0Usable = true ∧ d.cp0.depc.getLsbD 0 = true ∧ d.cp0.epc.getLsbD 0 = true ∧ d.cp0.errorEPC.getLsbD 0 = true) := by
  decide +kernel

theorem witness_NopsBarrierAndWait :
    wrapSlot.slot = .jump true ∧ kern.canAdvance = true ∧ kern.cp0Usable = true ∧ kern.cfg.eicPresent = false ∧ kern.ip &&& kern.im = 0 ∧
    kern.dcrNmip = false ∧ kern.dintPending = false ∧ kern.dm = false ∧
    State.dcrNmip { kern with dbg := { kern.dbg with dcr := 0x4 } } = true ∧
    State.dintPending { kern with dbg := { kern.dbg with ejtagControl := 0x1000 } } = true ∧
    State.dm { kern with cp0 := { kern.cp0 with debug := 0x40000000 } } = true ∧ (hooked 0x8401 0 0 1).ip &&& (hooked 0x8401 0 0 1).im ≠ 0 ∧
    (let s := { kern with sleeping := true };
      s.env = [] ∧ s.sleeping = true ∧ s.wakes = false) ∧
    (let s := { kern.withCfg (fun c => { c with eicPresent := true }) with inputs := { kern.inputs with eicRIPL := 1 } };
      s.cfg.eicPresent = true ∧ s.inputs.eicRIPL ≠ 0) ∧
    (let s := (hooked 0x8101 0 0 1).withCfg (fun c => { c with eicPresent := true });
      let u := { s with cp0 := { s.cp0 with cause := 0x100 } };
      u.iv = false ∧ u.inputs.eicRIPL = 0 ∧ u.ip &&& u.im &&& 3 ≠ 0 ∧ s.ip &&& s.im &&& 3 = 0) := by decide +kernel

theorem witness_Cp0Moves : kern.canAdvance = true ∧ kern.cp0Usable = true ∧ kern.hazards = [] ∧ cpRegOf 22 0 = none ∧
    kern.cfg.mmu = .tlb ∧ kern.cp0.wired.toNat % 64 < kern.cfg.tlbEntries ∧ kern.cfg.tlbEntries ≤ 64 ∧
    cpRegOf 12 0 = some .status ∧ cpPresent kern.cfg .status = true ∧ kern.cpWriteRefused .status 0xFFFDFFE7 = none ∧
    cpRegOf 11 0 = some .compare ∧ cpPresent kern.cfg .compare = true ∧ kern.cpWriteRefused .compare 0 = none ∧
    cpPresent (kern.withCfg (fun c => { c with mmu := .fmt })).cfg .wired = false ∧ cpRegOf 6 0 = some .wired ∧ cpPresent kern.cfg .wired = true ∧ kern.cpWriteRefused .wired 3 = none ∧
    cpRegOf 1 0 = some .random ∧ cpPresent kern.cfg .random = true ∧ kern.cpWriteRefused .random 0 = none ∧
    cpRegOf 13 0 = some .cause ∧ cpPresent kern.cfg .cause = true ∧ kern.cpWriteRefused .cause 0xFFBFFFFF = none ∧
    kern.cfg.eicPresent = false ∧ (kern.withCfg (fun c => { c with eicPresent := true })).cfg.eicPresent = true := by decide +kernel

theorem witness_ShadowAndHardwareMoves : kern.canAdvance = true ∧ kern.hazards = [] ∧ kern.cp0Usable = true ∧
    kern.pss.toNat < kern.cfg.numShadowSets ∧ 1 < kern.cfg.numShadowSets ∧
    (let s := { kern with cp0 := { kern.cp0 with srsCtl := 0x100 } };
      s.cfg.numShadowSets ≤ s.pss.toNat) ∧
    (let s := { kern with cp0 := { kern.cp0 with status := 0x10, hwrena := 8 } };
      s.cp0Usable = false ∧ s.cp0.hwrena.getLsbD (3 : Reg).toNat = true ∧ s.cp0.hwrena.getLsbD (0 : Reg).toNat = false) ∧
    3 < (4 : Reg).toNat := by decide +kernel

/-- The last entry indexed, with an entry staged that clashes with the one of `paged`. -/
def clashing : State := { paged 5 with cp0 := { (paged 5).cp0 with index := 15, entryHi := 0x00400005, entryLo0 := 2 } }

/-- An entry staged that clashes with none. -/
def fresh : State := { paged 5 with cp0 := { (paged 5).cp0 with index := 15, entryHi := 0x00800005, entryLo0 := 2, wired := 15 } }

theorem witness_TlbInstructions :
    (kern.withCfg (fun c => { c with mmu := .fmt })).cfg.mmu = .fmt ∧ clashing.cp0Usable = true ∧ clashing.hazards = [] ∧
    clashing.canAdvance = true ∧ clashing.cfg.mmu = .tlb ∧ clashing.cfg.tlbEntries ≤ 64 ∧
    (clashing.cp0.index &&& indexMask clashing.cfg.tlbEntries).toNat = (15 : Fin 64).val ∧
    (15 : Fin 64).val < clashing.cfg.tlbEntries ∧ fresh.cp0.wired.toNat % 64 < fresh.cfg.tlbEntries := by decide +kernel

theorem witness_TlbInstructions_hit : clashing.onlyMatch 2 (clashing.cp0.entryHi.extractLsb' 13 19) := by
  unfold State.onlyMatch TlbEntry.maps
  decide +kernel

theorem witness_TlbInstructions_miss : fresh.noMatch (fresh.cp0.entryHi.extractLsb' 13 19) := by
  unfold State.noMatch TlbEntry.maps
  decide +kernel

theorem witness_TlbInstructions_duplicate : clashing.duplicates clashing.cp0.staged 15 := by
  unfold State.duplicates TlbEntry.clashes
  exact ⟨by decide +kernel, 2, by decide +kernel⟩

theorem witness_TlbInstructions_fresh : ∀ i : Fin 64, ¬fresh.duplicates fresh.cp0.staged i := by
  have h : ∀ j : Fin 64, j.val < fresh.cfg.tlbEntries →
      ¬(((fresh.tlb.get j).page0.v = true ∨ (fresh.tlb.get j).page1.v = true) ∧
        ∀ k, k < 19 → (fresh.tlb.get j).mask.getLsbD k = false → fresh.cp0.staged.mask.getLsbD k = false →
          (fresh.tlb.get j).vpn2.getLsbD k = fresh.cp0.staged.vpn2.getLsbD k) := by decide +kernel
  rintro i ⟨_, j, hj, _, hv, hc⟩
  exact h j hj ⟨hv, hc.1⟩

/-- The largest page mask and the smallest. -/
theorem witness_TlbInstructions_mask : (paged 5).cp0.staged.maskLegal ∧
    { (paged 5).cp0 with pageMask := 0x1FFFE000 }.staged.maskLegal := ⟨⟨0, by decide, by decide +kernel⟩, ⟨8, by decide, by decide +kernel⟩⟩

/-- A 256-Mbyte page that is not valid, beside one that is. -/
def hugePage : State := { kern with tlb := kern.tlb.set 2 ⟨0, 0, true, 0xFFFF, ⟨0, 2, true, false⟩, ⟨0, 2, true, true⟩⟩ }

theorem witness_AddressTranslation :
    kern.hazards = [] ∧ kern.mode? = some .kernel ∧ (kern.withStatus 0x10).mode? = some .user ∧ (kern.withStatus 8).mode? = some .supervisor ∧
    (kern.withStatus 4).erl = true ∧ kern.erl = false ∧ (kern.withCfg (fun c => { c with mmu := .fmt })).cfg.mmu = .fmt ∧
    (paged 5).cfg.mmu = .tlb ∧ ((paged 5).tlb.get 2).mask = BitVec.ofNat 16 (4 ^ 0 - 1) ∧ ((paged 5).tlb.get 2).page1.v = true ∧
    ((paged 5).tlb.get 2).page1.d = false ∧ ((paged 5).tlb.get 2).page0.d = true ∧
    (hugePage.tlb.get 2).mask = BitVec.ofNat 16 (4 ^ 8 - 1) ∧ (hugePage.tlb.get 2).page0.v = false := by decide +kernel

theorem witness_AddressTranslation_miss : (paged 5).noMatch ((0x00800000 : Word).extractLsb' 13 19) := by
  unfold State.noMatch TlbEntry.maps
  decide +kernel

theorem witness_AddressTranslation_hit : (paged 5).onlyMatch 2 ((0x00400ABC : Word).extractLsb' 13 19) := by
  unfold State.onlyMatch TlbEntry.maps
  decide +kernel

theorem witness_AddressTranslation_huge : hugePage.onlyMatch 2 ((0x0FFFFFFF : Word).extractLsb' 13 19) := by
  unfold State.onlyMatch TlbEntry.maps
  decide +kernel

theorem witness_AddressTranslation_raises :
    let s := (paged 5).withRegs [(5, 0x00800000), (6, 0x00401FFC)]
    s.hazards = [] ∧ s.noDataTraps false = true ∧ s.noDataTraps true = true ∧ s.cp0Usable = true ∧ cacheNoOp 21 = false ∧
    (Instr.lwl 5 4 0, 0x00800000, 1) ∈ s.loads 5 0 4 0 ∧ (Instr.ldc1 5 4 0, 0x00800000, 8) ∈ s.loads 5 0 4 0 ∧
    (Instr.sw 6 4 0, 0x00401FFC, 4) ∈ s.stores 6 0 4 0 ∧ s.outsideDseg 0x00800000 = true ∧ s.outsideDseg 0x00401FFC = true := by
  decide +kernel

theorem witness_AddressTranslation_raised : let s := (paged 5).withRegs [(5, 0x00800000), (6, 0x00401FFC)]
    s.translate .load 0x00800000 = .exc (.tlbRefill false 0x00800000) s ∧
    s.translate .store 0x00401FFC = .exc (.tlbMod 0x00401FFC) s := ⟨rfl, rfl⟩

/-- An uncached page, and a cached one that maps the line of `cached`. -/
def mapped : State := { cached with
  cp0 := { cached.cp0 with entryHi := 5 }
  tlb := cached.tlb.set 2 ⟨0x200, 5, false, 0, ⟨0x100, 2, true, true⟩, ⟨1, 3, true, true⟩⟩ }

/-- The last word of the uncached page, read and written, and the last byte of the cached line, read and written. -/
theorem witness_AddressTranslation_mapped :
    MappedAccess mapped .load 0x00400FFC 0x00100FFC 2 4 ∧ MappedAccess mapped .store 0x00400FFE 0x00100FFE 2 2 ∧
    MappedAccess mapped .load 0x0040101F 0x0000101F 3 1 ∧ MappedAccess mapped .store 0x0040101F 0x0000101F 3 1 :=
  ⟨⟨rfl, by decide +kernel, by decide +kernel, by decide +kernel, rfl, by decide +kernel, rfl⟩,
   ⟨rfl, by decide +kernel, by decide +kernel, by decide +kernel, rfl, by decide +kernel, rfl⟩,
   ⟨rfl, by decide +kernel, by decide +kernel, by decide +kernel, rfl, by decide +kernel, rfl⟩,
   ⟨rfl, by decide +kernel, by decide +kernel, by decide +kernel, rfl, by decide +kernel, rfl⟩⟩

theorem witness_AddressTranslation_line : mapped.canAdvance = true ∧ mapped.inputs.failData = false ∧ lineBytes mapped.cfg true ≠ 0 ∧
    mapped.dcache.lookup mapped.cfg true 0x0040101F 0x0000101F = some 128 := by decide +kernel

/-- A fetch off the alignment, from a page that is not there, and of the last word of the uncached page. -/
theorem witness_AddressTranslation_fetch : mapped.hazards = [] ∧ mapped.noFetchTraps = true ∧ (0x00400FFE : Word).toNat % 4 ≠ 0 ∧
    (0x00800000 : Word).toNat % 4 = 0 ∧ mapped.outsideDseg 0x00800000 = true ∧ mapped.outsideDseg 0x00400FFC = true ∧
    mapped.pendCacheErr = false ∧ mapped.inputs.failFetch = false ∧ mapped.plainCode 0x00100FFC = true := by decide +kernel

theorem witness_AddressTranslation_fetched :
    (mapped.at_ 0x00800000).translate .fetch 0x00800000 = .exc (.tlbRefill false 0x00800000) (mapped.at_ 0x00800000) ∧
    (mapped.at_ 0x00400FFC).translate .fetch 0x00400FFC = .ok (0x00100FFC, 2) (mapped.at_ 0x00400FFC) := ⟨rfl, rfl⟩

/-- R634: a `ctc1` to `FCCR` checks the cause bits that stand. -/
theorem test_ctc1_fccr_checks : gives (exec (.ctc1 4 25) ({ kern with fcsr := 0x00010800 }.withRegs [(4, 0x81)]))
    (fun t => (t.fcsr, t.pc, t.cp0.epc)) (0x80810800, 0x80000180, 0x80001000) = true := by decide +kernel

theorem witness_FpTransfers : kern.fpReady = true ∧ kern.fr = false ∧ wideFp.fpReady = true ∧ wideFp.fr = true ∧
    (4 : Reg).getLsbD 0 = false ∧ (24 : Reg) ∉ [(0 : Reg), 25, 26, 28, 31] ∧
    (0x00010800 : Word).extractLsb' 12 5 &&& (0x00010800 : Word).extractLsb' 7 5 ≠ 0 := by decide +kernel

theorem witness_FpMoves : kern.fpReady = true ∧ wideFp.fpReady = true ∧ wideFp.fr = true ∧ (4 : Reg).getLsbD 0 = false := by decide +kernel

theorem witness_FpArithmeticCompletes :
    (let s := { kern with fcsr := 0x01000000 };
      s.fpReady = true ∧ s.fpForgiving = true) ∧ wideFp.fr = true ∧ (∀ q ∈ [(0 : Reg), 2, 4, 30], q.getLsbD 0 = false) := by decide +kernel

/-- A number, a signalling NaN, a quiet one, infinities, zero, the largest operand of `recip` in range, a negative one. -/
theorem witness_FpArithmeticCompletes_values :
    FpFmt.isNan .single 0x3F800000 = false ∧ FpFmt.isSnan .single 0x7FC00000 = true ∧ FpFmt.isNan .single 0x7F800001 = true ∧
    FpFmt.isSnan .single 0x7F800001 = false ∧ FpFmt.value .single 0xFF800000 = .inf true ∧
    FpFmt.value .single 0x80000000 = .fin true 0 (-149) ∧ FpFmt.tiny .single 0x7E000000 = false ∧
    FpFmt.value .single 0x7E000000 = .fin false (2 ^ 23) 102 ∧ (FpFmt.value .single 0x7E000000).rat = 2 ^ (FpFmt.bias .single - 2) ∧
    0 < (FpFmt.value .single 0x7E000000).rat ∧ FpFmt.value .single 0xBF800000 = .fin true (2 ^ 23) (-23) := by decide +kernel

/-- Integers, a tiny number, a number of each format, and what is none. -/
theorem witness_FpConversionsComplete_values :
    (FpFmt.value .single 1 = .fin false 1 (-149) ∧ FpFmt.tiny .single 1 = true ∧
      FpFmt.operandRat .single ⟨0, true, false, false, 0⟩ 1 = 0 ∧ FpFmt.operandRat .single ⟨0, true, false, false, 0⟩ 0x3F800000 ≠ 0) ∧
    FpFmt.value .double 0x7FF0000000000000 = .inf false ∧ FpFmt.isSnan .double 0x7FF8000000000000 = true ∧
    FpFmt.isNan .double 0x7FF0000000000001 = true ∧ FpFmt.isSnan .double 0x7FF0000000000001 = false ∧
    ((0x80000000 : DWord).setWidth 32).toInt = -2 ^ 31 ∧ (0 : DWord).toInt = 0 := by decide +kernel

theorem witness_FpConversionsComplete :
    (let s := { wideFp with fcsr := 0x01000003 };
      s.fpReady = true ∧ s.fpForgiving = true ∧ s.fr = true) ∧ kern.fr = false := by decide +kernel

theorem witness_FpCompares : kern.fpReady = true ∧ kern.fcsr.getLsbD 11 = false ∧ wideFp.fpReady = true ∧ wideFp.fr = true := by decide +kernel

/-- A tiny operand; `3 / 0` and the root of `-3` with the condition enabled. -/
theorem witness_FpExceptionKeepsDestination :
    (let s := fpState 0 1 0x40400000;
      s.fpReady = true ∧ FpFmt.tiny .single (s.readFpr .single 4) = true ∧ s.fs = false ∧ s.fo = false) ∧
    (let s := fpState 0x00000C00 0x40400000 0;
      s.fpReady = true ∧ FpFmt.tiny .single (s.readFpr .single 4) = false ∧
        FpFmt.value .single (s.readFpr .single 4) = .fin false 0xC00000 (-22) ∧
        FpFmt.value .single (s.readFpr .single 6) = .fin false 0 (-149) ∧ s.fcsr.getLsbD 10 = true ∧ s.fcsr.getLsbD 11 = true) ∧
    FpFmt.value .single ((fpState 0 0xC0400000 0).readFpr .single 4) = .fin true 0xC00000 (-22) := by decide +kernel

/-- A signalling NaN, a zero to divide by, an enabled inexact sum and conversion, an enabled Invalid of a compare. -/
theorem witness_FpExceptionKeepsDestination_enabled :
    (let s := fpState 0x00000C00 0x7FC00000 0;
      FpFmt.isSnan .single (s.readFpr .single 4) = true ∧ FpFmt.tiny .single (s.readFpr .single 6) = false ∧
        FpFmt.value .single (s.readFpr .single 6) = .fin false 0 (-149)) ∧
    (let s := fpState 0x00000080 0x3F800000 0x30800000;
      s.fpReady = true ∧ (match fpAdd .single false s.fpEnv (s.readFpr .single 4) (s.readFpr .single 6) with
        | .val _ c => c.bits &&& s.fcsr.extractLsb' 7 5 != 0
        | _ => false) = true) ∧
    (let s := fpState 0x00000080 0x3FC00000 0;
      (match fpToInt .single .word (fun _ => 0) s.fpEnv (s.readFpr .single 4) with
        | .val _ c => c.bits &&& s.fcsr.extractLsb' 7 5 != 0
        | _ => false) = true) ∧
    (FpFmt.isNan .single 0x7F800001 && (8 : BitVec 4).getLsbD 3) = true := by decide +kernel

/-- A long exact result, a long one that is a lower bound, a short one; exponents in range, above it and below it;
operands of the sum, product and root. -/
theorem witness_RoundingIsCorrect :
    (2 ^ 25 ≤ (⟨false, 2 ^ 25, -10, true⟩ : FpExact).mant ∧ (⟨true, 1, -10, false⟩ : FpExact).mant < 2 ^ 24) ∧
    (let x : Int → FpExact := fun e => ⟨true, 1, e, false⟩;
      let r := fun e => FpFmt.expField .single ((x e).round 3 24);
      r 0 = 127 ∧ r 127 = 254 ∧ r 128 = FpFmt.maxExp .single ∧ r (-126) = 1 ∧ r (-127) = 0) ∧
    (FpFmt.tiny .single 0x3F800000 = false ∧ FpFmt.value .single 0x3F800000 = .fin false 0x800000 (-23) ∧
      FpFmt.tiny .single 0xBF800000 = false ∧ FpFmt.value .single 0xBF800000 = .fin true 0x800000 (-23) ∧
      fpMul .single kern.fpEnv 0x3F800000 0xBF800000 = .val 0xBF800000 .none) ∧ 2 ≤ 24 ∧ (⟨false, 2 ^ 24 + 1, -10, false⟩ : FpExact).more = false ∧
    2 ^ 24 ≤ (⟨false, 2 ^ 24 + 1, -10, false⟩ : FpExact).mant := by decide +kernel

end Sys2Proof
end

/-! ## Integer arithmetic, logic, comparisons and shifts (spec/40_alu.md): what each instruction computes -/

namespace Sys2Proof.Machine

/-! ### From an instruction's meaning to `Computes` -/

/-- An instruction that only puts a result in a register computes that result (R340, R452). -/
theorem computes_of_put {i : Instr} {w : Word} {r : Reg} {v : State → Word} (hw : encode i = w)
    (hx : ∀ s, exec i s = s.put r (v s)) : Computes i w r v := by
  refine ⟨hw, fun s hs => ?_⟩
  rw [hx s]
  exact put_gprResult s r (v s) hs

/-- The same where the rule writes the result `v` otherwise than the model, which writes it `u`. -/
theorem computes_of_put_eq {i : Instr} {w : Word} {r : Reg} {u v : State → Word} (hw : encode i = w)
    (hx : ∀ s, exec i s = s.put r (u s)) (hv : ∀ s, u s = v s) : Computes i w r v :=
  computes_of_put hw fun s => (hx s).trans (congrArg (s.put r) (hv s))

/-! ### The results as the rules write them -/

/-- The signed comparison compares the two's complement values (R355). -/
theorem boolWord_slt (x y : Word) : boolWord (x.slt y) = if x.toInt < y.toInt then 1 else 0 := by
  simp [boolWord, BitVec.slt_iff_toInt_lt]

/-- Sign extension keeps the value of the immediate (R356). -/
theorem toInt_sext16 (imm : BitVec 16) : (sext16 imm).toInt = imm.toInt :=
  BitVec.toInt_signExtend_of_le (by omega)

/-- The unsigned comparison compares the plain values (R357). -/
theorem boolWord_ult (x y : Word) : boolWord (x.ult y) = if x.toNat < y.toNat then 1 else 0 := by
  simp [boolWord, BitVec.ult]

/-- The low five bits of a register are its value modulo 32 (R362). -/
theorem toNat_lowFive (x : Word) : (x.extractLsb' 0 5).toNat = x.toNat % 32 := by
  simp

/-- A rotate by less than the width joins the two shifted parts (R365). -/
theorem rotateRight_eq_or (x : Word) {n : Nat} (hn : n < 32) : x.rotateRight n = x >>> n ||| x <<< (32 - n) := by
  rw [BitVec.rotateRight_def, Nat.mod_eq_of_lt hn]

/-- Settles O1: each instruction puts its result and goes on, with the rule's value and the rule's word by definition. -/
theorem aluResults : Obligations.AluResults := by
  intro rs rt rd imm
  exact ⟨computes_of_put (encode_addiu rs rt imm) fun _ => rfl,
    computes_of_put (encode_addu rs rt rd) fun _ => rfl,
    computes_of_put (encode_subu rs rt rd) fun _ => rfl,
    computes_of_put (encode_and rs rt rd) fun _ => rfl,
    computes_of_put (encode_andi rs rt imm) fun _ => rfl,
    computes_of_put (encode_or rs rt rd) fun _ => rfl,
    computes_of_put (encode_ori rs rt imm) fun _ => rfl,
    computes_of_put (encode_xor rs rt rd) fun _ => rfl,
    computes_of_put (encode_xori rs rt imm) fun _ => rfl,
    computes_of_put (encode_nor rs rt rd) fun _ => rfl,
    computes_of_put (encode_lui rt imm) fun _ => rfl⟩

/-- Settles O3: each instruction puts its result and goes on; the value is the rule's by the equations above. -/
theorem compareShiftResults : Obligations.CompareShiftResults := by
  intro rs rt rd sa imm
  exact ⟨computes_of_put_eq (encode_slt rs rt rd) (fun _ => rfl) fun _ => boolWord_slt _ _,
    computes_of_put_eq (encode_slti rs rt imm) (fun _ => rfl) fun _ => by rw [boolWord_slt, toInt_sext16],
    computes_of_put_eq (encode_sltu rs rt rd) (fun _ => rfl) fun _ => boolWord_ult _ _,
    computes_of_put_eq (encode_sltiu rs rt imm) (fun _ => rfl) fun _ => boolWord_ult _ _,
    computes_of_put (encode_sll rt rd sa) fun _ => rfl,
    computes_of_put (encode_srl rt rd sa) fun _ => rfl,
    computes_of_put (encode_sra rt rd sa) fun _ => rfl,
    computes_of_put_eq (encode_sllv rs rt rd) (fun _ => rfl) fun _ => by rw [BitVec.shiftLeft_eq', toNat_lowFive],
    computes_of_put_eq (encode_srlv rs rt rd) (fun _ => rfl) fun _ => by rw [BitVec.ushiftRight_eq', toNat_lowFive],
    computes_of_put_eq (encode_srav rs rt rd) (fun _ => rfl) fun _ => by rw [toNat_lowFive],
    computes_of_put_eq (encode_rotr rt rd sa) (fun _ => rfl) fun _ => rotateRight_eq_or _ sa.isLt,
    computes_of_put_eq (encode_rotrv rs rt rd) (fun _ => rfl) fun _ => by
      rw [toNat_lowFive]; exact rotateRight_eq_or _ (Nat.mod_lt _ (by omega))⟩

end Sys2Proof.Machine

/-! ## Multiply and multiply-accumulate (spec/41_muldiv.md): what each instruction leaves in `HI :: LO` -/

namespace Sys2Proof.Machine

/-! ### From an instruction's meaning to `Accumulates` -/

/-- Writing `HI` and `LO` and going on. -/
theorem advance_hiLoResult (s : State) (hi lo : Word) (h : s.canAdvance = true) :
    ∃ t, State.advance { s with hi := hi, lo := lo } = .next t ∧ HiLoResult s t hi lo :=
  ⟨_, advance_eq { s with hi := hi, lo := lo } h, rfl, rfl, fun _ => rfl, rfl, rfl, rfl, rfl, rfl⟩

/-- `LO` takes the low half of what is put in `HI :: LO` (R420). -/
theorem setWidth_eq_lowWord (p : DWord) : p.setWidth 32 = p.extractLsb' 0 32 :=
  BitVec.setWidth_eq_extractLsb' (by omega)

/-- An instruction that only puts `u` in `HI :: LO`, where the rule writes the result `v`, leaves that result there
(R420, R452). -/
theorem accumulates_of_putAcc {i : Instr} {w : Word} {u v : State → DWord} (hw : encode i = w)
    (hx : ∀ s, exec i s = s.putAcc (u s)) (hv : ∀ s, u s = v s) : Accumulates i w v := by
  refine ⟨hw, fun s hs => ?_⟩
  rw [hx s, hv s, State.putAcc, setWidth_eq_lowWord]
  exact advance_hiLoResult s _ _ hs

/-! ### The products as the rules write them -/

/-- The signed product is that of the two's complement values (R421). -/
theorem mulSigned_eq_ofInt (a b : Word) : mulSigned a b = BitVec.ofInt 64 (a.toInt * b.toInt) := by
  rw [BitVec.ofInt_mul]
  rfl

/-- The unsigned product is that of the plain values (R422). -/
theorem mulUnsigned_eq_ofNat (a b : Word) : mulUnsigned a b = BitVec.ofNat 64 (a.toNat * b.toNat) := by
  rw [BitVec.ofNat_mul, BitVec.ofNat_toNat, BitVec.ofNat_toNat]
  rfl

/-- Settles O7: each instruction puts its result in `HI :: LO` and goes on; the result is the product, or the accumulator
plus or minus it, and the product is the rule's by the equations above. -/
theorem multiplyResults : Obligations.MultiplyResults := by
  intro rs rt
  have signed (s : State) := mulSigned_eq_ofInt (s.readGpr rs) (s.readGpr rt)
  have unsigned (s : State) := mulUnsigned_eq_ofNat (s.readGpr rs) (s.readGpr rt)
  exact ⟨accumulates_of_putAcc (encode_mult rs rt) (fun _ => rfl) signed,
    accumulates_of_putAcc (encode_multu rs rt) (fun _ => rfl) unsigned,
    accumulates_of_putAcc (encode_madd rs rt) (fun _ => rfl) fun s => congrArg (s.acc + ·) (signed s),
    accumulates_of_putAcc (encode_maddu rs rt) (fun _ => rfl) fun s => congrArg (s.acc + ·) (unsigned s),
    accumulates_of_putAcc (encode_msub rs rt) (fun _ => rfl) fun s => congrArg (s.acc - ·) (signed s),
    accumulates_of_putAcc (encode_msubu rs rt) (fun _ => rfl) fun s => congrArg (s.acc - ·) (unsigned s)⟩

end Sys2Proof.Machine

/-! ## Encoding (spec/30_encoding.md): the decoder reads back every word the encoder writes -/

namespace Sys2Proof

/-! ### The decoder's maps, by the fields that choose among them (R294 to R303) -/

theorem decodeFields_special {w : Word} (h : fieldOp w = 0b000000#6) : decodeFields w = decodeSpecial w := by
  unfold decodeFields; rw [h]; rfl

theorem decodeFields_regimm {w : Word} (h : fieldOp w = 0b000001#6) : decodeFields w = decodeRegimm w := by
  unfold decodeFields; rw [h]; rfl

theorem decodeFields_special2 {w : Word} (h : fieldOp w = 0b011100#6) : decodeFields w = decodeSpecial2 w := by
  unfold decodeFields; rw [h]; rfl

theorem decodeFields_special3 {w : Word} (h : fieldOp w = 0b011111#6) : decodeFields w = decodeSpecial3 w := by
  unfold decodeFields; rw [h]; rfl

theorem decodeFields_cop0 {w : Word} (h : fieldOp w = 0b010000#6) : decodeFields w = decodeCop0 w := by
  unfold decodeFields; rw [h]; rfl

theorem decodeFields_cop1 {w : Word} (h : fieldOp w = 0b010001#6) : decodeFields w = decodeCop1 w := by
  unfold decodeFields; rw [h]; rfl

theorem decodeFields_cop1x {w : Word} (h : fieldOp w = 0b010011#6) : decodeFields w = decodeCop1x w := by
  unfold decodeFields; rw [h]; rfl

theorem decodeFields_cop2 {w : Word} (h : fieldOp w = 0b010010#6) : decodeFields w = decodeCop2 w := by
  unfold decodeFields; rw [h]; rfl

theorem decodeFields_fmtS {w : Word} (h : fieldOp w = 0b010001#6 ∧ fieldRs w = 0b10000#5) :
    decodeFields w = decodeFmtS w := by
  rw [decodeFields_cop1 h.1]; unfold decodeCop1; rw [h.2]; rfl

theorem decodeFields_fmtD {w : Word} (h : fieldOp w = 0b010001#6 ∧ fieldRs w = 0b10001#5) :
    decodeFields w = decodeFmtD w := by
  rw [decodeFields_cop1 h.1]; unfold decodeCop1; rw [h.2]; rfl

theorem decodeFields_fmtW {w : Word} (h : fieldOp w = 0b010001#6 ∧ fieldRs w = 0b10100#5) :
    decodeFields w = decodeFmtW w := by
  rw [decodeFields_cop1 h.1]; unfold decodeCop1; rw [h.2]; rfl

theorem decodeFields_fmtL {w : Word} (h : fieldOp w = 0b010001#6 ∧ fieldRs w = 0b10101#5) :
    decodeFields w = decodeFmtL w := by
  rw [decodeFields_cop1 h.1]; unfold decodeCop1; rw [h.2]; rfl

theorem decodeFields_bc1 {w : Word} (h : fieldOp w = 0b010001#6 ∧ fieldRs w = 0b01000#5) :
    decodeFields w = decodeBc1 w := by
  rw [decodeFields_cop1 h.1]; unfold decodeCop1; rw [h.2]; rfl

theorem decodeFields_bc2 {w : Word} (h : fieldOp w = 0b010010#6 ∧ fieldRs w = 0b01000#5) :
    decodeFields w = decodeBc2 w := by
  rw [decodeFields_cop2 h.1]; unfold decodeCop2; rw [bit25_eq, h.2]; rfl

theorem decodeFields_bshfl {w : Word} (h : fieldOp w = 0b011111#6 ∧ fieldFn w = 0b100000#6) :
    decodeFields w = decodeBshfl w := by
  rw [decodeFields_special3 h.1]; unfold decodeSpecial3; rw [h.2]; rfl

/-! ### Each instruction is read back from its word -/

/-- The three words of `sll` that are no-operations come from `sll` terms that are not well-formed (R359). -/
theorem sll_word_ne {rt rd sa k : Reg} (h : (Instr.sll rt rd sa).wellFormed = true) (hk : k = 0 ∨ k = 1 ∨ k = 3) :
    encode (.sll rt rd sa) ≠ packR 0b000000#6 0 0 0 k 0b000000#6 := by
  intro e
  obtain ⟨-, -, rfl, rfl, rfl, -⟩ := packR_inj ((encode_sll rt rd sa).symm.trans e)
  rcases hk with rfl | rfl | rfl <;> exact absurd h (by decide)

/-- The canonical word of an instruction is the word the encoder writes. -/
theorem canonicalWord_encode (i : Instr) : canonicalWord (encode i) = encode i := by
  cases i
  case jr rs => exact Laws.Canonical.jr rs
  case jr_hb rs => exact Laws.Canonical.jr_hb rs
  case jalr rs rd => exact Laws.Canonical.jalr rs rd
  case jalr_hb rs rd => exact Laws.Canonical.jalr_hb rs rd
  case eret => exact Laws.Canonical.eret
  case deret => exact Laws.Canonical.deret
  case tlbr => exact Laws.Canonical.tlbr
  case tlbwi => exact Laws.Canonical.tlbwi
  case tlbwr => exact Laws.Canonical.tlbwr
  case tlbp => exact Laws.Canonical.tlbp
  case wait => exact Laws.Canonical.wait
  all_goals exact canonicalWord_of _ (by simp) (by simp)

/-- The opcode and sub-opcode fields of the word of a well-formed instruction name it (R294 to R303). -/
theorem decodeFields_encode (i : Instr) (h : i.wellFormed = true) : decodeFields (encode i) = .ok i := by
  cases i
  case nop | ssnop | ehb | eret | deret | tlbr | tlbwi | tlbwr | tlbp | wait => rfl
  case sll rt rd sa =>
    have h0 : encode (.sll rt rd sa) ≠ 0x00000000#32 := sll_word_ne h (k := 0) (by decide)
    have h1 : encode (.sll rt rd sa) ≠ 0x00000040#32 := sll_word_ne h (k := 1) (by decide)
    have h3 : encode (.sll rt rd sa) ≠ 0x000000C0#32 := sll_word_ne h (k := 3) (by decide)
    rw [decodeFields_special (by simp)]
    unfold decodeSpecial
    rw [show fieldFn (encode (.sll rt rd sa)) = 0b000000#6 by simp]
    refine (if_neg h0).trans ((if_neg h1).trans ((if_neg h3).trans (congrArg Except.ok ?_)))
    simp
  case movt | rotr | rotrv | jr_hb | jalr_hb =>
    rw [decodeFields_special (by simp)]
    change decodeSpecial (packR _ _ _ _ _ _) = _
    unfold decodeSpecial
    rw [fieldFn_packR]
    refine (if_pos ?_).trans (congrArg Except.ok ?_)
    · simp only [bit6_eq, bit10_eq, bit16_eq, bit21_eq, fieldRs_packR, fieldRt_packR, fieldSa_packR, append_3_2_bit0]
      decide
    · simp [fieldCc_eq]
  case movf | srl | srlv | jr | jalr =>
    rw [decodeFields_special (by simp)]
    change decodeSpecial (packR _ _ _ _ _ _) = _
    unfold decodeSpecial
    rw [fieldFn_packR]
    refine (if_neg ?_).trans (congrArg Except.ok ?_)
    · simp only [bit6_eq, bit10_eq, bit16_eq, bit21_eq, fieldRs_packR, fieldRt_packR, fieldSa_packR, append_3_2_bit0]
      decide
    · simp [fieldCc_eq]
  case mfhi | mflo | mthi | mtlo | sync | mult | multu | div | divu | add | addu | sub | subu | and | or | xor | nor
      | slt | sltu | sra | sllv | srav | movz | movn =>
    rw [decodeFields_special (by simp)]
    change decodeSpecial (packR _ _ _ _ _ _) = _
    unfold decodeSpecial
    rw [fieldFn_packR]
    refine congrArg Except.ok ?_
    simp
  case syscall | break_ =>
    rw [decodeFields_special (by simp)]
    change decodeSpecial (packCode _ _ _) = _
    unfold decodeSpecial
    rw [fieldFn_packCode]
    refine congrArg Except.ok ?_
    simp
  case tge | tgeu | tlt | tltu | teq | tne =>
    rw [decodeFields_special (by simp)]
    change decodeSpecial (packTrap _ _ _ _ _) = _
    unfold decodeSpecial
    rw [fieldFn_packTrap]
    refine congrArg Except.ok ?_
    simp
  case bltz | bgez | bltzal | bgezal | bltzl | bgezl | bltzall | bgezall | synci | tgei | tgeiu | tlti | tltiu | teqi
      | tnei =>
    rw [decodeFields_regimm (by simp)]
    change decodeRegimm (packI _ _ _ _) = _
    unfold decodeRegimm
    rw [fieldRt_packI]
    refine congrArg Except.ok ?_
    simp
  case madd | maddu | msub | msubu | clz | clo | mul =>
    rw [decodeFields_special2 (by simp)]
    change decodeSpecial2 (packR _ _ _ _ _ _) = _
    unfold decodeSpecial2
    rw [fieldUdi_eq, fieldFn_packR]
    refine congrArg Except.ok ?_
    simp
  case sdbbp =>
    rw [decodeFields_special2 (by simp)]
    change decodeSpecial2 (packCode _ _ _) = _
    unfold decodeSpecial2
    rw [fieldUdi_eq, fieldFn_packCode]
    refine congrArg Except.ok ?_
    simp
  case udi =>
    rw [decodeFields_special2 (by simp)]
    change decodeSpecial2 (packCode _ _ _) = _
    unfold decodeSpecial2
    refine (if_pos ?_).trans (congrArg Except.ok ?_)
    all_goals simp [fieldUdi_eq, fieldImpl4_eq]
  case seb | seh | wsbh =>
    rw [decodeFields_bshfl (by simp)]
    change decodeBshfl (packR _ _ _ _ _ _) = _
    unfold decodeBshfl
    rw [fieldSa_packR]
    refine congrArg Except.ok ?_
    simp
  case rdhwr | ext | ins =>
    rw [decodeFields_special3 (by simp)]
    change decodeSpecial3 (packR _ _ _ _ _ _) = _
    unfold decodeSpecial3
    rw [fieldFn_packR]
    refine congrArg Except.ok ?_
    simp
  case mfc0 | mtc0 | rdpgpr | wrpgpr =>
    rw [decodeFields_cop0 (by simp)]
    change decodeCop0 (packR _ _ _ _ _ _) = _
    unfold decodeCop0
    rw [bit25_eq, fieldRs_packR]
    refine congrArg Except.ok ?_
    simp [fieldSel_eq]
  case di | ei =>
    rw [decodeFields_cop0 (by simp)]
    change decodeCop0 (packR _ _ _ _ _ _) = _
    unfold decodeCop0
    rw [bit25_eq, bit5_eq, fieldRs_packR, fieldFn_packR]
    refine congrArg Except.ok ?_
    simp
  case mfc1 | mtc1 | mfhc1 | mthc1 | cfc1 | ctc1 =>
    rw [decodeFields_cop1 (by simp)]
    change decodeCop1 (packR _ _ _ _ _ _) = _
    unfold decodeCop1
    rw [fieldRs_packR]
    refine congrArg Except.ok ?_
    simp
  case bc1f | bc1t | bc1fl | bc1tl =>
    rw [decodeFields_bc1 (by simp)]
    change decodeBc1 (packI _ _ _ _) = _
    unfold decodeBc1
    rw [fieldNdTf_eq, fieldRt_packI, append_3_2_lo]
    refine congrArg Except.ok ?_
    simp [fieldCc_eq]
  case sqrt_s | abs_s | neg_s | mov_s | recip_s | rsqrt_s | round_w_s | trunc_w_s | ceil_w_s | floor_w_s | round_l_s
      | trunc_l_s | ceil_l_s | floor_l_s | cvt_d_s | cvt_w_s | cvt_l_s | c_f_s | c_un_s | c_eq_s | c_ueq_s | c_olt_s
      | c_ult_s | c_ole_s | c_ule_s | c_sf_s | c_ngle_s | c_seq_s | c_ngl_s | c_lt_s | c_nge_s | c_le_s | c_ngt_s
      | add_s | sub_s | mul_s | div_s | movz_s | movn_s =>
    rw [decodeFields_fmtS (by simp)]
    change decodeFmtS (packR _ _ _ _ _ _) = _
    unfold decodeFmtS
    rw [fieldFn_packR]
    refine congrArg Except.ok ?_
    simp [fieldCcCmp_eq]
  case sqrt_d | abs_d | neg_d | mov_d | recip_d | rsqrt_d | round_w_d | trunc_w_d | ceil_w_d | floor_w_d | round_l_d
      | trunc_l_d | ceil_l_d | floor_l_d | cvt_s_d | cvt_w_d | cvt_l_d | c_f_d | c_un_d | c_eq_d | c_ueq_d | c_olt_d
      | c_ult_d | c_ole_d | c_ule_d | c_sf_d | c_ngle_d | c_seq_d | c_ngl_d | c_lt_d | c_nge_d | c_le_d | c_ngt_d
      | add_d | sub_d | mul_d | div_d | movz_d | movn_d =>
    rw [decodeFields_fmtD (by simp)]
    change decodeFmtD (packR _ _ _ _ _ _) = _
    unfold decodeFmtD
    rw [fieldFn_packR]
    refine congrArg Except.ok ?_
    simp [fieldCcCmp_eq]
  case movt_s | movf_s =>
    rw [decodeFields_fmtS (by simp)]
    change decodeFmtS (packR _ _ _ _ _ _) = _
    unfold decodeFmtS
    rw [bit16_eq, fieldFn_packR, fieldRt_packR, append_3_2_bit0]
    refine congrArg Except.ok ?_
    simp [fieldCc_eq]
  case movt_d | movf_d =>
    rw [decodeFields_fmtD (by simp)]
    change decodeFmtD (packR _ _ _ _ _ _) = _
    unfold decodeFmtD
    rw [bit16_eq, fieldFn_packR, fieldRt_packR, append_3_2_bit0]
    refine congrArg Except.ok ?_
    simp [fieldCc_eq]
  case cvt_s_w | cvt_d_w =>
    rw [decodeFields_fmtW (by simp)]
    change decodeFmtW (packR _ _ _ _ _ _) = _
    unfold decodeFmtW
    rw [fieldFn_packR]
    refine congrArg Except.ok ?_
    simp
  case cvt_s_l | cvt_d_l =>
    rw [decodeFields_fmtL (by simp)]
    change decodeFmtL (packR _ _ _ _ _ _) = _
    unfold decodeFmtL
    rw [fieldFn_packR]
    refine congrArg Except.ok ?_
    simp
  case lwxc1 | ldxc1 | luxc1 | swxc1 | sdxc1 | suxc1 | prefx | madd_s | madd_d | msub_s | msub_d | nmadd_s | nmadd_d
      | nmsub_s | nmsub_d =>
    rw [decodeFields_cop1x (by simp)]
    change decodeCop1x (packR _ _ _ _ _ _) = _
    unfold decodeCop1x
    rw [fieldFn_packR]
    refine congrArg Except.ok ?_
    simp
  case cfc2 | ctc2 =>
    rw [decodeFields_cop2 (by simp)]
    change decodeCop2 (packR _ _ _ _ _ _) = _
    unfold decodeCop2
    rw [bit25_eq, fieldRs_packR]
    refine congrArg Except.ok ?_
    simp
  case mfc2 | mtc2 | mfhc2 | mthc2 =>
    rw [decodeFields_cop2 (by simp)]
    change decodeCop2 (packI _ _ _ _) = _
    unfold decodeCop2
    rw [bit25_eq, fieldRs_packI]
    refine congrArg Except.ok ?_
    simp
  case bc2f | bc2t | bc2fl | bc2tl =>
    rw [decodeFields_bc2 (by simp)]
    change decodeBc2 (packI _ _ _ _) = _
    unfold decodeBc2
    rw [fieldNdTf_eq, fieldRt_packI, append_3_2_lo]
    refine congrArg Except.ok ?_
    simp [fieldCc_eq]
  case cop2 =>
    rw [decodeFields_cop2 (by simp)]
    change decodeCop2 (packJ _ _) = _
    unfold decodeCop2
    refine (if_pos ?_).trans (congrArg Except.ok ?_)
    · rw [bit25_target, fieldTarget_packJ, append_1_25_bit25]; rfl
    · simp [fieldImpl25_eq]
  case j | jal | jalx =>
    change decodeFields (packJ _ _) = _
    unfold decodeFields
    rw [fieldOp_packJ]
    refine congrArg Except.ok ?_
    simp
  all_goals
    change decodeFields (packI _ _ _ _) = _
    unfold decodeFields
    rw [fieldOp_packI]
    refine congrArg Except.ok ?_
    simp

/-- Settles O33: the fields name the instruction, and its word is canonical, so the last test of the decoder passes. -/
theorem decodeEncode : Obligations.DecodeEncode := by
  intro i h
  unfold decode
  rw [decodeFields_encode i h]
  exact if_pos (canonicalWord_encode i).symm

/-- What decoding a word to an instruction says (R310). -/
theorem decode_eq_ok_iff (w : Word) (i : Instr) :
    decode w = .ok i ↔ decodeFields w = .ok i ∧ encode i = canonicalWord w := by
  unfold decode
  constructor
  · intro h
    split at h
    · next j hj =>
      split at h
      · next he => cases h; exact ⟨hj, he⟩
      · cases h
    · cases h
  · rintro ⟨hf, he⟩
    rw [hf]
    exact if_pos he

/-- A word whose canonical form lies in SPECIAL and is no register jump is that form itself: only `wait` and the register
jumps have hint bits (logs 43, 49). -/
theorem eq_of_canonicalWord {w v : Word} (h : canonicalWord w = v) (hop : fieldOp v = 0b000000#6)
    (hfn : fieldFn v = 0b000000#6) : w = v := by
  unfold canonicalWord at h
  split at h
  · subst h; exact absurd hop (by decide)
  · split at h
    · next hj =>
      have hkeep : fieldFn (w &&& 0xFFFFFC3F#32) = fieldFn w := by
        unfold fieldFn
        rw [BitVec.extractLsb'_and, show BitVec.extractLsb' 0 6 0xFFFFFC3F#32 = BitVec.allOnes 6 from rfl,
          BitVec.and_allOnes]
      rw [← h, hkeep] at hfn
      rw [hfn] at hj
      exact absurd hj.2 (by decide)
    · exact h

/-- The fields never name an `sll` that is one of the no-operations (R359, R589 to R591). -/
theorem wellFormed_of_decode {w : Word} {i : Instr} (h : decode w = .ok i) : i.wellFormed = true := by
  obtain ⟨hf, he⟩ := (decode_eq_ok_iff w i).1 h
  cases i
  case sll rt rd sa =>
    have hw : w = encode (.sll rt rd sa) := eq_of_canonicalWord he.symm (by simp) (by simp)
    by_contra hn
    simp only [Instr.wellFormed, Bool.not_eq_true, Bool.not_eq_false', Bool.and_eq_true, Bool.or_eq_true,
      beq_iff_eq] at hn
    obtain ⟨⟨rfl, rfl⟩, (rfl | rfl) | rfl⟩ := hn
    all_goals subst hw; exact absurd hf (by decide)
  all_goals rfl

/-- Settles O34: the last test of the decoder compares the word with the encoding. -/
theorem decodedWordIsEncoding : Obligations.DecodedWordIsEncoding := fun w i h =>
  ⟨wellFormed_of_decode h, ((decode_eq_ok_iff w i).1 h).2⟩

end Sys2Proof
/-! ## What the memory operations leave alone (20_memory.md)

The state outside one side of the memory system: with the memory behind the caches, the gather buffer, the cache of one
side, the DSPRAM's bytes and the environment's answers blanked. An access through one side keeps it, so each of its
fields outside that side is kept by projection. -/

namespace Sys2Proof.Machine

theorem Res.All.mono {α : Type} {P Q : State → Prop} {r : Res α} (h : r.All P) (hpq : ∀ t, P t → Q t) : r.All Q := by
  cases r <;> first | exact hpq _ h | trivial

theorem Res.All.and {α : Type} {P Q : State → Prop} {r : Res α} (hp : r.All P) (hq : r.All Q) :
    r.All (fun t => P t ∧ Q t) := by
  cases r <;> first | exact ⟨hp, hq⟩ | trivial

/-- The state without side `d` of the memory system. -/
def State.outside (s : State) (d : Bool) : State :=
  { s.setCache d .empty with
    mem := [], gather := none, dspram := { s.dspram with cells := [] }, inputs := .quiet, pendDBE := [], choices := [] }

/-- Nothing outside side `d` of the memory system changed. -/
def SideOnly (d : Bool) (s t : State) : Prop := t.outside d = s.outside d

theorem SideOnly.refl (d : Bool) (s : State) : SideOnly d s s := rfl

theorem SideOnly.trans {d : Bool} {s t u : State} (h : SideOnly d s t) (h' : SideOnly d t u) : SideOnly d s u :=
  Eq.trans h' h

/-- Going on after a computation that kept to its side. -/
theorem SideOnly.andThen {α β : Type} {d : Bool} {s : State} {r : Res α} {k : α → State → Res β}
    (h : r.All (SideOnly d s)) (hk : ∀ a t, (k a t).All (SideOnly d t)) : (r.andThen k).All (SideOnly d s) :=
  Res.All.andThen h fun a t ht => (hk a t).mono fun _ hu => ht.trans hu

section Fields
variable {d : Bool} {s t : State}
theorem SideOnly.pc (h : SideOnly d s t) : t.pc = s.pc := by
  cases d <;> exact congrArg (fun u => u.pc) h
theorem SideOnly.npc (h : SideOnly d s t) : t.npc = s.npc := by
  cases d <;> exact congrArg (fun u => u.npc) h
theorem SideOnly.slot (h : SideOnly d s t) : t.slot = s.slot := by
  cases d <;> exact congrArg (fun u => u.slot) h
theorem SideOnly.cfg (h : SideOnly d s t) : t.cfg = s.cfg := by
  cases d <;> exact congrArg (fun u => u.cfg) h
theorem SideOnly.fcsr (h : SideOnly d s t) : t.fcsr = s.fcsr := by
  cases d <;> exact congrArg (fun u => u.fcsr) h
theorem SideOnly.cp0 (h : SideOnly d s t) : t.cp0 = s.cp0 := by
  cases d <;> exact congrArg (fun u => u.cp0) h
theorem SideOnly.gpr (h : SideOnly d s t) : t.gpr = s.gpr := by
  cases d <;> exact congrArg (fun u => u.gpr) h
theorem SideOnly.dbg (h : SideOnly d s t) : t.dbg = s.dbg := by
  cases d <;> exact congrArg (fun u => u.dbg) h
theorem SideOnly.tlb (h : SideOnly d s t) : t.tlb = s.tlb := by
  cases d <;> exact congrArg (fun u => u.tlb) h
theorem SideOnly.hazards (h : SideOnly d s t) : t.hazards = s.hazards := by
  cases d <;> exact congrArg (fun u => u.hazards) h
theorem SideOnly.excCount (h : SideOnly d s t) : t.excCount = s.excCount := by
  cases d <;> exact congrArg (fun u => u.excCount) h
end Fields

/-! ### Single operations -/

theorem sideOnly_flushGather (d : Bool) (s : State) : SideOnly d s s.flushGather := by
  rw [flushGather_eq]
  cases d <;> rfl

theorem sideOnly_flushLine (d : Bool) (s : State) (pa : Word) : SideOnly d s (s.flushLine pa) := by
  obtain h | h := flushLine_cases s pa <;> rw [h]
  · exact .refl d s
  · exact sideOnly_flushGather d s

theorem sideOnly_setCache (d : Bool) (s : State) (c : Cache) : SideOnly d s (s.setCache d c) := by
  cases d <;> rfl

theorem sideOnly_useSlot (d : Bool) (s : State) (slot : Nat) : SideOnly d s (s.useSlot d slot) :=
  sideOnly_setCache d s _

theorem sideOnly_writebackSlot (s : State) (slot : Nat) : SideOnly true s (s.writebackSlot slot) := by
  simp only [State.writebackSlot]
  split <;> rfl

theorem sideOnly_invalidateSlot (d : Bool) (s : State) (slot : Nat) : SideOnly d s (s.invalidateSlot d slot) :=
  (sideOnly_setCache d s _).trans (sideOnly_useSlot d _ slot)

theorem sideOnly_dropChoice (d : Bool) (s : State) : SideOnly d s s.dropChoice := by
  cases d <;> rfl

theorem sideOnly_noteDBE (d : Bool) (s : State) : SideOnly d s s.noteDBE := by
  cases d <;> rfl

theorem sideOnly_busRead (d : Bool) (s : State) (fetch : Bool) (pa n : Nat) :
    (s.busRead fetch pa n).All (SideOnly d s) := by
  obtain ⟨-, inp, h⟩ | ⟨-, -, h⟩ | ⟨-, -, -, h⟩ | ⟨-, -, -, h⟩ := busRead_cases s fetch pa n <;> rw [h]
  · cases d <;> rfl
  · trivial
  · exact .refl d s
  · exact .refl d s

theorem sideOnly_installLine (d : Bool) (s : State) (va pa : Word) (way : Nat) (bs : List Byte) (dirty : Bool) :
    SideOnly d s (s.installLine d va pa way bs dirty).2 := by
  refine SideOnly.trans ?_ ((sideOnly_setCache d _ _).trans (sideOnly_useSlot d _ _))
  cases d
  · exact .refl _ s
  · exact sideOnly_writebackSlot s _

theorem sideOnly_refill (d : Bool) (s : State) (fetch : Bool) (va pa : Word) (allowed : Nat → Bool) :
    (s.refill d fetch va pa allowed).All (SideOnly d s) := by
  unfold State.refill
  split
  · trivial
  · have h0 : SideOnly d s (if d = true then s.flushLine pa else s) := by
      split
      · exact sideOnly_flushLine d s pa
      · exact .refl d s
    refine SideOnly.andThen (((sideOnly_busRead d _ _ _ _).mono fun t ht =>
      (h0.trans (sideOnly_dropChoice d _)).trans ht)) ?_
    intro bs t
    split
    · exact .refl d t
    · exact sideOnly_installLine d t _ _ _ _ _

theorem sideOnly_ensureLine (d : Bool) (s : State) (fetch : Bool) (va pa : Word) :
    (s.ensureLine d fetch va pa).All (SideOnly d s) := by
  unfold State.ensureLine
  split
  · exact sideOnly_useSlot d s _
  · exact sideOnly_refill d s _ _ _ _

/-! ### Accesses -/

theorem sideOnly_readPart (s : State) (va pa : Word) (cca : BitVec 3) (n : Nat) :
    (s.readPart va pa cca n).All (SideOnly true s) := by
  unfold State.readPart
  split
  · exact .refl _ s
  · split
    · trivial
    · split
      all_goals
        refine SideOnly.andThen (Res.All.mono ?_ fun t ht => (sideOnly_flushLine true s pa).trans ht) ?_
      · exact sideOnly_ensureLine true _ _ _ _
      · intro slot t
        split
        · exact .refl _ t
        · exact sideOnly_noteDBE true t
      · exact sideOnly_busRead true _ _ _ _
      · intro bs t
        split
        · exact .refl _ t
        · exact sideOnly_noteDBE true t

theorem sideOnly_gatherStore (s : State) (pa : Nat) (bs : List Byte) : SideOnly true s (s.gatherStore pa bs) := by
  have h1 : SideOnly true s (match s.gather with
      | some g => if g.line = pa - pa % gatherLine s.cfg then s else s.flushGather
      | none => s) := by
    split
    · split
      · exact .refl _ s
      · exact sideOnly_flushGather true s
    · exact .refl _ s
  unfold State.gatherStore
  simp only
  split
  · exact h1.trans (SideOnly.trans (by rfl) (sideOnly_flushGather true _))
  · exact h1.trans (by rfl)

theorem sideOnly_writePart (s : State) (va pa : Word) (cca : BitVec 3) (whole : Bool) (bs : List Byte) :
    (s.writePart va pa cca whole bs).All (SideOnly true s) := by
  unfold State.writePart
  split
  · rfl
  · split
    · trivial
    · simp only
      split
      · refine SideOnly.andThen (sideOnly_ensureLine true s _ _ _) fun slot t => ?_
        split
        · rfl
        · rfl
      · split
        · trivial
        · split
          · split
            · exact sideOnly_gatherStore s _ _
            · trivial
          · have h1 : SideOnly true s { s.flushLine pa with
                mem := physWrite s.cfg.physMap (s.flushLine pa).mem pa.toNat bs } :=
              (sideOnly_flushLine true s pa).trans rfl
            split
            · split
              · exact h1.trans (SideOnly.trans (by rfl) (sideOnly_useSlot true _ _))
              · split
                · refine SideOnly.andThen ((sideOnly_refill true _ _ _ _ _).mono fun t ht =>
                    (h1.trans (sideOnly_dropChoice true _)).trans ht) fun slot t => ?_
                  split
                  · exact .refl _ t
                  · exact sideOnly_noteDBE true t
                · exact h1.trans (sideOnly_dropChoice true _)
            · exact h1

theorem sideOnly_fetchPart (s : State) (va pa : Word) (cca : BitVec 3) :
    (s.fetchPart va pa cca).All (SideOnly false s) := by
  unfold State.fetchPart
  split
  · trivial
  · split
    · exact .refl _ s
    · split
      · trivial
      · simp only
        split
        · split
          · exact sideOnly_useSlot false s _
          · split
            · exact SideOnly.andThen (sideOnly_busRead false s _ _ _) fun _ t => .refl _ t
            · refine SideOnly.andThen (sideOnly_refill false s _ _ _ _) fun slot t => ?_
              split <;> exact .refl _ t
        · exact sideOnly_busRead false s _ _ _

theorem sideOnly_readParts (s : State) (va pa : Word) (cca : BitVec 3) (n : Nat) :
    (s.readParts va pa cca n).All (SideOnly true s) := by
  unfold State.readParts
  split
  · exact SideOnly.andThen (sideOnly_readPart s _ _ _ _) fun _ t =>
      SideOnly.andThen (sideOnly_readPart t _ _ _ _) fun _ u => .refl _ u
  · exact sideOnly_readPart s _ _ _ _

theorem sideOnly_writeParts (s : State) (va pa : Word) (cca : BitVec 3) (whole : Bool) (bs : List Byte) :
    (s.writeParts va pa cca whole bs).All (SideOnly true s) := by
  unfold State.writeParts
  split
  · exact SideOnly.andThen (sideOnly_writePart s _ _ _ _ _) fun _ t => sideOnly_writePart t _ _ _ _ _
  · exact sideOnly_writePart s _ _ _ _ _

theorem memWf_readParts (s : State) (va pa : Word) (cca : BitVec 3) (n : Nat) (h : s.memWf) :
    (s.readParts va pa cca n).All (fun t => t.memWf = true) := by
  unfold State.readParts
  split
  · exact Res.All.andThen (memWf_readPart s _ _ _ _ h) fun _ t ht =>
      Res.All.andThen (memWf_readPart t _ _ _ _ ht) fun _ _ hu => hu
  · exact memWf_readPart s _ _ _ _ h

theorem memWf_writeParts (s : State) (va pa : Word) (cca : BitVec 3) (whole : Bool) (bs : List Byte) (h : s.memWf) :
    (s.writeParts va pa cca whole bs).All (fun t => t.memWf = true) := by
  unfold State.writeParts
  split
  · exact Res.All.andThen (memWf_writePart s _ _ _ _ _ h) fun _ t ht => memWf_writePart t _ _ _ _ _ ht
  · exact memWf_writePart s _ _ _ _ _ h

/-! ### Prefetches -/

theorem sideOnly_prefetchLine (s : State) (va pa : Word) (allowed : Nat → Bool) :
    (s.prefetchLine va pa allowed).All (SideOnly true s) := by
  unfold State.prefetchLine
  split
  · exact sideOnly_useSlot true s _
  · split
    · exact .refl _ s
    · exact SideOnly.andThen (sideOnly_refill true s _ _ _ _) fun _ t => .refl _ t

theorem sideOnly_prepareForStore (s : State) (va pa : Word) : SideOnly true s (s.prepareForStore va pa) := by
  unfold State.prepareForStore
  split
  · exact .refl _ s
  · split
    · exact .refl _ s
    · exact (sideOnly_dropChoice true s).trans (sideOnly_installLine true _ _ _ _ _ _)

theorem sideOnly_nudge (s : State) (va pa : Word) : SideOnly true s (s.nudge va pa) := by
  unfold State.nudge
  split
  · exact (sideOnly_writebackSlot s _).trans (sideOnly_invalidateSlot true _ _)
  · exact .refl _ s

theorem sideOnly_prefetch (s : State) (hint : Reg) (va pa : Word) (cca : BitVec 3) :
    (s.prefetch hint va pa cca).All (SideOnly true s) := by
  have h1 : SideOnly true s (if lineBytes s.cfg true = 0 then s else s.nudge va pa) := by
    split
    · exact .refl _ s
    · exact sideOnly_nudge s va pa
  unfold State.prefetch
  split
  · exact .refl _ s
  · split
    · simp only [Res.All]
      split
      · exact h1.trans (sideOnly_flushLine true _ pa)
      · exact h1
    · split
      · exact .refl _ s
      · split
        · exact sideOnly_prefetchLine s _ _ _
        · split
          · exact sideOnly_prefetchLine s _ _ _
          · split
            · exact sideOnly_prefetchLine s _ _ _
            · exact sideOnly_prepareForStore s _ _

/-! ### Translation reads the state only -/

/-- Translation answers in the state it was asked in. -/
theorem translate_state (s : State) (k : AccKind) (va : Word) : (s.translate k va).All (· = s) := by
  have lookup : ∀ v : State, (s.tlbLookup v k va).All (· = s) := by
    intro v
    unfold State.tlbLookup
    split
    · rfl
    · simp only
      split
      · rfl
      · split <;> rfl
    · trivial
  simp only [State.translate]
  split
  · trivial
  · split
    · rfl
    · split
      · rfl
      · split
        · rfl
        · split
          · rfl
          · split
            · split <;> rfl
            · exact lookup _

theorem translateData_state (s : State) (k : AccKind) (linked : Bool) (va : Word) :
    (s.translateData k linked va).All (· = s) := by
  unfold State.translateData
  refine Res.All.andThen (translate_state s k va) fun p t ht => ?_
  split
  · trivial
  · split
    · trivial
    · exact ht

theorem placeOf_state (s : State) (k : AccKind) (a : DataAccess) : (s.placeOf k a).All (· = s) := by
  unfold State.placeOf
  split
  · split
    · trivial
    · rfl
  · exact Res.All.andThen (translateData_state s k _ _) fun _ _ ht => ht

end Sys2Proof.Machine
/-! ## What every step keeps: the parameters, the reserved bits, the memories' form, the shape of the pc

The body of an instruction leaves the pc fields alone (`Keeps`); its last operation moves the pc or takes an exception
(`StepKeeps`). Each shared operation is shown once to do one or the other, and every instruction is built from them. -/

namespace Sys2Proof.Machine

/-- The fields that control the next instruction and those whose reserved bits stay 0. -/
def State.control (s : State) : Word × Word × Slot × Cfg × Word × Word :=
  (s.pc, s.npc, s.slot, s.cfg, s.fcsr, s.cp0.status)

/-- What the body of an instruction keeps before its last operation. -/
structure Keeps (s t : State) : Prop where
  pc : t.pc = s.pc
  npc : t.npc = s.npc
  slot : t.slot = s.slot
  cfg : t.cfg = s.cfg
  reserved : s.reservedOk → t.reservedOk
  memory : s.memWf → t.memWf

/-- What a whole step keeps. -/
structure StepKeeps (s t : State) : Prop where
  cfg : t.cfg = s.cfg
  reserved : s.reservedOk → t.reservedOk
  memory : s.memWf → t.memWf
  pc : s.pcOk → t.pcOk

theorem Keeps.refl (s : State) : Keeps s s := ⟨rfl, rfl, rfl, rfl, id, id⟩

theorem Keeps.trans {s t u : State} (h : Keeps s t) (h' : Keeps t u) : Keeps s u where
  pc := h'.pc.trans h.pc
  npc := h'.npc.trans h.npc
  slot := h'.slot.trans h.slot
  cfg := h'.cfg.trans h.cfg
  reserved := h'.reserved ∘ h.reserved
  memory := h'.memory ∘ h.memory

theorem StepKeeps.trans {s t u : State} (h : StepKeeps s t) (h' : StepKeeps t u) : StepKeeps s u where
  cfg := h'.cfg.trans h.cfg
  reserved := h'.reserved ∘ h.reserved
  memory := h'.memory ∘ h.memory
  pc := h'.pc ∘ h.pc

theorem Keeps.pcOk {s t : State} (h : Keeps s t) (hs : s.pcOk) : t.pcOk := by
  simpa only [State.pcOk, h.pc, h.npc, h.slot] using hs

theorem Keeps.step {s t : State} (h : Keeps s t) : StepKeeps s t := ⟨h.cfg, h.reserved, h.memory, h.pcOk⟩

/-- A body that leaves the control fields alone keeps what it must, if it keeps the memories' form. -/
theorem Keeps.of_control {s t : State} (h : t.control = s.control) (hm : s.memWf → t.memWf) : Keeps s t := by
  simp only [State.control, Prod.mk.injEq] at h
  obtain ⟨h1, h2, h3, h4, h5, h6⟩ := h
  exact ⟨h1, h2, h3, h4, fun hr => by simpa only [State.reservedOk, h5, h6] using hr, hm⟩

/-- An update of other fields keeps everything. -/
theorem Keeps.of_same {s t : State} (h : t.control = s.control)
    (hm : (t.mem, t.icache, t.dcache, t.ispram, t.dspram, t.gather) =
      (s.mem, s.icache, s.dcache, s.ispram, s.dspram, s.gather)) : Keeps s t := by
  simp only [Prod.mk.injEq] at hm
  obtain ⟨h1, h2, h3, h4, h5, h6⟩ := hm
  exact .of_control h fun hs => memWf_congr hs h1 h2 h3 h4 h5 h6

theorem SideOnly.control {d : Bool} {s t : State} (h : SideOnly d s t) : t.control = s.control := by
  simp only [State.control, h.pc, h.npc, h.slot, h.cfg, h.fcsr, h.cp0]

theorem SideOnly.keeps {d : Bool} {s t : State} (h : SideOnly d s t) (hm : s.memWf → t.memWf) : Keeps s t :=
  .of_control h.control hm

/-- A computation whose states keep to a side of the memory system and keep the memories' form. -/
theorem SideOnly.all_keeps {α : Type} {d : Bool} {s : State} {r : Res α} (h : r.All (SideOnly d s))
    (hm : s.memWf → r.All (fun t => t.memWf = true)) : r.All (Keeps s) := by
  cases r with
  | ok a t => exact SideOnly.keeps h hm
  | exc e t => exact SideOnly.keeps h hm
  | wait t => exact SideOnly.keeps h hm
  | ref q => trivial
  | flt f => trivial

/-- Going on after a computation that kept everything. -/
theorem Keeps.andThen {α β : Type} {s : State} {r : Res α} {k : α → State → Res β} (h : r.All (Keeps s))
    (hk : ∀ a t, (k a t).All (Keeps t)) : (r.andThen k).All (Keeps s) :=
  Res.All.andThen h fun a t ht => (hk a t).mono fun _ hu => ht.trans hu

/-- A computation that answers in its own state. -/
theorem Keeps.all_of_eq {α : Type} {s : State} {r : Res α} (h : r.All (· = s)) : r.All (Keeps s) :=
  h.mono fun _ ht => ht ▸ .refl s

/-! ### The debug unit and the checks before an access -/

theorem keeps_writeSet (s : State) (set : BitVec 4) (r : Reg) (v : Word) : Keeps s (s.writeSet set r v) := by
  unfold State.writeSet
  split
  · exact .refl s
  · exact .of_same rfl rfl

theorem keeps_writeGpr (s : State) (r : Reg) (v : Word) : Keeps s (s.writeGpr r v) := keeps_writeSet s _ r v

theorem keeps_recordDBreak (s : State) (ms : List (Fin 2)) : Keeps s (s.recordDBreak ms) := .of_same rfl rfl

theorem keeps_noteValueBreak (s s1 : State) (store : Bool) (dest : LoadDest) (va : Word) (bs : List Byte) :
    Keeps s1 (s.noteValueBreak s1 store dest va bs) := by
  unfold State.noteValueBreak
  split
  · exact .refl s1
  · exact .of_same rfl rfl

theorem keeps_markWatch (v s : State) (i : Fin 4) (kind : Nat) (vas : List Word) :
    Keeps s (v.markWatch s i kind vas) := by
  unfold State.markWatch
  split
  · exact .of_same rfl rfl
  · exact .refl s

theorem keeps_checkWatch (s : State) (c : Consumer) (i j : Fin 4) (kind : Nat) (vas : List Word) :
    (s.checkWatch c i j kind vas).All (Keeps s) := by
  have hm : Keeps s ((s.matchView c).markWatch ((s.matchView c).markWatch s i kind vas) j kind vas) :=
    (keeps_markWatch _ _ _ _ _).trans (keeps_markWatch _ _ _ _ _)
  unfold State.checkWatch
  simp only
  split
  · split
    · exact hm.trans (.of_same rfl rfl)
    · exact hm
  · exact .refl s

theorem keeps_dataChecks (s : State) (store broken : Bool) (a : DataAccess) :
    (s.dataChecks store broken a).All (Keeps s) := by
  unfold State.dataChecks
  generalize (if broken = true then s.preciseBreaks store a.first a.size else []) = ms
  simp only
  split
  · exact keeps_recordDBreak s ms
  · refine Keeps.andThen (keeps_checkWatch s _ _ _ _ _) fun _ t => ?_
    split <;> exact .refl t

theorem keeps_dmsegRead (s : State) (va : Word) (k n : Nat) : (s.dmsegRead va k n).All (Keeps s) := by
  unfold State.dmsegRead
  split
  · exact .refl s
  · split
    · exact .of_same rfl rfl
    · exact .of_same rfl rfl

theorem keeps_dmsegWrite (s : State) (va : Word) (k : Nat) (bs : List Byte) : (s.dmsegWrite va k bs).All (Keeps s) := by
  unfold State.dmsegWrite
  simp only
  split
  · exact .refl s
  · split
    · exact .of_same rfl rfl
    · exact .of_same rfl rfl

theorem keeps_drsegWrite (s t : State) (va w : Word) (h : s.drsegWrite va w = some t) : Keeps s t := by
  simp only [State.drsegWrite] at h
  split at h
  · cases h
  · split at h
    · cases h; exact .of_same rfl rfl
    · split at h
      · cases h; exact .of_same rfl rfl
      · split at h
        · cases h; exact .of_same rfl rfl
        · split at h
          · cases h
          · cases h; exact .of_same rfl rfl

theorem keeps_dsegLoad (s : State) (r : Dseg) (va : Word) (k n : Nat) : (s.dsegLoad r va k n).All (Keeps s) := by
  unfold State.dsegLoad
  split
  · exact keeps_dmsegRead s _ _ _
  · split
    · trivial
    · split
      · trivial
      · exact .refl s

theorem keeps_dsegStore (s : State) (r : Dseg) (va : Word) (k : Nat) (bs : List Byte) :
    (s.dsegStore r va k bs).All (Keeps s) := by
  unfold State.dsegStore
  split
  · exact keeps_dmsegWrite s _ _ _
  · split
    · trivial
    · split
      · trivial
      · next h => exact keeps_drsegWrite s _ _ _ h

theorem keeps_dsegReadParts (s : State) (r : Dseg) (va : Word) (n : Nat) : (s.dsegReadParts r va n).All (Keeps s) := by
  unfold State.dsegReadParts
  split
  · exact Keeps.andThen (keeps_dsegLoad s _ _ _ _) fun _ t =>
      Keeps.andThen (keeps_dsegLoad t _ _ _ _) fun _ u => .refl u
  · exact keeps_dsegLoad s _ _ _ _

theorem keeps_dsegWriteParts (s : State) (r : Dseg) (va : Word) (bs : List Byte) :
    (s.dsegWriteParts r va bs).All (Keeps s) := by
  unfold State.dsegWriteParts
  split
  · exact Keeps.andThen (keeps_dsegStore s _ _ _ _) fun _ t => keeps_dsegStore t _ _ _ _
  · exact keeps_dsegStore s _ _ _ _

/-! ### Accesses -/

theorem keeps_readParts (s : State) (va pa : Word) (cca : BitVec 3) (n : Nat) :
    (s.readParts va pa cca n).All (Keeps s) :=
  SideOnly.all_keeps (sideOnly_readParts s _ _ _ _) (memWf_readParts s _ _ _ _)

theorem keeps_writeParts (s : State) (va pa : Word) (cca : BitVec 3) (whole : Bool) (bs : List Byte) :
    (s.writeParts va pa cca whole bs).All (Keeps s) :=
  SideOnly.all_keeps (sideOnly_writeParts s _ _ _ _ _) (memWf_writeParts s _ _ _ _ _)

theorem keeps_loadBytes (s : State) (a : DataAccess) (dest : LoadDest) : (s.loadBytes a dest).All (Keeps s) := by
  unfold State.loadBytes
  refine Keeps.andThen (keeps_dataChecks s _ _ _) fun _ s1 => ?_
  refine Keeps.andThen (Keeps.andThen (Keeps.all_of_eq (placeOf_state s1 _ _)) fun p s2 => ?_) fun bs s3 => ?_
  · cases p with
    | dseg r => exact Keeps.andThen (keeps_dsegReadParts s2 _ _ _) fun _ t => .refl t
    | phys pa cca => exact keeps_readParts s2 _ _ _ _
  · exact Keeps.trans (t := { s3 with llTouched := true }) (.of_same rfl rfl) (keeps_noteValueBreak s _ _ _ _ _)

theorem keeps_storeBytes (s : State) (a : DataAccess) (whole : Bool) (bs : List Byte) :
    (s.storeBytes a whole bs).All (Keeps s) := by
  unfold State.storeBytes
  refine Keeps.andThen (keeps_dataChecks s _ _ _) fun _ s1 => ?_
  refine Keeps.andThen (Keeps.andThen (Keeps.all_of_eq (placeOf_state s1 _ _)) fun p s2 => ?_) fun _ s3 => ?_
  · cases p with
    | dseg r => exact keeps_dsegWriteParts s2 _ _ _
    | phys pa cca => exact keeps_writeParts s2 _ _ _ _ _
  · exact Keeps.trans (t := { s3 with llTouched := true }) (.of_same rfl rfl) (keeps_noteValueBreak s _ _ _ _ _)

theorem keeps_memRead (s : State) (va : Word) (n : Nat) (dest : LoadDest) : (s.memRead va n dest).All (Keeps s) :=
  Keeps.andThen (keeps_loadBytes s _ _) fun _ t => .refl t

theorem keeps_memWrite (s : State) (va : Word) (n v : Nat) : (s.memWrite va n v).All (Keeps s) :=
  keeps_storeBytes s _ _ _

theorem keeps_scFails (s : State) (va : Word) : (s.scFails va).All (Keeps s) :=
  Keeps.andThen (keeps_dataChecks s _ _ _) fun _ t =>
    Keeps.andThen (Keeps.all_of_eq (placeOf_state t _ _)) fun _ u => .refl u

theorem keeps_prefetchAt (s : State) (hint : Reg) (va : Word) : (s.prefetchAt hint va).All (Keeps s) := by
  have h0 : Keeps s { s with llTouched := true } := .of_same rfl rfl
  unfold State.prefetchAt
  simp only
  split
  · exact h0
  · have ht := translate_state s .load va
    split
    · exact (SideOnly.all_keeps (sideOnly_prefetch _ _ _ _ _) (memWf_prefetch _ _ _ _ _)).mono fun _ h => h0.trans h
    · exact h0
    · next s1 h => rw [h] at ht; exact ht ▸ .refl s
    · trivial
    · trivial

/-! ### The `cache` instruction and `synci` -/

theorem control_setCp (s : State) (p : Producer) (r : CpReg) (m w : Word) (h : r ≠ .status) :
    (s.setCp p r m w).control = s.control := by
  cases r <;> first | rfl | exact absurd rfl h

theorem keeps_setCp (s : State) (p : Producer) (r : CpReg) (m w : Word) (h : r ≠ .status) : Keeps s (s.setCp p r m w) :=
  .of_same (control_setCp s p r m w h) rfl

theorem keeps_synciLine (s : State) (va pa : Word) (cca : BitVec 3) : Keeps s (s.synciLine va pa cca) := by
  refine .of_control ?_ (memWf_synciLine s va pa cca)
  unfold State.synciLine
  split
  · rfl
  · have h1 : (if lineBytes s.cfg true = 0 then s else
        match s.dcache.lookup s.cfg true va pa with
        | some slot => s.writebackSlot slot
        | none => s).control = s.control := by
      split
      · rfl
      · split
        · exact (sideOnly_writebackSlot s _).control
        · rfl
    simp only
    split
    · exact h1
    · split
      · exact ((sideOnly_setCache false _ _).trans (sideOnly_useSlot false _ _)).control.trans h1
      · exact h1

theorem control_indexLoadTag (s : State) (d : Bool) (va : Word) : (s.indexLoadTag d va).control = s.control := by
  cases d <;> simp [State.indexLoadTag, control_setCp]

theorem control_waySelectLoad (s : State) (d : Bool) (va : Word) : (s.waySelectLoad d va).control = s.control := by
  cases d <;> simp [State.waySelectLoad, control_setCp]

theorem control_spramStoreTag (s : State) (d : Bool) (va w : Word) : (s.spramStoreTag d va w).control = s.control := by
  cases d <;> simp only [State.spramStoreTag, if_true, if_false, Bool.false_eq_true] <;> split <;> rfl

theorem control_spramStoreData (s : State) (va : Word) (bs : List Byte) :
    (s.spramStoreData va bs).control = s.control := by
  simp only [State.spramStoreData]
  split <;> rfl

theorem control_spramLoadTag (s : State) (d : Bool) (va : Word) : (s.spramLoadTag d va).control = s.control := by
  cases d <;> simp [State.spramLoadTag, control_setCp]

theorem control_lockSlot (s : State) (d lock : Bool) (slot : Nat) : (s.lockSlot d lock slot).control = s.control := by
  unfold State.lockSlot
  split
  · exact (sideOnly_setCache d s _).control
  · rfl

/-- A hazard noted on the instruction side only, then a change of one side. -/
theorem control_noted (d : Bool) (s : State) (o : HazardOld) : (if d = true then s else s.pushHazard o).control = s.control := by
  cases d <;> rfl

theorem control_indexOp (s : State) (d : Bool) (op : BitVec 3) (va : Word) :
    (s.indexOp d op va).All (fun t => t.control = s.control) := by
  unfold State.indexOp
  simp only
  split
  · trivial
  · split
    · split
      · exact control_spramLoadTag s d va
      · exact control_spramStoreTag s d va _
      · split
        · rfl
        · exact control_spramStoreData s va _
      · rfl
    · split
      · rfl
      · split
        · refine (sideOnly_invalidateSlot d _ _).control.trans ?_
          cases d
          · rfl
          · exact (sideOnly_writebackSlot s _).control
        · simp only [Res.All]
          split
          · exact control_waySelectLoad s d va
          · exact control_indexLoadTag s d va
        · split
          · exact (sideOnly_setCache d s _).control
          · exact ((sideOnly_setCache d _ _).trans (sideOnly_useSlot d _ _)).control.trans (control_noted d s _)
        · exact ((sideOnly_setCache d _ _).trans (sideOnly_useSlot d _ _)).control.trans (control_noted d s _)
        · rfl

theorem control_hitOp (s : State) (d : Bool) (op : BitVec 3) (va pa : Word) :
    (s.hitOp d op va pa).control = s.control := by
  unfold State.hitOp
  split
  · rfl
  · split
    · rfl
    · split
      · exact (sideOnly_invalidateSlot d _ _).control.trans (control_noted d s _)
      · exact ((sideOnly_writebackSlot s _).trans (sideOnly_invalidateSlot true _ _)).control
      · exact ((sideOnly_writebackSlot s _).trans (sideOnly_useSlot true _ _)).control
      · rfl

theorem control_fillLine (s : State) (d lock : Bool) (va pa : Word) :
    (s.fillLine d lock va pa).All (fun t => t.control = s.control) := by
  unfold State.fillLine
  split
  · rfl
  · split
    · refine (control_lockSlot _ _ _ _).trans ((sideOnly_useSlot d _ _).control.trans ?_)
      split <;> rfl
    · refine Res.All.andThen ((sideOnly_refill d s _ _ _ _).mono fun _ h => h.control) fun slot t ht => ?_
      split
      · exact (sideOnly_noteDBE d t).control.trans ht
      · exact (control_lockSlot _ _ _ _).trans ((control_noted d t _).trans ht)

theorem control_cacheOp (s : State) (op : Reg) (va pa : Word) :
    (s.cacheOp op va pa).All (fun t => t.control = s.control) := by
  unfold State.cacheOp
  simp only
  split
  · exact control_indexOp s _ _ _
  · exact control_indexOp s _ _ _
  · exact control_indexOp s _ _ _
  · exact control_indexOp s _ _ _
  · exact control_hitOp s _ _ _ _
  · split
    · exact control_hitOp s _ _ _ _
    · exact control_fillLine s _ _ _ _
  · split
    · exact control_hitOp s _ _ _ _
    · rfl
  · exact control_fillLine s _ _ _ _

theorem keeps_cacheOp (s : State) (op : Reg) (va pa : Word) : (s.cacheOp op va pa).All (Keeps s) := by
  have hc := control_cacheOp s op va pa
  have hm := memWf_cacheOp s op va pa
  cases h : s.cacheOp op va pa <;> rw [h] at hc hm <;> first | exact .of_control hc hm | trivial

/-! ### Fetch -/

theorem keeps_fetchPart (s : State) (va pa : Word) (cca : BitVec 3) : (s.fetchPart va pa cca).All (Keeps s) :=
  SideOnly.all_keeps (sideOnly_fetchPart s _ _ _) (memWf_fetchPart s _ _ _)

theorem keeps_cacheErrorFirst {α : Type} (s : State) (k : Res α) (h : k.All (Keeps s)) :
    (s.cacheErrorFirst k).All (Keeps s) := by
  unfold State.cacheErrorFirst
  split
  · exact .of_same rfl rfl
  · exact h

theorem keeps_checkIBreak (s t : State) (pc : Word) (h : s.checkIBreak pc = some t) : Keeps s t := by
  simp only [State.checkIBreak] at h
  split at h
  · cases h
  · cases h; exact .of_same rfl rfl

theorem keeps_fetchWord (s : State) (pc : Word) : (s.fetchWord pc).All (Keeps s) := by
  unfold State.fetchWord
  split
  · next h => exact keeps_checkIBreak s _ pc h
  · refine Keeps.andThen (keeps_checkWatch s _ _ _ _ _) fun _ s1 => ?_
    split
    · exact .refl s1
    · split
      · exact Keeps.andThen (keeps_cacheErrorFirst s1 _ (keeps_dmsegRead s1 _ _ _)) fun _ t => .refl t
      · exact keeps_cacheErrorFirst s1 _ trivial
      · refine Keeps.andThen (Keeps.all_of_eq (translate_state s1 _ _)) fun p s2 => ?_
        refine Keeps.andThen (keeps_cacheErrorFirst s2 _ (keeps_fetchPart s2 _ _ _)) fun bs s3 => ?_
        split <;> exact .refl s3

end Sys2Proof.Machine
/-! ### How an instruction ends -/

namespace Sys2Proof.Machine

/-- The pc's shape, read off the three fields. -/
theorem pcOk_iff (s : State) : s.pcOk = true ↔ s.pc.getLsbD 0 = false ∧ s.npc.getLsbD 0 = false ∧
    ((∃ hb, s.slot = .jump hb) ∨ s.npc = s.pc + 4) := by
  unfold State.pcOk
  cases s.slot <;> simp [and_assoc]

theorem even_add (w k : Word) (hw : w.getLsbD 0 = false) (hk : k.getLsbD 0 = false) : (w + k).getLsbD 0 = false := by
  simp_all [BitVec.getElem_add, BitVec.getLsbD_eq_getElem]

theorem even_or (w k : Word) (hw : w.getLsbD 0 = false) (hk : k.getLsbD 0 = false) : (w ||| k).getLsbD 0 = false := by
  simp_all

/-- An even pc followed by the next word, whatever the slot. -/
theorem pcOk_sequential (s : State) (h : s.pc.getLsbD 0 = false) (hn : s.npc = s.pc + 4) : s.pcOk = true :=
  (pcOk_iff s).2 ⟨h, hn ▸ even_add _ 4 h rfl, .inr hn⟩

theorem stepKeeps_advance {s u : State} (h : Keeps s u) : Next (StepKeeps s) u.advance := by
  obtain ⟨-, e⟩ | ⟨-, e⟩ := advance_cases u <;> rw [e]
  · refine StepKeeps.trans h.step ⟨rfl, id, fun hm => memWf_congr hm rfl rfl rfl rfl rfl rfl, fun hp => ?_⟩
    exact pcOk_sequential _ ((pcOk_iff u).1 hp).2.1 rfl
  · trivial

theorem stepKeeps_put {s u : State} (h : Keeps s u) (r : Reg) (v : Word) : Next (StepKeeps s) (u.put r v) :=
  stepKeeps_advance (h.trans (keeps_writeGpr u r v))

/-- A branch or jump whose target is even wherever the pc is. -/
theorem stepKeeps_enterSlot {s u : State} (h : Keeps s u) (taken : Option (Word × Bool))
    (ht : ∀ p ∈ taken, u.pc.getLsbD 0 = false → p.1.getLsbD 0 = false) : Next (StepKeeps s) (u.enterSlot taken) := by
  unfold State.enterSlot
  split
  · trivial
  · split
    · next t hb =>
      refine StepKeeps.trans h.step ⟨rfl, id, fun hm => memWf_congr hm rfl rfl rfl rfl rfl rfl, fun hp => ?_⟩
      obtain ⟨h1, h2, -⟩ := (pcOk_iff u).1 hp
      exact (pcOk_iff _).2 ⟨h2, ht _ rfl h1, .inl ⟨hb, rfl⟩⟩
    · refine StepKeeps.trans h.step ⟨rfl, id, fun hm => memWf_congr hm rfl rfl rfl rfl rfl rfl, fun hp => ?_⟩
      exact pcOk_sequential _ ((pcOk_iff u).1 hp).2.1 rfl

theorem stepKeeps_skipSlot {s u : State} (h : Keeps s u) : Next (StepKeeps s) u.skipSlot := by
  unfold State.skipSlot
  split
  · trivial
  · refine StepKeeps.trans h.step ⟨rfl, id, fun hm => memWf_congr hm rfl rfl rfl rfl rfl rfl, fun hp => ?_⟩
    refine pcOk_sequential _ (even_add _ 4 ((pcOk_iff u).1 hp).2.1 rfl) ?_
    show u.npc + 8 = u.npc + 4 + 4
    rw [BitVec.add_assoc]; rfl

theorem branchTarget_even (pc : Word) (off : BitVec 16) (h : pc.getLsbD 0 = false) :
    (branchTarget pc off).getLsbD 0 = false :=
  even_add _ _ (even_add pc 4 h rfl) (by simp)

theorem jumpTarget_even (pc : Word) (target : BitVec 26) : (jumpTarget pc target).getLsbD 0 = false := by
  unfold jumpTarget
  rw [BitVec.getLsbD_or, BitVec.getLsbD_and, BitVec.getLsbD_setWidth, BitVec.getLsbD_append]
  simp

theorem stepKeeps_branch {s u : State} (h : Keeps s u) (cond : Bool) (off : BitVec 16) :
    Next (StepKeeps s) (u.branch cond off) := by
  unfold State.branch
  split
  · trivial
  · refine stepKeeps_enterSlot h _ fun p hp he => ?_
    split at hp
    · cases hp; exact branchTarget_even _ _ he
    · cases hp

theorem stepKeeps_branchLikely {s u : State} (h : Keeps s u) (cond : Bool) (off : BitVec 16) :
    Next (StepKeeps s) (u.branchLikely cond off) := by
  unfold State.branchLikely
  split
  · trivial
  · split
    · refine stepKeeps_enterSlot h _ fun p hp he => ?_
      cases hp; exact branchTarget_even _ _ he
    · exact stepKeeps_skipSlot h

theorem stepKeeps_jump {s u : State} (h : Keeps s u) (pc : Word) (target : BitVec 26) (hb : Bool) :
    Next (StepKeeps s) (u.jump (jumpTarget pc target) hb) := by
  unfold State.jump
  split
  · trivial
  · refine stepKeeps_enterSlot h _ fun p hp _ => ?_
    cases hp; exact jumpTarget_even _ _

theorem stepKeeps_jumpReg {s u : State} (h : Keeps s u) (t : Word) (hb : Bool) :
    Next (StepKeeps s) (u.jumpReg t hb) := by
  unfold State.jumpReg
  split
  · trivial
  · split
    · trivial
    · next he =>
      refine stepKeeps_enterSlot h _ fun p hp _ => ?_
      cases hp; simpa using he

/-! ### Taking an exception -/

/-- The reserved bits are those of `FCSR` and `Status`. -/
theorem reservedOk_iff (s : State) :
    s.reservedOk = true ↔ s.fcsr &&& 0x001C0000 = 0 ∧ s.cp0.status &&& 0x819500E0 = 0 := by
  simp [State.reservedOk]

theorem or_and_zero {w b k : Word} (h : w &&& k = 0) (hb : b &&& k = 0) : (w ||| b) &&& k = 0 := by
  rw [BitVec.and_comm, BitVec.and_or_distrib_left, BitVec.and_comm k, BitVec.and_comm k, h, hb]; rfl

theorem and_and_zero {w k : Word} (m : Word) (h : w &&& k = 0) : (w &&& m) &&& k = 0 := by
  rw [BitVec.and_assoc, BitVec.and_comm m, ← BitVec.and_assoc, h]; exact BitVec.zero_and

theorem merge_and_zero {w k : Word} (n m : Word) (h : w &&& k = 0) (hn : n &&& m &&& k = 0) : merge w n m &&& k = 0 :=
  or_and_zero (and_and_zero _ h) hn

/-- An entry at an even address that keeps the reserved bits of `Status`. -/
theorem stepKeeps_entry {u t : State} {vec : Word} (e : EntryFrame u t vec) (hm : t.mem = u.flushGather.mem)
    (hv : vec.getLsbD 0 = false) (hc : u.cp0.status &&& 0x819500E0 = 0 → t.cp0.status &&& 0x819500E0 = 0) :
    StepKeeps u t := by
  have hcfg : t.cfg = u.cfg := congrArg (fun t => t.cfg) e.frame
  have hfcsr : t.fcsr = u.fcsr := congrArg (fun t => t.fcsr) e.frame
  have hi : t.icache = u.icache := congrArg (fun t => t.icache) e.frame
  have hd : t.dcache = u.dcache := congrArg (fun t => t.dcache) e.frame
  have hisp : t.ispram = u.ispram := congrArg (fun t => t.ispram) e.frame
  have hdsp : t.dspram = u.dspram := congrArg (fun t => t.dspram) e.frame
  have hg : t.gather = none := congrArg (fun t => t.gather) e.frame
  refine ⟨hcfg, fun hr => ?_, fun hw => ?_, fun _ => ?_⟩
  · obtain ⟨h1, h2⟩ := (reservedOk_iff u).1 hr
    exact (reservedOk_iff t).2 ⟨hfcsr ▸ h1, hc h2⟩
  · obtain ⟨w1, w2, w3, w4, w5, -⟩ := (memWf_iff u).1 hw
    have w := ((memWf_iff _).1 (memWf_flushGather u hw)).1
    exact (memWf_iff t).2 ⟨hm ▸ w, hi ▸ w2, hd ▸ w3, hisp ▸ w4, hdsp ▸ w5, fun g h => by rw [hg] at h; cases h⟩
  · exact pcOk_sequential t (e.pc ▸ hv) (e.npc.trans (by rw [e.pc]))

theorem multiple_even (k : Nat) : (0x200 + BitVec.ofNat 32 (k * 32) : Word).getLsbD 0 = false := by
  refine even_add _ _ rfl ?_
  rw [BitVec.getLsbD_ofNat, show k * 32 = 2 ^ 5 * k by omega, Nat.testBit_two_pow_mul]
  simp

theorem intVector_even (s : State) (off : Word) (set : BitVec 4) (h : s.intVector = .ok (off, set)) :
    off.getLsbD 0 = false := by
  simp only [State.intVector] at h
  split at h
  · cases h; rfl
  · split at h
    · cases h; rfl
    · split at h
      · cases h
      · split at h
        · cases h; exact multiple_even _
        · cases h; exact multiple_even _

theorem vectorOf_even (s : State) (e : Exc) (off : Word) (set : Option (BitVec 4)) (h : s.vectorOf e = .ok (off, set)) :
    off.getLsbD 0 = false := by
  unfold State.vectorOf at h
  split at h
  · cases h; rfl
  · cases e
    case int =>
      cases hv : s.intVector with
      | error r => simp [hv, Except.map] at h
      | ok p =>
        simp only [hv, Except.map, Except.ok.injEq, Prod.mk.injEq] at h
        exact h.1 ▸ intVector_even s p.1 p.2 hv
    all_goals cases h; rfl

theorem entryPoint_even (s : State) (off : Word) (h : off.getLsbD 0 = false) : (s.entryPoint off).getLsbD 0 = false := by
  unfold State.entryPoint
  split
  · exact even_add _ _ rfl h
  · exact even_or _ _ (by simp) h

theorem debugVector_even (s : State) : s.debugVector.getLsbD 0 = false := by
  unfold State.debugVector
  split <;> rfl

theorem cp0After_reserved (s : State) (e : Exc) (set : Option (BitVec 4)) (h : s.cp0.status &&& 0x819500E0 = 0) :
    (s.cp0After e set).status &&& 0x819500E0 = 0 := by
  refine or_and_zero h ?_
  split <;> decide

/-- The frame of an entry that changes CP0 only. -/
theorem entryFrame_cp0 (s : State) (v : Word) (c : Cp0) : EntryFrame s { s.enterAt v with cp0 := c } v := by
  rw [enterAt_eq]
  exact ⟨rfl, rfl, rfl, rfl, gatherWritten_flushGather _ _ rfl⟩

/-- The frame of an entry that changes CP0 and the debug unit. -/
theorem entryFrame_dbg (s : State) (v : Word) (c : Cp0) (d : Dbg) :
    EntryFrame s { s.enterAt v with cp0 := c, dbg := d } v := by
  rw [enterAt_eq]
  exact ⟨rfl, rfl, rfl, rfl, gatherWritten_flushGather _ _ rfl⟩

theorem stepKeeps_takeGeneral (u : State) (e : Exc) : Next (StepKeeps u) (u.takeGeneral e) := by
  unfold State.takeGeneral
  split
  · trivial
  · next off set hv =>
    have hk := stepKeeps_entry (entryFrame_cp0 u (u.entryPoint off) (u.cp0After e set)) rfl
      (entryPoint_even u off (vectorOf_even u e off set hv)) (cp0After_reserved u e set)
    split
    · split
      · trivial
      · exact hk
    · exact hk

theorem stepKeeps_takeCacheError (u : State) : Next (StepKeeps u) u.takeCacheError := by
  refine stepKeeps_entry (entryFrame_cp0 u _ _) rfl ?_ (fun h => or_and_zero h (by decide))
  split
  · rfl
  · exact even_or _ _ (even_or _ _ rfl (by simp)) rfl

theorem stepKeeps_takeDebug (u : State) (causes : Word) : Next (StepKeeps u) (u.takeDebug causes) :=
  stepKeeps_entry (entryFrame_dbg u _ _ _) rfl (debugVector_even u) id

theorem stepKeeps_takeNested (u : State) (e : Exc) : Next (StepKeeps u) (u.takeNested e) :=
  stepKeeps_entry (entryFrame_cp0 u _ _) rfl (debugVector_even u) id

theorem stepKeeps_takeNmi (u : State) : Next (StepKeeps u) u.takeNmi :=
  stepKeeps_entry (entryFrame_enterAt u _ _ _ _) rfl rfl (fun h => merge_and_zero _ _ h (by decide))

theorem stepKeeps_raise {s u : State} (h : Keeps s u) (e : Exc) : Next (StepKeeps s) (u.raise e) := by
  have hu : Next (StepKeeps u) (u.raise e) := by
    unfold State.raise
    split
    · exact stepKeeps_takeNested u e
    · cases e
      case debug causes => exact stepKeeps_takeDebug u causes
      case sdbbp => exact stepKeeps_takeDebug u _
      case cacheError => exact stepKeeps_takeCacheError u
      all_goals exact stepKeeps_takeGeneral u _
  cases hr : u.raise e with
  | next t => rw [hr] at hu; exact h.step.trans hu
  | fault f => trivial
  | refused r => trivial

/-- A computation that keeps what it must, ended by the advance, the exception or the wait it asks for. -/
theorem stepKeeps_finish {α : Type} {s : State} {r : Res α} (h : r.All (Keeps s)) : Next (StepKeeps s) r.finish := by
  cases r with
  | ok a t => exact stepKeeps_advance h
  | exc e t => exact stepKeeps_raise h e
  | wait t => exact Keeps.step h
  | ref q => trivial
  | flt f => trivial

/-! ### Returns -/

theorem stepKeeps_returnTo (u : State) (t : Word) : Next (StepKeeps u) (u.returnTo t) := by
  unfold State.returnTo
  split
  · trivial
  · next h =>
    exact ⟨rfl, id, fun hm => memWf_congr hm rfl rfl rfl rfl rfl rfl, fun _ => pcOk_sequential _ (by simpa using h) rfl⟩

theorem Next.mono {P Q : State → Prop} {o : Out} (h : Next P o) (hpq : ∀ t, P t → Q t) : Next Q o := by
  cases o <;> first | exact hpq _ h | trivial

/-- A body that changes `Status` and other fields of CP0 but no memory, with the reserved bits kept. -/
theorem keeps_status (s t : State) (hc : (t.pc, t.npc, t.slot, t.cfg, t.fcsr) = (s.pc, s.npc, s.slot, s.cfg, s.fcsr))
    (hm : (t.mem, t.icache, t.dcache, t.ispram, t.dspram, t.gather) =
      (s.mem, s.icache, s.dcache, s.ispram, s.dspram, s.gather))
    (hr : s.cp0.status &&& 0x819500E0 = 0 → t.cp0.status &&& 0x819500E0 = 0) : Keeps s t := by
  simp only [Prod.mk.injEq] at hc hm
  obtain ⟨h1, h2, h3, h4, h5⟩ := hc
  obtain ⟨m1, m2, m3, m4, m5, m6⟩ := hm
  refine ⟨h1, h2, h3, h4, fun h => ?_, fun h => memWf_congr h m1 m2 m3 m4 m5 m6⟩
  obtain ⟨hf, hs⟩ := (reservedOk_iff s).1 h
  exact (reservedOk_iff t).2 ⟨h5 ▸ hf, hr hs⟩

theorem stepKeeps_doEret (s : State) : Next (StepKeeps s) s.doEret := by
  simp only [State.doEret]
  split
  · refine (stepKeeps_returnTo _ _).mono fun t ht => (Keeps.step ?_).trans ht
    exact keeps_status _ _ rfl rfl (and_and_zero _)
  · split
    · trivial
    · refine (stepKeeps_returnTo _ _).mono fun t ht => (Keeps.step ?_).trans ht
      exact keeps_status _ _ rfl rfl (and_and_zero _)

theorem stepKeeps_doDeret (s : State) : Next (StepKeeps s) s.doDeret := by
  refine (stepKeeps_returnTo _ _).mono fun t ht => (Keeps.step ?_).trans ht
  exact .of_same rfl rfl

/-! ### Guards of the instruction families -/

theorem stepKeeps_privileged {s : State} {k : Out} (h : Next (StepKeeps s) k) : Next (StepKeeps s) (s.privileged k) := by
  unfold State.privileged
  split
  · exact h
  · exact stepKeeps_raise (.refl s) _

theorem stepKeeps_cop1Instr {s : State} {k : Out} (h : Next (StepKeeps s) k) : Next (StepKeeps s) (s.cop1Instr k) := by
  unfold State.cop1Instr
  split
  · exact h
  · exact stepKeeps_raise (.refl s) _

theorem stepKeeps_cop2Instr {s : State} {k : Out} (h : Next (StepKeeps s) k) : Next (StepKeeps s) (s.cop2Instr k) := by
  unfold State.cop2Instr
  split
  · exact h
  · exact stepKeeps_raise (.refl s) _

theorem stepKeeps_tlbInstr {s : State} {k : Out} (h : Next (StepKeeps s) k) : Next (StepKeeps s) (s.tlbInstr k) := by
  refine stepKeeps_privileged ?_
  split
  · exact stepKeeps_raise (.refl s) _
  · exact h

theorem stepKeeps_needRegs {s : State} {k : Out} (h : Next (StepKeeps s) k) (rs : List (FpFmt × Reg)) :
    Next (StepKeeps s) (s.needRegs rs k) := by
  unfold State.needRegs
  split
  · exact h
  · trivial

theorem stepKeeps_needFr1 {s : State} {k : Out} (h : Next (StepKeeps s) k) : Next (StepKeeps s) (s.needFr1 k) := by
  unfold State.needFr1
  split
  · exact h
  · trivial

/-- A choice between two ways to go on. -/
theorem stepKeeps_ite {s : State} {c : Prop} [Decidable c] {a b : Out} (ha : Next (StepKeeps s) a)
    (hb : Next (StepKeeps s) b) : Next (StepKeeps s) (if c then a else b) := by
  split
  · exact ha
  · exact hb

theorem stepKeeps_refused {s : State} (r : Refusal) : Next (StepKeeps s) (.refused r) := trivial

theorem stepKeeps_putTrapping (s : State) (r : Reg) (x : Int) (v : Word) : Next (StepKeeps s) (s.putTrapping r x v) :=
  stepKeeps_ite (stepKeeps_raise (.refl s) _) (stepKeeps_put (.refl s) _ _)

theorem stepKeeps_trapIf (s : State) (c : Bool) : Next (StepKeeps s) (s.trapIf c) :=
  stepKeeps_ite (stepKeeps_raise (.refl s) _) (stepKeeps_advance (.refl s))

theorem stepKeeps_putAcc (s : State) (p : DWord) : Next (StepKeeps s) (s.putAcc p) :=
  stepKeeps_advance (.of_same rfl rfl)

/-! ### Loads -/

theorem stepKeeps_loadGpr (s : State) (rt : Reg) (va : Word) (n : Nat) (f : Nat → Word) :
    Next (StepKeeps s) (s.loadGpr rt va n f) :=
  stepKeeps_finish (Keeps.andThen (keeps_memRead s _ _ _) fun _ t => keeps_writeGpr t _ _)

/-- A load whose bytes go into a general register. -/
theorem keeps_loadBytes_gpr (s : State) (a : DataAccess) (dest : LoadDest) (rt : Reg) (f : Option (List Byte) → Word) :
    ((s.loadBytes a dest).andThen fun bs s1 => .ok () (s1.writeGpr rt (f bs))).All (Keeps s) :=
  Keeps.andThen (keeps_loadBytes s _ _) fun _ t => keeps_writeGpr t _ _

/-! ### Floating point -/

theorem keeps_setFprLow (s : State) (r : Reg) (v : Word) : Keeps s (s.setFprLow r v) := .of_same rfl rfl

theorem keeps_writeFprW (s : State) (r : Reg) (v : Word) : Keeps s (s.writeFprW r v) := by
  unfold State.writeFprW
  split
  · exact .of_same rfl rfl
  · exact keeps_setFprLow s r v

theorem keeps_writeFprD (s : State) (r : Reg) (v : DWord) : Keeps s (s.writeFprD r v) := by
  unfold State.writeFprD
  split
  · exact .of_same rfl rfl
  · exact (keeps_setFprLow s r _).trans (keeps_setFprLow _ _ _)

theorem keeps_writeFpr (s : State) (f : FpFmt) (r : Reg) (v : DWord) : Keeps s (s.writeFpr f r v) := by
  unfold State.writeFpr
  split
  · exact keeps_writeFprD s r v
  · exact keeps_writeFprW s r _

/-- A new control word whose reserved bits are 0 where they were. -/
theorem keeps_fcsr (s : State) (f : Word) (h : s.fcsr &&& 0x001C0000 = 0 → f &&& 0x001C0000 = 0) :
    Keeps s { s with fcsr := f } := by
  refine ⟨rfl, rfl, rfl, rfl, fun hr => ?_, fun hm => memWf_congr hm rfl rfl rfl rfl rfl rfl⟩
  obtain ⟨hf, hs⟩ := (reservedOk_iff s).1 hr
  exact (reservedOk_iff _).2 ⟨h hf, hs⟩

theorem setCause_reserved (f : Word) (e : Bool) (c : FpFlags) (h : f &&& 0x001C0000 = 0) :
    setCause f e c &&& 0x001C0000 = 0 := by
  refine merge_and_zero _ _ h ?_
  rw [BitVec.and_assoc, show (0x0003F000 : Word) &&& 0x001C0000 = 0 by decide]; exact BitVec.and_zero

theorem flagBits_reserved (c : FpFlags) : (c.bits.setWidth 32 <<< 2 : Word) &&& 0x001C0000 = 0 := by
  generalize c.bits = b
  revert b
  decide

theorem addFlags_reserved (f : Word) (c : FpFlags) (h : f &&& 0x001C0000 = 0) : addFlags f c &&& 0x001C0000 = 0 :=
  or_and_zero h (flagBits_reserved c)

theorem stepKeeps_fpEnd (s : State) (dst : FpFmt) (fd : Reg) (r : FpOut) : Next (StepKeeps s) (s.fpEnd dst fd r) := by
  unfold State.fpEnd
  split
  · exact stepKeeps_raise (keeps_fcsr s _ (setCause_reserved _ _ _)) _
  · simp only
    split
    · exact stepKeeps_raise (keeps_fcsr s _ (setCause_reserved _ _ _)) _
    · refine stepKeeps_advance ((keeps_fcsr s _ fun h => ?_).trans (keeps_writeFpr _ _ _ _))
      exact addFlags_reserved _ _ (setCause_reserved _ _ _ h)

theorem stepKeeps_fpOp1 (s : State) (src dst : FpFmt) (fs fd : Reg) (op : FpEnv → DWord → FpOut) :
    Next (StepKeeps s) (s.fpOp1 src dst fs fd op) :=
  stepKeeps_cop1Instr (stepKeeps_needRegs (stepKeeps_fpEnd s _ _ _) _)

theorem stepKeeps_fpOpL (s : State) (src dst : FpFmt) (fs fd : Reg) (op : FpEnv → DWord → FpOut) :
    Next (StepKeeps s) (s.fpOpL src dst fs fd op) :=
  stepKeeps_cop1Instr (stepKeeps_needFr1 (stepKeeps_fpEnd s _ _ _))

theorem stepKeeps_fpOp2 (s : State) (f : FpFmt) (fs ft fd : Reg) (op : FpEnv → DWord → DWord → FpOut) :
    Next (StepKeeps s) (s.fpOp2 f fs ft fd op) :=
  stepKeeps_cop1Instr (stepKeeps_needRegs (stepKeeps_fpEnd s _ _ _) _)

theorem stepKeeps_fpOp3 (s : State) (f : FpFmt) (fr fs ft fd : Reg) (op : FpEnv → DWord → DWord → DWord → FpOut) :
    Next (StepKeeps s) (s.fpOp3 f fr fs ft fd op) :=
  stepKeeps_cop1Instr (stepKeeps_needRegs (stepKeeps_fpEnd s _ _ _) _)

theorem setFcc_fcsr_reserved (s : State) (cc : BitVec 3) (b : Bool) (h : s.fcsr &&& 0x001C0000 = 0) :
    (s.setFcc cc b).fcsr &&& 0x001C0000 = 0 := by
  refine (putBit_and_out _ _ _ ?_).trans h
  revert cc
  decide

end Sys2Proof.Machine
/-! ### Every instruction -/

namespace Sys2Proof.Machine

theorem stepKeeps_fpCond (s : State) (f : FpFmt) (cond : BitVec 4) (fs ft : Reg) (cc : BitVec 3) :
    Next (StepKeeps s) (s.fpCond f cond fs ft cc) := by
  refine stepKeeps_cop1Instr (stepKeeps_needRegs (stepKeeps_ite ?_ ?_) _)
  · exact stepKeeps_raise (keeps_fcsr s _ (setCause_reserved _ _ _)) _
  · refine stepKeeps_advance (keeps_fcsr s _ fun h => ?_)
    exact setFcc_fcsr_reserved _ _ _ (addFlags_reserved _ _ (setCause_reserved _ _ _ h))

theorem stepKeeps_fpMove (s : State) (f : FpFmt) (go : Bool) (fs fd : Reg) : Next (StepKeeps s) (s.fpMove f go fs fd) :=
  stepKeeps_cop1Instr (stepKeeps_needRegs
    (stepKeeps_ite (stepKeeps_advance (keeps_writeFpr s _ _ _)) (stepKeeps_advance (.refl s))) _)

theorem stepKeeps_fpLoad (s : State) (f : FpFmt) (ft : Reg) (va : Word) : Next (StepKeeps s) (s.fpLoad f ft va) := by
  refine stepKeeps_needRegs (stepKeeps_finish (Keeps.andThen (keeps_memRead s _ _ _) fun v t => ?_)) _
  exact keeps_writeFpr t _ _ _

theorem stepKeeps_fpStore (s : State) (f : FpFmt) (ft : Reg) (va : Word) : Next (StepKeeps s) (s.fpStore f ft va) :=
  stepKeeps_needRegs (stepKeeps_finish (keeps_memWrite s _ _ _)) _

theorem fpControlWrite_reserved (f w x : Word) (n : Reg) (h : fpControlWrite f n w = some x)
    (hf : f &&& 0x001C0000 = 0) : x &&& 0x001C0000 = 0 := by
  unfold fpControlWrite at h
  split at h
  · cases h; exact hf
  · split at h
    · cases h; exact (merge_and_out _ _ (by decide)).trans hf
    · split at h
      · cases h; exact (merge_and_out _ _ (by decide)).trans hf
      · split at h
        · cases h
          exact (merge_and_out _ _ (by decide)).trans ((putBit_and_out _ _ _ (by decide)).trans hf)
        · split at h
          · cases h
            rw [BitVec.and_assoc, show (0xFFE3FFFF : Word) &&& 0x001C0000 = 0 by decide]; exact BitVec.and_zero
          · cases h

theorem stepKeeps_ctc1 (rt fs : Reg) (s : State) : Next (StepKeeps s) (execCtc1 rt fs s) := by
  refine stepKeeps_cop1Instr ?_
  split
  · next w hw =>
    have hk := keeps_fcsr s w (fpControlWrite_reserved _ _ _ _ hw)
    exact stepKeeps_ite (stepKeeps_raise hk _) (stepKeeps_advance hk)
  · trivial

theorem stepKeeps_mfhc1 (rt fs : Reg) (s : State) : Next (StepKeeps s) (execMfhc1 rt fs s) :=
  stepKeeps_cop1Instr
    (stepKeeps_ite (stepKeeps_put (.refl s) _ _) (stepKeeps_needRegs (stepKeeps_put (.refl s) _ _) _))

theorem stepKeeps_mthc1 (rt fs : Reg) (s : State) : Next (StepKeeps s) (execMthc1 rt fs s) :=
  stepKeeps_cop1Instr (stepKeeps_ite (stepKeeps_advance (.of_same rfl rfl))
    (stepKeeps_needRegs (stepKeeps_advance (keeps_setFprLow s _ _)) _))

theorem stepKeeps_cfc1 (rt fs : Reg) (s : State) : Next (StepKeeps s) (execCfc1 rt fs s) := by
  refine stepKeeps_cop1Instr ?_
  split
  · exact stepKeeps_put (.refl s) _ _
  · trivial

/-! CP0 -/

theorem put_status (c : Cp0) (r : CpReg) (w : Word) : (c.put r w).status = if r = .status then w else c.status := by
  cases r <;> rfl

theorem cpNewWord_status_reserved (cfg : Cfg) (o w : Word) (h : o &&& 0x819500E0 = 0) :
    cpNewWord cfg .status o w &&& 0x819500E0 = 0 := by
  refine and_and_zero _ (and_and_zero _ ((merge_and_out _ _ ?_).trans h))
  show (if cfg.hasFPU then (0x7E42FF1F : Word) else 0x7A42FF1F) &&& 0x819500E0 = 0
  split <;> decide

theorem keeps_cpSideEffect (s : State) (r : CpReg) : Keeps s (s.cpSideEffect r) := by
  unfold State.cpSideEffect
  split
  · exact keeps_setCp s _ _ _ _ (by decide)
  · exact .of_same rfl rfl
  · exact .refl s

theorem keeps_mtc0_setCp (s : State) (r : CpReg) (m w : Word) :
    Keeps s (s.setCp .mtc0 r m (cpNewWord s.cfg r (s.cp0.get r) w)) := by
  refine keeps_status _ _ rfl rfl fun h => ?_
  show ((s.cp0.put r _).status) &&& _ = 0
  rw [put_status]
  split
  · next hr => subst hr; exact cpNewWord_status_reserved _ _ _ h
  · exact h

theorem keeps_cpWrite (s : State) (r : CpReg) (w : Word) : (s.cpWrite r w).All (Keeps s) := by
  unfold State.cpWrite
  split
  · exact .refl s
  · split
    · trivial
    · exact (keeps_mtc0_setCp s r _ w).trans (keeps_cpSideEffect _ r)

theorem stepKeeps_mtc0 (rt rd : Reg) (sel : BitVec 3) (s : State) : Next (StepKeeps s) (execMtc0 rt rd sel s) := by
  refine stepKeeps_privileged ?_
  split
  · exact stepKeeps_finish (keeps_cpWrite s _ _)
  · exact stepKeeps_advance (.refl s)

/-- `di` and `ei` change one bit of `Status`, which is not reserved. -/
theorem keeps_irqEnable (s : State) (w : Word) (h : s.cp0.status &&& 0x819500E0 = 0 → w &&& 0x819500E0 = 0) :
    Keeps s (s.setCp .irqEnable .status 0x00000001 w) :=
  keeps_status _ _ rfl rfl h

theorem keeps_tlbReadInto (s : State) (e : TlbEntry) : Keeps s (s.tlbReadInto e) :=
  (((keeps_setCp s _ _ _ _ (by decide)).trans (keeps_setCp _ _ _ _ _ (by decide))).trans
    (keeps_setCp _ _ _ _ _ (by decide))).trans (keeps_setCp _ _ _ _ _ (by decide))

theorem stepKeeps_tlbWrite (s : State) (i : Nat) : Next (StepKeeps s) (s.tlbWrite i) := by
  simp only [State.tlbWrite]
  split
  · refine stepKeeps_ite trivial (stepKeeps_ite ?_ ?_)
    · refine stepKeeps_raise ?_ _
      exact keeps_status _ _ rfl rfl fun h => or_and_zero h (by decide)
    · exact stepKeeps_advance (.of_same rfl rfl)
  · trivial

theorem stepKeeps_tlbr (s : State) : Next (StepKeeps s) (execTlbr s) := by
  refine stepKeeps_tlbInstr ?_
  split
  · exact stepKeeps_ite trivial (stepKeeps_advance (keeps_tlbReadInto s _))
  · trivial

theorem stepKeeps_tlbp (s : State) : Next (StepKeeps s) (execTlbp s) := by
  refine stepKeeps_tlbInstr ?_
  split
  · exact stepKeeps_advance (keeps_setCp s _ _ _ _ (by decide))
  · exact stepKeeps_advance (keeps_setCp s _ _ _ _ (by decide))
  · trivial

theorem stepKeeps_rdhwr (rt rd : Reg) (s : State) : Next (StepKeeps s) (execRdhwr rt rd s) :=
  stepKeeps_ite (stepKeeps_raise (.refl s) _)
    (stepKeeps_ite (stepKeeps_raise (.refl s) _) (stepKeeps_put (.refl s) _ _))

theorem stepKeeps_deret (s : State) : Next (StepKeeps s) (execDeret s) :=
  stepKeeps_privileged (stepKeeps_ite (stepKeeps_raise (.refl s) _) (stepKeeps_ite trivial (stepKeeps_doDeret s)))

/-! Coprocessor 2, CorExtend, memory -/

theorem stepKeeps_cop2 (impl : BitVec 25) (s : State) : Next (StepKeeps s) (execCop2 impl s) := by
  refine stepKeeps_cop2Instr ?_
  split
  · exact stepKeeps_advance (.of_same rfl rfl)
  · exact stepKeeps_raise (.refl s) _

theorem stepKeeps_udi (impl : BitVec 20) (impl2 : BitVec 4) (s : State) :
    Next (StepKeeps s) (execUdi impl impl2 s) := by
  refine stepKeeps_ite (stepKeeps_raise (.refl s) _) (stepKeeps_ite (stepKeeps_raise (.refl s) _) ?_)
  split
  · exact stepKeeps_raise (.refl s) _
  · exact stepKeeps_advance (.of_same rfl rfl)
  · refine stepKeeps_put ?_ _ _
    exact .of_same rfl rfl

/-- A load that gives coprocessor 2 a new state. -/
theorem stepKeeps_cop2Load (s : State) (va : Word) (n : Nat) (f : Option Nat → Nat) :
    Next (StepKeeps s) (s.cop2Instr ((s.memRead va n .cp2).andThen fun v s1 =>
      .ok () { s1 with cp2State := f v }).finish) :=
  stepKeeps_cop2Instr (stepKeeps_finish (Keeps.andThen (keeps_memRead s _ _ _) fun _ _ => .of_same rfl rfl))

theorem stepKeeps_ll (base rt : Reg) (imm : BitVec 16) (s : State) : Next (StepKeeps s) (execLl base rt imm s) :=
  stepKeeps_finish (Keeps.andThen (keeps_loadBytes s _ _) fun _ t =>
    (keeps_writeGpr t _ _).trans (.of_same rfl rfl))

theorem stepKeeps_sc (base rt : Reg) (imm : BitVec 16) (s : State) : Next (StepKeeps s) (execSc base rt imm s) := by
  have hw : ∀ (t : State) (v : Word), Keeps t ({ t with llBit := false }.writeGpr rt v) := fun t v =>
    Keeps.trans (t := { t with llBit := false }) (.of_same rfl rfl) (keeps_writeGpr _ _ _)
  exact stepKeeps_ite (stepKeeps_finish (Keeps.andThen (keeps_storeBytes s _ _ _) fun _ t => hw t 1))
    (stepKeeps_finish (Keeps.andThen (keeps_scFails s _) fun _ t => hw t 0))

theorem stepKeeps_sync (stype : Reg) (s : State) : Next (StepKeeps s) (execSync stype s) :=
  stepKeeps_advance ((sideOnly_flushGather true s).keeps (memWf_flushGather s))

theorem stepKeeps_synci (base : Reg) (imm : BitVec 16) (s : State) : Next (StepKeeps s) (execSynci base imm s) :=
  stepKeeps_ite (stepKeeps_advance (.refl s)) (stepKeeps_finish
    (Keeps.andThen (Keeps.all_of_eq (translate_state s _ _)) fun _ t => keeps_synciLine t _ _ _))

theorem stepKeeps_cache (base op : Reg) (imm : BitVec 16) (s : State) : Next (StepKeeps s) (execCache base op imm s) := by
  have h0 : Keeps s { s with llTouched := true } := .of_same rfl rfl
  refine stepKeeps_ite (stepKeeps_raise (.refl s) _) (stepKeeps_ite (stepKeeps_advance h0)
    (stepKeeps_ite (stepKeeps_finish ?_) (stepKeeps_finish ?_)))
  · exact (keeps_cacheOp _ _ _ _).mono fun _ h => h0.trans h
  · exact Res.All.andThen (Keeps.all_of_eq (translate_state s _ _)) fun _ _ _ =>
      (keeps_cacheOp _ _ _ _).mono fun _ h => h0.trans h

/-- A linking branch or jump. -/
theorem keeps_link (s : State) (r : Reg) : Keeps s (s.link r) := keeps_writeGpr s _ _

end Sys2Proof.Machine
/-! ### The dispatch -/

namespace Sys2Proof.Machine

theorem keeps_freeAfterMul (s : State) : Keeps s s.freeAfterMul := .of_same rfl rfl

/-- Every instruction keeps the parameters, the reserved bits, the memories' form and the shape of the pc. -/
theorem stepKeeps_exec (i : Instr) (s : State) : Next (StepKeeps s) (exec i s) := by
  cases i
  case mfhi | mflo | seb | seh | wsbh | addu | subu | and | or | xor | nor | slt | sltu | sll | srl | sra | sllv |
      srlv | srav | rotr | rotrv | lui | addiu | andi | ori | xori | slti | sltiu => exact stepKeeps_put (.refl s) _ _
  case add | sub | addi => exact stepKeeps_putTrapping s _ _ _
  case mthi | mtlo | ehb => exact stepKeeps_advance (.of_same rfl rfl)
  case nop | ssnop => exact stepKeeps_advance (.refl s)
  case mult | multu | madd | maddu | msub | msubu => exact stepKeeps_putAcc s _
  case div | divu => exact stepKeeps_ite (stepKeeps_advance (.of_same rfl rfl)) (stepKeeps_advance (.of_same rfl rfl))
  case mul => exact stepKeeps_put (keeps_freeAfterMul s) _ _
  case movz | movn => exact stepKeeps_ite (stepKeeps_put (.refl s) _ _) (stepKeeps_advance (.refl s))
  case movf =>
    exact stepKeeps_ite (stepKeeps_raise (.refl s) _)
      (stepKeeps_ite (stepKeeps_advance (.refl s)) (stepKeeps_put (.refl s) _ _))
  case movt =>
    exact stepKeeps_ite (stepKeeps_raise (.refl s) _)
      (stepKeeps_ite (stepKeeps_put (.refl s) _ _) (stepKeeps_advance (.refl s)))
  case clz | clo | ext | ins => exact stepKeeps_ite trivial (stepKeeps_put (.refl s) _ _)
  case blez | bgtz | bltz | bgez | beq | bne => exact stepKeeps_branch (.refl s) _ _
  case blezl | bgtzl | bltzl | bgezl | beql | bnel => exact stepKeeps_branchLikely (.refl s) _ _
  case bltzal | bgezal => exact stepKeeps_ite trivial (stepKeeps_branch (keeps_link s _) _ _)
  case bltzall | bgezall => exact stepKeeps_ite trivial (stepKeeps_branchLikely (keeps_link s _) _ _)
  case jr | jr_hb => exact stepKeeps_jumpReg (.refl s) _ _
  case jalr | jalr_hb => exact stepKeeps_ite trivial (stepKeeps_jumpReg (keeps_link s _) _ _)
  case j => exact stepKeeps_jump (.refl s) _ _ _
  case jal => exact stepKeeps_jump (keeps_link s _) _ _ _
  case jalx => exact stepKeeps_refused _
  case syscall => exact stepKeeps_raise (.refl s) .sys
  case break_ => exact stepKeeps_raise (.refl s) .bp
  case sdbbp => exact stepKeeps_raise (.refl s) .sdbbp
  case tge | tgeu | tlt | tltu | teq | tne | tgei | tgeiu | tlti | tltiu | teqi | tnei => exact stepKeeps_trapIf s _
  case lb | lbu | lh | lhu | lw => exact stepKeeps_loadGpr s _ _ _ _
  case lwl | lwr => exact stepKeeps_finish (keeps_loadBytes_gpr s _ _ _ _)
  case sb | sh | sw => exact stepKeeps_finish (keeps_memWrite s _ _ _)
  case swl | swr => exact stepKeeps_finish (keeps_storeBytes s _ _ _)
  case ll => exact stepKeeps_ll _ _ _ s
  case sc => exact stepKeeps_sc _ _ _ s
  case pref => exact stepKeeps_finish (keeps_prefetchAt s _ _)
  case sync => exact stepKeeps_sync 0 s
  case synci => exact stepKeeps_synci _ _ s
  case cache => exact stepKeeps_cache _ _ _ s
  case eret => exact stepKeeps_privileged (stepKeeps_ite trivial (stepKeeps_doEret s))
  case deret => exact stepKeeps_deret s
  case wait => exact stepKeeps_privileged (stepKeeps_advance (.of_same rfl rfl))
  case mfc0 => exact stepKeeps_privileged (stepKeeps_put (.refl s) _ _)
  case mtc0 => exact stepKeeps_mtc0 _ _ _ s
  case di => exact stepKeeps_privileged (stepKeeps_put (keeps_irqEnable s _ (and_and_zero _)) _ _)
  case ei =>
    exact stepKeeps_privileged
      (stepKeeps_put (keeps_irqEnable s _ fun h => or_and_zero h (by decide)) _ _)
  case rdpgpr => exact stepKeeps_privileged (stepKeeps_ite (stepKeeps_put (.refl s) _ _) trivial)
  case wrpgpr => exact stepKeeps_privileged (stepKeeps_ite (stepKeeps_advance (keeps_writeSet s _ _ _)) trivial)
  case rdhwr => exact stepKeeps_rdhwr _ _ s
  case tlbr => exact stepKeeps_tlbr s
  case tlbwi | tlbwr => exact stepKeeps_tlbInstr (stepKeeps_ite trivial (stepKeeps_tlbWrite s _))
  case tlbp => exact stepKeeps_tlbp s
  case cfc2 | mfc2 | mfhc2 => exact stepKeeps_cop2Instr (stepKeeps_put (.refl s) _ _)
  case ctc2 | mtc2 | mthc2 => exact stepKeeps_cop2Instr (stepKeeps_advance (.of_same rfl rfl))
  case bc2f | bc2t => exact stepKeeps_cop2Instr (stepKeeps_branch (.refl s) _ _)
  case bc2fl | bc2tl => exact stepKeeps_cop2Instr (stepKeeps_branchLikely (.refl s) _ _)
  case lwc2 | ldc2 => exact stepKeeps_cop2Load s _ _ _
  case swc2 | sdc2 => exact stepKeeps_cop2Instr (stepKeeps_finish (keeps_memWrite s _ _ _))
  case cop2 => exact stepKeeps_cop2 _ s
  case udi => exact stepKeeps_udi _ _ s
  case mfc1 => exact stepKeeps_cop1Instr (stepKeeps_put (.refl s) _ _)
  case mtc1 => exact stepKeeps_cop1Instr (stepKeeps_advance (keeps_writeFprW s _ _))
  case mfhc1 => exact stepKeeps_mfhc1 _ _ s
  case mthc1 => exact stepKeeps_mthc1 _ _ s
  case cfc1 => exact stepKeeps_cfc1 _ _ s
  case ctc1 => exact stepKeeps_ctc1 _ _ s
  case lwxc1 | ldxc1 | lwc1 | ldc1 => exact stepKeeps_cop1Instr (stepKeeps_fpLoad s _ _ _)
  case swxc1 | sdxc1 | swc1 | sdc1 => exact stepKeeps_cop1Instr (stepKeeps_fpStore s _ _ _)
  case luxc1 => exact stepKeeps_cop1Instr (stepKeeps_needFr1 (stepKeeps_fpLoad s _ _ _))
  case suxc1 => exact stepKeeps_cop1Instr (stepKeeps_needFr1 (stepKeeps_fpStore s _ _ _))
  case prefx => exact stepKeeps_cop1Instr (stepKeeps_finish (keeps_prefetchAt s _ _))
  case bc1f | bc1t => exact stepKeeps_cop1Instr (stepKeeps_branch (.refl s) _ _)
  case bc1fl | bc1tl => exact stepKeeps_cop1Instr (stepKeeps_branchLikely (.refl s) _ _)
  case mov_s | mov_d | movf_s | movt_s | movf_d | movt_d | movz_s | movz_d | movn_s | movn_d =>
    exact stepKeeps_fpMove s _ _ _ _
  case sqrt_s | sqrt_d | recip_s | recip_d | rsqrt_s | rsqrt_d | round_w_s | round_w_d | trunc_w_s | trunc_w_d |
      ceil_w_s | ceil_w_d | floor_w_s | floor_w_d | cvt_s_d | cvt_s_w | cvt_d_s | cvt_d_w | cvt_w_s | cvt_w_d =>
    exact stepKeeps_fpOp1 s _ _ _ _ _
  case round_l_s | round_l_d | trunc_l_s | trunc_l_d | ceil_l_s | ceil_l_d | floor_l_s | floor_l_d | cvt_s_l |
      cvt_d_l | cvt_l_s | cvt_l_d => exact stepKeeps_fpOpL s _ _ _ _ _
  case add_s | add_d | sub_s | sub_d | mul_s | mul_d | div_s | div_d => exact stepKeeps_fpOp2 s _ _ _ _ _
  case madd_s | madd_d | msub_s | msub_d => exact stepKeeps_fpOp3 s _ _ _ _ _ _
  case abs_s => exact stepKeeps_fpOp1 s .single .single _ _ (fun _ => fpSign .single fun _ => false)
  case neg_s => exact stepKeeps_fpOp1 s .single .single _ _ (fun _ => fpSign .single not)
  case nmadd_s =>
    exact stepKeeps_fpOp3 s .single _ _ _ _ (fun e c x y => (fpMulAdd .single false e c x y).negated .single)
  case nmsub_s =>
    exact stepKeeps_fpOp3 s .single _ _ _ _ (fun e c x y => (fpMulAdd .single true e c x y).negated .single)
  case abs_d => exact stepKeeps_fpOp1 s .double .double _ _ (fun _ => fpSign .double fun _ => false)
  case neg_d => exact stepKeeps_fpOp1 s .double .double _ _ (fun _ => fpSign .double not)
  case nmadd_d =>
    exact stepKeeps_fpOp3 s .double _ _ _ _ (fun e c x y => (fpMulAdd .double false e c x y).negated .double)
  case nmsub_d =>
    exact stepKeeps_fpOp3 s .double _ _ _ _ (fun e c x y => (fpMulAdd .double true e c x y).negated .double)
  case c_f_s | c_un_s | c_eq_s | c_ueq_s | c_olt_s | c_ult_s | c_ole_s | c_ule_s | c_sf_s | c_ngle_s | c_seq_s |
      c_ngl_s | c_lt_s | c_nge_s | c_le_s | c_ngt_s | c_f_d | c_un_d | c_eq_d | c_ueq_d | c_olt_d | c_ult_d |
      c_ole_d | c_ule_d | c_sf_d | c_ngle_d | c_seq_d | c_ngl_d | c_lt_d | c_nge_d | c_le_d | c_ngt_d =>
    exact stepKeeps_fpCond s _ _ _ _ _

end Sys2Proof.Machine
/-! ### The environment and the step of the core -/

namespace Sys2Proof.Machine

theorem stepKeeps_doReset (s : State) : StepKeeps s s.doReset := by
  refine ⟨rfl, fun _ => (reservedOk_iff _).2 ⟨BitVec.zero_and, ?_⟩, fun h => ?_, fun _ => (pcOk_iff _).2 ⟨?_, ?_, ?_⟩⟩
  · show (0x00400004 : Word) &&& 0x819500E0 = 0
    decide
  · obtain ⟨h1, -, -, h4, h5, -⟩ := (memWf_iff s).1 h
    exact (memWf_iff _).2 ⟨h1, rfl, rfl, h4, h5, fun g hg => by cases hg⟩
  · show (0xBFC00000 : Word).getLsbD 0 = false
    decide
  · show (0xBFC00004 : Word).getLsbD 0 = false
    decide
  · exact .inr (show (0xBFC00004 : Word) = 0xBFC00000 + 4 by decide)

theorem keeps_countTick (s : State) : Keeps s s.countTick := by
  unfold State.countTick
  split
  · exact .refl s
  · exact .of_same rfl rfl

/-- Losing a reservation changes the link bit only. -/
theorem unlink_eq (s : State) (pa : Word) : s.unlink pa = { s with llBit := (s.unlink pa).llBit } := by
  unfold State.unlink
  split <;> rfl

theorem keeps_dmaWrite (s : State) (m : List Region) (a : Nat) (bs : List Byte) :
    Keeps s { s with mem := physWrite m s.mem a bs } := by
  refine .of_control rfl fun h => ?_
  obtain ⟨h1, h'⟩ := (memWf_iff s).1 h
  exact (memWf_iff _).2 ⟨wf_physWrite _ _ _ _ h1, h'⟩

theorem envWrite_wf (sp : Spram) (fitted : Bool) (off : Nat) (v : Byte) (h : Memory.wf sp.cells) :
    Memory.wf (sp.envWrite fitted off v).cells := by
  unfold Spram.envWrite
  split
  · exact sparseWf_set _ _ _ _ h
  · exact h

theorem keeps_dspramWrite (s : State) (fitted : Bool) (off : Nat) (v : Byte) :
    Keeps s { s with dspram := s.dspram.envWrite fitted off v } := by
  refine .of_control rfl fun h => ?_
  obtain ⟨h1, h2, h3, h4, h5, h6⟩ := (memWf_iff s).1 h
  exact (memWf_iff _).2 ⟨h1, h2, h3, h4, envWrite_wf _ _ _ _ h5, h6⟩

theorem keeps_ispramWrite (s : State) (fitted : Bool) (off : Nat) (v : Byte) :
    Keeps s { s with ispram := s.ispram.envWrite fitted off v } := by
  refine .of_control rfl fun h => ?_
  obtain ⟨h1, h2, h3, h4, h5, h6⟩ := (memWf_iff s).1 h
  exact (memWf_iff _).2 ⟨h1, h2, h3, envWrite_wf _ _ _ _ h4, h5, h6⟩

theorem keeps_evictSlot (s : State) (d : Bool) (slot : Nat) : Keeps s (s.evictSlot d slot) := by
  unfold State.evictSlot
  split
  · cases d
    · exact (sideOnly_invalidateSlot false s slot).keeps (memWf_invalidateSlot s false slot)
    · exact ((sideOnly_writebackSlot s slot).trans (sideOnly_invalidateSlot true _ slot)).keeps
        fun h => memWf_invalidateSlot _ true slot (memWf_writebackSlot s slot h)
  · exact .refl s

theorem keeps_envRefill (s : State) (d : Bool) (va pa : Word) (way : Nat) : Keeps s (s.envRefill d va pa way) := by
  simp only [State.envRefill]
  split
  · cases d
    · exact (sideOnly_installLine false s _ _ _ _ _).keeps (memWf_installLine s false _ _ _ _ _)
    · exact ((sideOnly_flushLine true s pa).trans (sideOnly_installLine true _ _ _ _ _ _)).keeps
        fun h => memWf_installLine _ true _ _ _ _ _ (memWf_flushLine s pa h)
  · exact .refl s

theorem keeps_perfReport (s : State) (one : Bool) (n : Nat) : Keeps s (s.perfReport one n) := by
  simp only [State.perfReport]
  split
  · obtain ⟨a, b, h⟩ := addPerf_eq s one n
    rw [h]
    exact .of_same rfl rfl
  · exact .refl s

/-- Everything the environment can do. -/
theorem stepKeeps_applyEvent (e : EnvEvent) (s : State) : StepKeeps s (applyEvent e s) := by
  cases e
  case reset => exact stepKeeps_doReset s
  case core => exact (Keeps.refl s).step
  case countTick => exact (keeps_countTick s).step
  case dmaWrite pa v =>
    simp only [applyEvent]
    rw [unlink_eq]
    refine Keeps.step ((keeps_dmaWrite s s.cfg.physMap pa.toNat [v]).trans ?_)
    exact .of_same rfl rfl
  case spramWrite dside off v =>
    cases dside
    · simp only [applyEvent, Bool.false_eq_true, if_false]
      rw [unlink_eq]
      refine Keeps.step ((keeps_ispramWrite s s.cfg.hasISPRAM off v).trans ?_)
      exact .of_same rfl rfl
    · simp only [applyEvent, if_true]
      rw [unlink_eq]
      refine Keeps.step ((keeps_dspramWrite s s.cfg.hasDSPRAM off v).trans ?_)
      exact .of_same rfl rfl
  case parityError dside =>
    simp only [applyEvent]
    split
    · refine Keeps.step ?_
      exact .of_same rfl rfl
    · exact (Keeps.refl s).step
  case evict d slot => exact (keeps_evictSlot s d slot).step
  case refill d va pa way => exact (keeps_envRefill s d va pa way).step
  case perfEvents one n => exact (keeps_perfReport s one n).step
  case pcSample =>
    simp only [applyEvent]
    split
    · refine Keeps.step ?_
      exact .of_same rfl rfl
    · exact (Keeps.refl s).step
  all_goals
    refine Keeps.step ?_
    exact .of_same rfl rfl

theorem stepKeeps_endOut {s : State} {o : Out} (f : State → State) (h : Next (StepKeeps s) o)
    (hf : ∀ t, Keeps t (f t)) : Next (StepKeeps s) (endOut f o) := by
  cases o with
  | next t => exact h.trans (hf t).step
  | fault q => trivial
  | refused r => trivial

theorem keeps_settle (s t : State) (info : Option InstrInfo) : Keeps t (s.settle t info) := by
  obtain ⟨a, b, h⟩ := countPerf_eq s t info
  have hc : Keeps t (s.countPerf t info) := by
    rw [h]
    exact .of_same rfl rfl
  refine hc.trans ?_
  obtain ⟨-, e⟩ | ⟨-, e⟩ := closeTransfer_cases s (s.countPerf t info)
  · exact e ▸ .refl _
  · rw [State.settle, e]
    exact .of_same rfl rfl

theorem keeps_endStep (s t : State) (info : Option InstrInfo) : Keeps t (s.endStep t info) := by
  simp only [State.endStep]
  split
  · exact (keeps_settle s t info).trans (.of_same rfl rfl)
  · exact keeps_settle s t info

theorem stepKeeps_undecoded (s : State) (w : Word) : Next (StepKeeps s) (s.undecoded w) := by
  unfold State.undecoded
  split
  · exact stepKeeps_ite (stepKeeps_raise (.refl s) _) (stepKeeps_raise (.refl s) _)
  · exact stepKeeps_raise (.refl s) _

theorem stepKeeps_runWord (s : State) (w : Word) : Next (StepKeeps s) (s.runWord w) := by
  unfold State.runWord
  split
  · exact stepKeeps_exec _ s
  · exact stepKeeps_undecoded s w

/-- What a body kept, an outcome after it keeps. -/
theorem Keeps.next {s t : State} {o : Out} (h : Keeps s t) (ho : Next (StepKeeps t) o) : Next (StepKeeps s) o :=
  ho.mono fun _ hu => h.step.trans hu

theorem stepKeeps_runNext (s : State) : Next (StepKeeps s) s.runNext := by
  have hf := keeps_fetchWord s s.pc
  unfold State.runNext
  cases h : s.fetchWord s.pc with
  | ok w t => rw [h] at hf; exact Keeps.next hf (stepKeeps_runWord t w)
  | exc e t => rw [h] at hf; exact stepKeeps_raise hf e
  | wait t => rw [h] at hf; exact Keeps.step hf
  | ref r => trivial
  | flt f => trivial

theorem stepKeeps_runBefore {s s0 : State} (e : Exc) (h0 : Keeps s s0) : Next (StepKeeps s) (s.runBefore e s0) := by
  have hn := stepKeeps_runNext s
  unfold State.runBefore
  cases h : s.runNext with
  | next t =>
    rw [h] at hn
    exact stepKeeps_ite (stepKeeps_raise h0 e) hn
  | fault f => exact stepKeeps_raise h0 e
  | refused r => exact stepKeeps_raise h0 e

theorem stepKeeps_runLast (s : State) (dbe : Bool) : Next (StepKeeps s) (s.runLast dbe) := by
  refine stepKeeps_ite ?_ (stepKeeps_ite ?_ (stepKeeps_runNext s))
  · exact stepKeeps_runBefore _ (.of_same rfl rfl)
  · exact stepKeeps_runBefore _ (.of_same rfl rfl)

/-- The state in which a boundary's condition is taken. -/
def Boundary.state : Boundary → State
  | .exc _ s => s
  | .nmi s => s
  | .early _ s => s
  | .go s => s

theorem keeps_boundaryOf (s : State) : Keeps s s.boundaryOf.state := by
  unfold State.boundaryOf
  repeat' (first | exact Keeps.refl s | exact Keeps.of_same rfl rfl | split)

theorem keeps_deferImprecise (s : State) : Keeps s s.deferImprecise := by
  unfold State.deferImprecise
  split
  · exact .of_same rfl rfl
  · exact .refl s

theorem keeps_boundary (s : State) : Keeps s s.boundary.state :=
  (keeps_deferImprecise s).trans (keeps_boundaryOf _)

theorem stepKeeps_boundaryRun (s : State) (b : Boundary) : Next (StepKeeps b.state) (b.run s) := by
  cases b with
  | exc e u => exact stepKeeps_endOut _ (stepKeeps_raise (.refl u) e) fun t => keeps_endStep s t _
  | nmi u => exact stepKeeps_endOut _ (stepKeeps_takeNmi u) fun t => keeps_settle s t _
  | early e u => exact stepKeeps_endOut _ (stepKeeps_raise (.refl u) e) fun t => keeps_settle s t _
  | go u =>
    refine stepKeeps_endOut _ (Keeps.next (t := { u.tickDelays with sleeping := false }) ?_ (stepKeeps_runLast _ _))
      fun t => keeps_endStep s t _
    exact .of_same rfl rfl

theorem stepKeeps_coreStep (s : State) : Next (StepKeeps s) s.coreStep := by
  have h0 : Keeps s s.beginStep := .of_same rfl rfl
  refine stepKeeps_ite h0.step ?_
  exact (h0.trans (keeps_boundary _)).next (stepKeeps_boundaryRun _ _)

/-- Every step keeps the parameters, the reserved bits, the memories' form and the shape of the pc. -/
theorem stepKeeps_step (s : State) : Next (StepKeeps s) (step s) := by
  unfold step
  split
  · exact stepKeeps_coreStep s
  · refine Keeps.next ?_ (stepKeeps_coreStep _)
    exact .of_same rfl rfl
  · next e l _ _ =>
    refine StepKeeps.trans (t := { s with env := l, freeCtr := s.freeCtr + 1 }) (Keeps.step ?_)
      (stepKeeps_applyEvent e _)
    exact .of_same rfl rfl

/-- Settles O37: the form is kept by every memory operation, hence by every instruction and every event. -/
theorem stepKeepsMemoryForm : Obligations.StepKeepsMemoryForm := by
  intro s t hs h
  have hk := stepKeeps_step s
  rw [h] at hk
  exact StepKeeps.memory hk hs

/-- Settles O38: every target, vector and return address is even, and only a branch leaves a jump pending. -/
theorem stepKeepsPcSequential : Obligations.StepKeepsPcSequential := by
  intro s t hs h
  have hk := stepKeeps_step s
  rw [h] at hk
  exact StepKeeps.pc hk hs

/-- Settles O39: `FCSR` and `Status` are written under masks that leave out the reserved bits. -/
theorem stepKeepsReservedBits : Obligations.StepKeepsReservedBits := by
  intro s t h
  have hk := stepKeeps_step s
  rw [h] at hk
  exact ⟨StepKeeps.cfg hk, StepKeeps.reserved hk⟩

end Sys2Proof.Machine
/-! ## Trapping arithmetic, conditional moves, bit fields, division, moves of `HI` and `LO` (40_alu.md, 41_muldiv.md) -/

namespace Sys2Proof.Machine

/-! ### Traps on overflow -/

theorem outOfRange_iff (x : Int) : outOfRange x = true ↔ ¬fitsSigned x := by
  simp only [outOfRange, fitsSigned, Bool.or_eq_true, decide_eq_true_eq]
  omega

theorem putTrapping_spec (s : State) (r : Reg) (exact : Int) (v : Word) :
    (fitsSigned exact → s.canAdvance → ∃ t, s.putTrapping r exact v = .next t ∧ GprResult s t r v) ∧
    (¬fitsSigned exact → s.putTrapping r exact v = s.raise .ov) := by
  unfold State.putTrapping
  refine ⟨fun hf hs => ?_, fun hf => if_pos ((outOfRange_iff exact).2 hf)⟩
  rw [if_neg (fun h => (outOfRange_iff exact).1 h hf)]
  exact put_gprResult s r v hs

/-- Settles O2: the result is put where the exact value is in range, and otherwise the overflow is raised. -/
theorem trappingArithmeticResults : Obligations.TrappingArithmeticResults := by
  intro rs rt rd imm s
  have hi := putTrapping_spec s rt ((s.readGpr rs).toInt + (sext16 imm).toInt) (s.readGpr rs + sext16 imm)
  rw [toInt_sext16] at hi
  refine ⟨putTrapping_spec s rd _ _, ?_, putTrapping_spec s rd _ _⟩
  have he : exec (.addi rs rt imm) s =
      s.putTrapping rt ((s.readGpr rs).toInt + imm.toInt) (s.readGpr rs + sext16 imm) := by
    rw [← toInt_sext16 imm]; rfl
  simp only [he]
  exact hi

/-! ### Conditional moves -/

/-- A move where `c` holds, and nothing where it does not. -/
theorem moveIf_spec (s : State) (r : Reg) (v : Word) (c : Prop) [Decidable c] (hs : s.canAdvance = true) :
    ∃ t, (if c then s.put r v else s.advance) = .next t ∧ (if c then GprResult s t r v else NoResult s t) := by
  by_cases h : c
  · simp only [if_pos h]
    exact put_gprResult s r v hs
  · simp only [if_neg h]
    exact advance_noResult s hs

/-- Settles O4: each is the move where its condition holds, and the mere advance where it does not. -/
theorem conditionalMoves : Obligations.ConditionalMoves := by
  intro rs rt rd cc s hs
  refine ⟨moveIf_spec s rd _ _ hs, moveIf_spec s rd _ _ hs, fun hu => ⟨?_, ?_⟩⟩
  · obtain ⟨t, h1, h2⟩ := moveIf_spec s rd (s.readGpr rs) (s.fcc cc = false) hs
    refine ⟨t, ?_, h2⟩
    show (if !s.cp1Usable then _ else if s.fcc cc then s.advance else s.put rd (s.readGpr rs)) = _
    rw [← h1, hu]
    cases s.fcc cc <;> rfl
  · obtain ⟨t, h1, h2⟩ := moveIf_spec s rd (s.readGpr rs) (s.fcc cc = true) hs
    refine ⟨t, ?_, h2⟩
    show (if !s.cp1Usable then _ else if s.fcc cc then s.put rd (s.readGpr rs) else s.advance) = _
    rw [← h1, hu]
    rfl

/-! ### Bit fields -/

/-- The count stops at the first bit that differs, from the top of the `n` low bits down. -/
theorem countLeading_spec (b : Bool) (w : Word) (n : Nat) :
    countLeading b w n ≤ n ∧ (∀ j, j < countLeading b w n → w.getLsbD (n - 1 - j) = b) ∧
      (countLeading b w n < n → w.getLsbD (n - 1 - countLeading b w n) = !b) := by
  induction n with
  | zero => simp [countLeading]
  | succ n ih =>
    obtain ⟨hle, hbits, hstop⟩ := ih
    unfold countLeading
    by_cases hb : w.getLsbD n = b
    · rw [if_pos hb]
      refine ⟨by omega, fun j hj => ?_, fun hlt => ?_⟩
      · cases j with
        | zero => simpa using hb
        | succ j =>
          have := hbits j (by omega)
          rwa [show n + 1 - 1 - (j + 1) = n - 1 - j by omega]
      · have := hstop (by omega)
        rwa [show n + 1 - 1 - (countLeading b w n + 1) = n - 1 - countLeading b w n by omega]
    · rw [if_neg hb]
      refine ⟨by omega, fun j hj => by omega, fun _ => ?_⟩
      show w.getLsbD n = !b
      revert hb
      cases w.getLsbD n <;> cases b <;> simp

theorem getLsbD_lowOnes (n j : Nat) (hn : n < 32) : (lowOnes n).getLsbD j = decide (j ≤ n) := by
  unfold lowOnes
  rw [BitVec.getLsbD_ofNat, Nat.testBit_two_pow_sub_one]
  by_cases h : j ≤ n
  · simp [h]; omega
  · simp [h]

/-- The counting instructions answer the count. -/
theorem count_result (b : Bool) (s : State) (rs rd : Reg) (hs : s.canAdvance = true) :
    ∃ t n, s.put rd (BitVec.ofNat 32 (countLeading b (s.readGpr rs) 32)) = .next t ∧
      GprResult s t rd (BitVec.ofNat 32 n) ∧ n ≤ 32 ∧ (∀ j, j < n → (s.readGpr rs).getLsbD (31 - j) = b) ∧
      (n < 32 → (s.readGpr rs).getLsbD (31 - n) = !b) := by
  obtain ⟨t, h1, h2⟩ := put_gprResult s rd (BitVec.ofNat 32 (countLeading b (s.readGpr rs) 32)) hs
  obtain ⟨hle, hbits, hstop⟩ := countLeading_spec b (s.readGpr rs) 32
  exact ⟨t, _, h1, h2, hle, hbits, hstop⟩

theorem getLsbD_extField (w : Word) (msb lsb j : Nat) (hm : msb < 32) :
    ((w >>> lsb) &&& lowOnes msb).getLsbD j = (decide (j ≤ msb) && w.getLsbD (lsb + j)) := by
  rw [BitVec.getLsbD_and, BitVec.getLsbD_ushiftRight, getLsbD_lowOnes _ _ hm, Bool.and_comm]

theorem getLsbD_insertField (old v : Word) (msb lsb j : Nat) (hl : lsb ≤ msb) (hm : msb < 32) (hj : j < 32) :
    (insertField old v msb lsb).getLsbD j = if lsb ≤ j ∧ j ≤ msb then v.getLsbD (j - lsb) else old.getLsbD j := by
  unfold insertField
  rw [getLsbD_merge, BitVec.getLsbD_shiftLeft, BitVec.getLsbD_shiftLeft, getLsbD_lowOnes _ _ (by omega)]
  by_cases h1 : lsb ≤ j
  · by_cases h2 : j ≤ msb
    · have : j - lsb ≤ msb - lsb := by omega
      simp [hj, h1, h2, this, Nat.not_lt.2 h1]
    · have : ¬j - lsb ≤ msb - lsb := by omega
      simp [h2, this]
  · simp [h1, Nat.not_le.1 h1]

/-- Settles O5: the counts by induction on the bits, the fields bit by bit, the extensions by definition. -/
theorem bitFieldResults : Obligations.BitFieldResults := by
  refine ⟨fun rs rd s hs => ⟨?_, ?_⟩, fun rs rt msb lsb s hs => ⟨fun h => ?_, fun h => ?_⟩, fun rt rd => ⟨?_, ?_, ?_⟩⟩
  · simpa [exec, execClz] using count_result false s rs rd hs
  · simpa [exec, execClo] using count_result true s rs rd hs
  · obtain ⟨t, h1, h2⟩ := put_gprResult s rt ((s.readGpr rs >>> lsb.toNat) &&& lowOnes msb.toNat) hs
    exact ⟨t, _, (if_neg (by omega)).trans h1, h2, fun j => getLsbD_extField _ _ _ _ msb.isLt⟩
  · obtain ⟨t, h1, h2⟩ := put_gprResult s rt (insertField (s.readGpr rt) (s.readGpr rs) msb.toNat lsb.toNat) hs
    exact ⟨t, _, (if_neg (by omega)).trans h1, h2, fun j hj => getLsbD_insertField _ _ _ _ _ h msb.isLt hj⟩
  · exact computes_of_put_eq (encode_seb rt rd) (fun _ => rfl) fun _ => by
      rw [BitVec.setWidth_eq_extractLsb' (by omega)]
  · exact computes_of_put_eq (encode_seh rt rd) (fun _ => rfl) fun _ => by
      rw [BitVec.setWidth_eq_extractLsb' (by omega)]
  · exact computes_of_put (encode_wsbh rt rd) fun _ => rfl

/-! ### Division -/

theorem divSigned_remainder (x y : Int) : x.tmod y = x - x.tdiv y * y := by
  rw [Int.tmod_def, Int.mul_comm]

theorem divUnsigned_eq (a b : Word) : a / b = BitVec.ofNat 32 (a.toNat / b.toNat) ∧
    a % b = BitVec.ofNat 32 (a.toNat % b.toNat) := by
  constructor <;> apply BitVec.eq_of_toNat_eq <;> rw [BitVec.toNat_ofNat]
  · rw [BitVec.toNat_udiv, Nat.mod_eq_of_lt (Nat.lt_of_le_of_lt (Nat.div_le_self _ _) a.isLt)]
  · rw [BitVec.toNat_umod, Nat.mod_eq_of_lt (Nat.lt_of_le_of_lt (Nat.mod_le _ _) a.isLt)]

/-- Settles O8: with a divisor the quotient and remainder of the exact values, without one free values. -/
theorem divideResults : Obligations.DivideResults := by
  intro rs rt s hs
  refine ⟨fun hd => ⟨?_, ?_⟩, fun hd => ⟨?_, ?_⟩⟩
  · rw [← divSigned_remainder]
    obtain ⟨t, h1, h2⟩ := advance_hiLoResult s (BitVec.ofInt 32 ((s.readGpr rs).toInt.tmod (s.readGpr rt).toInt))
      (BitVec.ofInt 32 ((s.readGpr rs).toInt.tdiv (s.readGpr rt).toInt)) hs
    exact ⟨t, (if_neg hd).trans h1, h2⟩
  · obtain ⟨hq, hr⟩ := divUnsigned_eq (s.readGpr rs) (s.readGpr rt)
    rw [← hq, ← hr]
    obtain ⟨t, h1, h2⟩ := advance_hiLoResult s (s.readGpr rs % s.readGpr rt) (s.readGpr rs / s.readGpr rt) hs
    exact ⟨t, (if_neg hd).trans h1, h2⟩
  · obtain ⟨t, h1, h2⟩ := advance_hiLoResult s (Config.free32 s.freeCtr .divHi) (Config.free32 s.freeCtr .divLo) hs
    exact ⟨t, _, _, (if_pos hd).trans h1, h2⟩
  · obtain ⟨t, h1, h2⟩ := advance_hiLoResult s (Config.free32 s.freeCtr .divHi) (Config.free32 s.freeCtr .divLo) hs
    exact ⟨t, _, _, (if_pos hd).trans h1, h2⟩

/-! ### `mul` and the moves of `HI` and `LO` -/

/-- A move to `HI` or `LO` is the accumulator with that half replaced. -/
theorem accumulates_of_advance {i : Instr} {w : Word} {hi lo : State → Word} (hw : encode i = w)
    (hx : ∀ s, exec i s = State.advance { s with hi := hi s, lo := lo s }) :
    Accumulates i w (fun s => hi s ++ lo s) := by
  refine accumulates_of_putAcc (u := fun s => hi s ++ lo s) hw (fun s => ?_) fun _ => rfl
  rw [hx s, State.putAcc, BitVec.extractLsb'_append_eq_left, BitVec.setWidth_append_eq_right]

/-- Settles O9: `mul` puts the low half of the product over free `HI` and `LO`; the moves by definition. -/
theorem mulAndHiLoMoves : Obligations.MulAndHiLoMoves := by
  refine ⟨fun rs rt rd s hs => ?_, fun rd => ⟨?_, ?_⟩, fun rs => ⟨?_, ?_⟩⟩
  · obtain ⟨t, h1, h2⟩ := put_gprResult s.freeAfterMul rd (s.readGpr rs * s.readGpr rt) hs
    refine ⟨t, Config.free32 s.freeCtr .mulHi, Config.free32 s.freeCtr .mulLo, h1, ?_⟩
    rw [BitVec.ofNat_mul, BitVec.ofNat_toNat, BitVec.ofNat_toNat, BitVec.setWidth_eq, BitVec.setWidth_eq]
    exact h2
  · exact computes_of_put (encode_mfhi rd) fun _ => rfl
  · exact computes_of_put (encode_mflo rd) fun _ => rfl
  · exact accumulates_of_advance (encode_mthi rs) fun _ => rfl
  · exact accumulates_of_advance (encode_mtlo rs) fun _ => rfl

end Sys2Proof.Machine
/-! ## Branches and jumps (42_branch_jump.md): what each control transfer does -/

namespace Sys2Proof.Machine

theorem canBranch_iff (s : State) : s.canBranch = true ↔ s.slot = .none ∧ s.pc ≠ 0xFFFFFFFC := by
  simp [State.canBranch]

theorem inDelaySlot_false (s : State) (h : s.slot = .none) : s.inDelaySlot = false := by
  simp [State.inDelaySlot, h]

theorem inDelaySlot_true (s : State) (h : s.slot ≠ .none) : s.inDelaySlot = true := by
  simp [State.inDelaySlot, h]

/-! ### Targets and conditions as the rules write them -/

/-- The offset of a branch is counted in words (R451). -/
theorem branchTarget_eq (pc : Word) (off : BitVec 16) :
    branchTarget pc off = pc + 4 + (off ++ 0#2).signExtend 32 := by
  unfold branchTarget sext16
  congr 1
  have msb : (off ++ 0#2).msb = off.msb := by rw [BitVec.msb_append]; rfl
  apply BitVec.eq_of_getLsbD_eq
  intro j hj
  rw [BitVec.getLsbD_shiftLeft, BitVec.getLsbD_signExtend, BitVec.getLsbD_signExtend, msb, BitVec.getLsbD_append]
  by_cases h2 : j < 2
  · simp [hj, h2, show j < 18 by omega]
  · by_cases h18 : j < 18
    · simp [hj, h2, h18, show j - 2 < 16 by omega, show j - 2 < 32 by omega]
    · simp [hj, h2, h18, show ¬j - 2 < 16 by omega, show j - 2 < 32 by omega]

/-- The target of a jump lies in the region of its delay slot (R451). -/
theorem jumpTarget_eq (pc : Word) (target : BitVec 26) :
    jumpTarget pc target = (pc + 4).extractLsb' 28 4 ++ target ++ 0#2 := by
  unfold jumpTarget
  apply BitVec.eq_of_getLsbD_eq
  intro j hj
  have mask : (0xF0000000#32).getLsbD j = decide (28 ≤ j) := by
    revert j
    decide
  rw [BitVec.getLsbD_or, BitVec.getLsbD_and, BitVec.getLsbD_setWidth, BitVec.getLsbD_append, BitVec.getLsbD_append,
    BitVec.getLsbD_append, BitVec.getLsbD_extractLsb', mask]
  by_cases h2 : j < 2
  · simp [hj, h2, show ¬28 ≤ j by omega]
  · by_cases h28 : j < 28
    · simp [hj, h2, show ¬28 ≤ j by omega, show j - 2 < 26 by omega]
    · simp [hj, h2, show 28 ≤ j by omega, show ¬j - 2 < 26 by omega, show j - 2 - 26 < 4 by omega,
        show 28 + (j - 2 - 26) = j by omega, BitVec.getLsbD_of_ge target (j - 2) (by omega)]

theorem sign_iff (w : Word) : w.getLsbD 31 = decide (w.toInt < 0) := by
  rw [← BitVec.msb_eq_toInt, BitVec.msb_eq_getLsbD_last]

theorem not_sign_iff (w : Word) : (!w.getLsbD 31) = decide (0 ≤ w.toInt) := by
  rw [sign_iff]
  simp [← decide_not]

theorem toInt_eq_zero_iff (w : Word) : w.toInt = 0 ↔ w = 0 :=
  ⟨fun h => BitVec.eq_of_toInt_eq (by simpa using h), fun h => by simp [h]⟩

theorem lez_eq (w : Word) : lez w = decide (w.toInt ≤ 0) := by
  unfold lez
  rw [sign_iff, ← Bool.decide_or, decide_eq_decide, ← toInt_eq_zero_iff]
  omega

theorem gtz_eq (w : Word) : gtz w = decide (0 < w.toInt) := by
  unfold gtz
  rw [not_sign_iff, ← Bool.decide_and, decide_eq_decide, ne_eq, ← toInt_eq_zero_iff]
  omega

/-! ### The control transfers -/

theorem branch_branched (s : State) (cond : Bool) (off : BitVec 16) (h : s.canBranch = true) :
    ∃ t, s.branch cond off = .next t ∧ Branched s t cond (s.pc + 4 + (off ++ 0#2).signExtend 32) false := by
  obtain ⟨hs, hp⟩ := (canBranch_iff s).1 h
  unfold State.branch State.enterSlot
  rw [inDelaySlot_false s hs, branchTarget_eq]
  cases cond
  · exact ⟨_, if_neg hp, rfl, rfl, rfl, fun _ => rfl, rfl⟩
  · exact ⟨_, if_neg hp, rfl, rfl, rfl, fun _ => rfl, rfl⟩

theorem branchLikely_spec (s : State) (cond : Bool) (off : BitVec 16) (h : s.canBranch = true)
    (h8 : s.pc ≠ 0xFFFFFFF8) : ∃ t, s.branchLikely cond off = .next t ∧
      (cond = true → Branched s t true (s.pc + 4 + (off ++ 0#2).signExtend 32) false) ∧
      (cond = false → Nullified s t) := by
  obtain ⟨hs, hp⟩ := (canBranch_iff s).1 h
  unfold State.branchLikely State.enterSlot State.skipSlot
  rw [inDelaySlot_false s hs, branchTarget_eq]
  cases cond
  · exact ⟨_, if_neg (not_or.2 ⟨hp, h8⟩), nofun, fun _ => ⟨rfl, rfl, fun _ => rfl, rfl⟩⟩
  · exact ⟨_, if_neg hp, fun _ => ⟨rfl, rfl, rfl, fun _ => rfl, rfl⟩, nofun⟩

theorem jump_branched (s : State) (t : Word) (hb : Bool) (h : s.canBranch = true) :
    ∃ u, s.jump t hb = .next u ∧ Branched s u true t hb := by
  obtain ⟨hs, hp⟩ := (canBranch_iff s).1 h
  unfold State.jump State.enterSlot
  rw [inDelaySlot_false s hs]
  exact ⟨_, if_neg hp, rfl, rfl, rfl, fun _ => rfl, rfl⟩

theorem jumpReg_branched (s : State) (t : Word) (hb : Bool) (h : s.canBranch = true) (ht : t.getLsbD 0 = false) :
    ∃ u, s.jumpReg t hb = .next u ∧ Branched s u true t hb := by
  obtain ⟨hs, hp⟩ := (canBranch_iff s).1 h
  unfold State.jumpReg State.enterSlot
  rw [inDelaySlot_false s hs, ht]
  exact ⟨_, if_neg hp, rfl, rfl, rfl, fun _ => rfl, rfl⟩

/-- A linking form writes its register first. -/
theorem linkWritten (s : State) (r : Reg) : LinkWritten s (s.link r) r where
  value := by
    unfold State.link
    rw [readGpr_writeGpr]
    by_cases hr : r = 0
    · rw [if_pos hr, if_pos hr]
    · rw [if_neg hr, if_neg hr, if_pos rfl]
  others := fun set q hq => by
    unfold State.link State.writeGpr
    rw [readSet_writeSet]
    by_cases h0 : q = 0
    · simp [h0]
    · rw [if_neg h0, if_neg hq]
  frame := writeGpr_gpr_only s r _

theorem canBranch_link (s : State) (r : Reg) : (s.link r).canBranch = s.canBranch := by
  simp [State.canBranch]

/-- A linking branch. -/
theorem link_branch_branched (s : State) (r : Reg) (cond : Bool) (off : BitVec 16) (h : s.canBranch = true) :
    ∃ u t, (s.link r).branch cond off = .next t ∧ LinkWritten s u r ∧
      Branched u t cond (s.pc + 4 + (off ++ 0#2).signExtend 32) false := by
  obtain ⟨t, h1, h2⟩ := branch_branched (s.link r) cond off ((canBranch_link s r).trans h)
  exact ⟨_, t, h1, linkWritten s r, link_pc s r ▸ h2⟩

/-- A linking branch likely. -/
theorem link_branchLikely_spec (s : State) (r : Reg) (cond : Bool) (off : BitVec 16) (h : s.canBranch = true)
    (h8 : s.pc ≠ 0xFFFFFFF8) : ∃ u t, (s.link r).branchLikely cond off = .next t ∧ LinkWritten s u r ∧
      (cond = true → Branched u t true (s.pc + 4 + (off ++ 0#2).signExtend 32) false) ∧
      (cond = false → Nullified u t) := by
  obtain ⟨t, h1, h2⟩ := branchLikely_spec (s.link r) cond off ((canBranch_link s r).trans h) (by rwa [link_pc])
  exact ⟨_, t, h1, linkWritten s r, link_pc s r ▸ h2⟩

/-- The same for a condition that is a proposition. -/
theorem likely_of_decide {u t : State} {target : Word} {c : Prop} [Decidable c]
    (h : (decide c = true → Branched u t true target false) ∧ (decide c = false → Nullified u t)) :
    (c → Branched u t true target false) ∧ (¬c → Nullified u t) :=
  ⟨fun hc => h.1 (decide_eq_true hc), fun hc => h.2 (decide_eq_false hc)⟩

/-- Settles O10: each is the branch on its condition, the linking ones after the link is written. -/
theorem conditionalBranches : Obligations.ConditionalBranches := by
  intro rs rt off s h
  have sgn := sign_iff (s.readGpr rs)
  have nsgn := not_sign_iff (s.readGpr rs)
  refine ⟨branch_branched s _ off h, branch_branched s _ off h, ?_, ?_, ?_, ?_, fun h31 => ⟨?_, ?_⟩⟩
  · rw [← lez_eq]; exact branch_branched s _ off h
  · rw [← gtz_eq]; exact branch_branched s _ off h
  · rw [← sgn]; exact branch_branched s _ off h
  · rw [← nsgn]; exact branch_branched s _ off h
  · rw [← sgn]
    obtain ⟨u, t, h1, h2⟩ := link_branch_branched s 31 ((s.readGpr rs).getLsbD 31) off h
    exact ⟨u, t, (if_neg h31).trans h1, h2⟩
  · rw [← nsgn]
    obtain ⟨u, t, h1, h2⟩ := link_branch_branched s 31 (!(s.readGpr rs).getLsbD 31) off h
    exact ⟨u, t, (if_neg h31).trans h1, h2⟩

/-- A branch likely whose condition the rule writes as the proposition `c`. -/
theorem branchLikely_prop (s : State) (b : Bool) (c : Prop) [Decidable c] (off : BitVec 16) (hb : b = decide c)
    (h : s.canBranch = true) (h8 : s.pc ≠ 0xFFFFFFF8) : ∃ t, s.branchLikely b off = .next t ∧
      (c → Branched s t true (s.pc + 4 + (off ++ 0#2).signExtend 32) false) ∧ (¬c → Nullified s t) := by
  subst hb
  obtain ⟨t, h1, h2⟩ := branchLikely_spec s (decide c) off h h8
  exact ⟨t, h1, likely_of_decide h2⟩

/-- The same for a linking form. -/
theorem link_branchLikely_prop (s : State) (r : Reg) (b : Bool) (c : Prop) [Decidable c] (off : BitVec 16)
    (hb : b = decide c) (h : s.canBranch = true) (h8 : s.pc ≠ 0xFFFFFFF8) :
    ∃ u t, (s.link r).branchLikely b off = .next t ∧ LinkWritten s u r ∧
      (c → Branched u t true (s.pc + 4 + (off ++ 0#2).signExtend 32) false) ∧ (¬c → Nullified u t) := by
  subst hb
  obtain ⟨u, t, h1, h2, h3⟩ := link_branchLikely_spec s r (decide c) off h h8
  exact ⟨u, t, h1, h2, likely_of_decide h3⟩

/-- Settles O11: each is the branch likely on its condition, the linking ones after the link is written. -/
theorem branchLikely : Obligations.BranchLikely := by
  intro rs rt off s h h8
  refine ⟨branchLikely_prop s _ _ off rfl h h8, branchLikely_prop s _ _ off rfl h h8,
    branchLikely_prop s _ _ off (lez_eq _) h h8, branchLikely_prop s _ _ off (gtz_eq _) h h8,
    branchLikely_prop s _ _ off (sign_iff _) h h8, branchLikely_prop s _ _ off (not_sign_iff _) h h8,
    fun h31 => ⟨?_, ?_⟩⟩
  · obtain ⟨u, t, h1, h2⟩ := link_branchLikely_prop s 31 _ _ off (sign_iff (s.readGpr rs)) h h8
    exact ⟨u, t, (if_neg h31).trans h1, h2⟩
  · obtain ⟨u, t, h1, h2⟩ := link_branchLikely_prop s 31 _ _ off (not_sign_iff (s.readGpr rs)) h h8
    exact ⟨u, t, (if_neg h31).trans h1, h2⟩

/-- Settles O12: each is the jump to its target, the linking ones after the link is written. -/
theorem jumps : Obligations.Jumps := by
  intro target rs rd s h
  have hl (r : Reg) := (canBranch_link s r).trans h
  refine ⟨?_, ?_, fun he => ⟨jumpReg_branched s _ _ h he, jumpReg_branched s _ _ h he, fun hne => ⟨?_, ?_⟩⟩⟩
  · rw [← jumpTarget_eq]
    exact jump_branched s _ _ h
  · rw [← jumpTarget_eq]
    obtain ⟨t, h1, h2⟩ := jump_branched (s.link 31) (jumpTarget s.pc target) false (hl 31)
    exact ⟨_, t, h1, linkWritten s 31, h2⟩
  · obtain ⟨t, h1, h2⟩ := jumpReg_branched (s.link rd) (s.readGpr rs) false (hl rd) he
    exact ⟨_, t, (if_neg hne).trans h1, linkWritten s rd, h2⟩
  · obtain ⟨t, h1, h2⟩ := jumpReg_branched (s.link rd) (s.readGpr rs) true (hl rd) he
    exact ⟨_, t, (if_neg hne).trans h1, linkWritten s rd, h2⟩

/-! ### What is refused -/

section Refused
variable {s : State} (h : s.slot ≠ .none)
include h

theorem branch_refused (cond : Bool) (off : BitVec 16) : s.branch cond off = .refused .branchInDelaySlot :=
  if_pos (inDelaySlot_true s h)

theorem branchLikely_refused (cond : Bool) (off : BitVec 16) : s.branchLikely cond off = .refused .branchInDelaySlot :=
  if_pos (inDelaySlot_true s h)

theorem jump_refused (t : Word) (hb : Bool) : s.jump t hb = .refused .branchInDelaySlot :=
  if_pos (inDelaySlot_true s h)

theorem jumpReg_refused (t : Word) (hb : Bool) : s.jumpReg t hb = .refused .branchInDelaySlot :=
  if_pos (inDelaySlot_true s h)

theorem link_slot_ne (r : Reg) : (s.link r).slot ≠ .none := by
  rwa [link_slot]

end Refused

theorem jumpReg_odd (s : State) (t : Word) (hb : Bool) (h : s.slot = .none) (ht : t.getLsbD 0 = true) :
    s.jumpReg t hb = .refused .mips16 := by
  unfold State.jumpReg
  rw [inDelaySlot_false s h, ht]
  rfl

/-- Settles O13: the delay slot is asked about first, then the target's low bit. -/
theorem controlTransfersRefused : Obligations.ControlTransfersRefused := by
  refine ⟨fun target rs rd s => ⟨rfl, fun hs ho => ?_⟩, fun rs rt rd off target cc s hs => ?_⟩
  · have hl : (s.link rd).slot = .none := (link_slot s rd).trans hs
    exact ⟨jumpReg_odd s _ _ hs ho, jumpReg_odd s _ _ hs ho,
      fun hne => ⟨(if_neg hne).trans (jumpReg_odd _ _ _ hl ho), (if_neg hne).trans (jumpReg_odd _ _ _ hl ho)⟩⟩
  · have hl (r : Reg) := link_slot_ne hs r
    refine ⟨?_, fun hr => ?_, fun hr => ?_, fun hu => ?_, fun hu => ?_, fun hu => ⟨?_, fun hd => ?_⟩⟩
    · simp only [List.forall_mem_cons, List.not_mem_nil, false_implies, implies_true, and_true]
      exact ⟨branch_refused hs _ _, branch_refused hs _ _, branch_refused hs _ _, branch_refused hs _ _,
        branch_refused hs _ _, branch_refused hs _ _, branchLikely_refused hs _ _, branchLikely_refused hs _ _,
        branchLikely_refused hs _ _, branchLikely_refused hs _ _, branchLikely_refused hs _ _,
        branchLikely_refused hs _ _, jump_refused hs _ _, jump_refused (hl 31) _ _, jumpReg_refused hs _ _,
        jumpReg_refused hs _ _⟩
    · simp only [List.forall_mem_cons, List.not_mem_nil, false_implies, implies_true, and_true]
      exact ⟨(if_neg hr).trans (branch_refused (hl 31) _ _), (if_neg hr).trans (branch_refused (hl 31) _ _),
        (if_neg hr).trans (branchLikely_refused (hl 31) _ _), (if_neg hr).trans (branchLikely_refused (hl 31) _ _)⟩
    · simp only [List.forall_mem_cons, List.not_mem_nil, false_implies, implies_true, and_true]
      exact ⟨(if_neg hr).trans (jumpReg_refused (hl rd) _ _), (if_neg hr).trans (jumpReg_refused (hl rd) _ _)⟩
    · simp only [List.forall_mem_cons, List.not_mem_nil, false_implies, implies_true, and_true]
      exact ⟨(if_pos hu).trans (branch_refused hs _ _), (if_pos hu).trans (branch_refused hs _ _),
        (if_pos hu).trans (branchLikely_refused hs _ _), (if_pos hu).trans (branchLikely_refused hs _ _)⟩
    · simp only [List.forall_mem_cons, List.not_mem_nil, false_implies, implies_true, and_true]
      exact ⟨(if_pos hu).trans (branch_refused hs _ _), (if_pos hu).trans (branch_refused hs _ _),
        (if_pos hu).trans (branchLikely_refused hs _ _), (if_pos hu).trans (branchLikely_refused hs _ _)⟩
    · exact (if_pos hu).trans (if_pos (inDelaySlot_true s hs))
    · refine (if_pos hu).trans ((if_neg ?_).trans (if_pos (inDelaySlot_true s hs)))
      rw [hd]
      exact Bool.false_ne_true

/-- Settles O14: a coprocessor branch is the branch on its condition where the coprocessor is usable. -/
theorem coprocessorBranches : Obligations.CoprocessorBranches := by
  intro cc off s h h8
  refine ⟨fun hu => ?_, fun hu => ?_⟩
  · simp only [exec, execBc1f, execBc1t, execBc1fl, execBc1tl, State.cop1Instr, if_pos hu]
    exact ⟨branch_branched s _ off h, branch_branched s _ off h, branchLikely_spec s _ off h h8,
      branchLikely_spec s _ off h h8⟩
  · simp only [exec, execBc2f, execBc2t, execBc2fl, execBc2tl, State.cop2Instr, if_pos hu]
    exact ⟨branch_branched s _ off h, branch_branched s _ off h, branchLikely_spec s _ off h h8,
      branchLikely_spec s _ off h h8⟩

end Sys2Proof.Machine
/-! ## Taking an exception: the entry each one makes (R800 to R808, R882, R885) -/

namespace Sys2Proof.Machine

theorem flushGather_dbg (s : State) : s.flushGather.dbg = s.dbg := by rw [flushGather_eq]

/-- The exceptions whose entry is the general one and selects the set `SRSCtl[ESS]`: all but interrupts, cache errors and
debug exceptions. -/
def Exc.isGeneral : Exc → Bool
  | .int | .cacheError | .sdbbp | .debug _ => false
  | _ => true

/-- The vector offset outside exception level (R805). -/
def Exc.offset : Exc → Word
  | .tlbRefill _ _ => 0x000
  | _ => 0x180

/-- The `Status` bits the entry sets: `EXL`, for a Machine Check `TS` too (R800). -/
def Exc.statusBits (e : Exc) : Word := if e = .mcheck then 0x00200002 else 0x00000002

/-- The state after the general entry of an exception other than an interrupt. -/
def State.generalEntered (s : State) (e : Exc) : State :=
  { s.enterAt (s.entryPoint (if s.exl then 0x180 else e.offset)) with
    cp0 := s.cp0After e (if s.exl then none else some s.ess) }

theorem vectorOf_general (s : State) (e : Exc) (hz : s.hazards = []) (he : e.isGeneral = true) :
    s.vectorOf e = .ok (if s.exl then 0x180 else e.offset, if s.exl then none else some s.ess) := by
  unfold State.vectorOf
  rw [view_eq .vector s hz]
  cases hx : s.exl
  · cases e
    case int | cacheError | sdbbp | debug => cases he
    all_goals rfl
  · rfl

theorem setOk_not_refused (s : State) (n : BitVec 4) (h : s.setOk n = true) :
    ¬(s.cfg.numShadowSets > 1 ∧ (!s.bev) = true ∧ n.toNat ≥ s.cfg.numShadowSets) := by
  simp only [State.setOk, Bool.or_eq_true, decide_eq_true_eq] at h
  rintro ⟨h1, h2, h3⟩
  rcases h with (h | h) | h
  · omega
  · simp [h] at h2
  · omega

theorem raise_general (s : State) (e : Exc) (hd : s.dm = false) (hz : s.hazards = [])
    (ho : s.exl = true ∨ s.setOk s.ess = true) (he : e.isGeneral = true) :
    s.raise e = .next (s.generalEntered e) := by
  have hr : s.raise e = s.takeGeneral e := by
    unfold State.raise
    rw [hd]
    cases e
    case int | cacheError | sdbbp | debug => cases he
    all_goals rfl
  rw [hr]
  unfold State.takeGeneral State.generalEntered
  rw [vectorOf_general s e hz he]
  cases hx : s.exl
  · have hok : s.setOk s.ess = true := ho.resolve_left (by simp [hx])
    exact if_neg (setOk_not_refused s s.ess hok)
  · rfl

theorem recordAddress_eq (c : Cp0) (e : Exc) : c.recordAddress e = { c with
    badVAddr := (c.recordAddress e).badVAddr, context := (c.recordAddress e).context,
    entryHi := (c.recordAddress e).entryHi } := by
  unfold Cp0.recordAddress
  split
  · rfl
  · split <;> rfl

theorem srsCtlAfter_of_not_int (s : State) (e : Exc) (set : Option (BitVec 4)) (he : e ≠ .int) :
    s.srsCtlAfter e set = match set with
      | some n => if s.cfg.numShadowSets > 1 && !s.bev then switchSet s.cp0.srsCtl n else s.cp0.srsCtl
      | none => s.cp0.srsCtl := by
  unfold State.srsCtlAfter
  cases set <;> simp only [he, decide_false, Bool.and_false, Bool.false_eq_true, if_false]

theorem srsCtlAfter_kept (s : State) (e : Exc) (set : Option (BitVec 4)) (he : e ≠ .int) :
    s.srsCtlAfter e set &&& 0xFFFFFC30 = s.cp0.srsCtl &&& 0xFFFFFC30 := by
  rw [srsCtlAfter_of_not_int s e set he]
  cases set with
  | none => rfl
  | some n =>
    dsimp only
    split
    · exact switchSet_kept _ _
    · rfl

theorem generalEntered_sets (s : State) (e : Exc) (he : e ≠ .int) :
    if s.exl = false ∧ s.cfg.numShadowSets > 1 ∧ s.bev = false
    then (s.generalEntered e).css = s.ess ∧ (s.generalEntered e).pss = s.css
    else (s.generalEntered e).cp0.srsCtl = s.cp0.srsCtl := by
  have hs : (s.generalEntered e).cp0.srsCtl = s.srsCtlAfter e (if s.exl then none else some s.ess) := rfl
  rw [srsCtlAfter_of_not_int s e _ he] at hs
  split
  · next h =>
    obtain ⟨hx, hn, hb⟩ := h
    simp only [hx, hb, hn, Bool.false_eq_true, if_false, decide_true, Bool.not_false, Bool.and_self, if_true] at hs
    constructor
    · show (s.generalEntered e).cp0.srsCtl.extractLsb' 0 4 = _
      rw [hs]
      exact switchSet_css _ _
    · show (s.generalEntered e).cp0.srsCtl.extractLsb' 6 4 = _
      rw [hs]
      exact switchSet_pss _ _
  · next h =>
    rw [hs]
    cases hx : s.exl
    · have hc : (decide (s.cfg.numShadowSets > 1) && !s.bev) = false := by
        rw [Bool.eq_false_iff]
        intro hc
        simp only [Bool.and_eq_true, decide_eq_true_eq, Bool.not_eq_true'] at hc
        exact h ⟨hx, hc⟩
      simp only [Bool.false_eq_true, if_false, hc]
    · rfl

/-- Every general exception makes the general entry with its code, offset and `Status` bits. -/
theorem generalEntry_generalEntered (s : State) (e : Exc) (hz : s.hazards = []) (he : e ≠ .int) :
    GeneralEntry s (s.generalEntered e) e.code e.offset e.statusBits where
  entry := by
    have hv : s.entryPoint (if s.exl then 0x180 else e.offset) =
        (let o : Word := if s.exl then 0x180 else e.offset
         if s.bev then 0xBFC00200 + o else (s.cp0.ebase &&& 0xFFFFF000) ||| o) := by
      unfold State.entryPoint
      rw [view_eq .vector s hz]
    rw [← hv]
    exact entryFrame_cp0 s _ _
  debugUnit := flushGather_dbg s
  epc := rfl
  inSlot := causeAfter_bd s e
  excCode := causeAfter_code s e
  causeKept := causeAfter_kept s e
  status := rfl
  sets := generalEntered_sets s e he
  srsKept := srsCtlAfter_kept s e _ he
  cp0 := by
    show s.cp0After e _ = _
    unfold State.cp0After
    rw [recordAddress_eq]
    rfl

theorem raise_entry (s : State) (e : Exc) (hd : s.dm = false) (hz : s.hazards = [])
    (ho : s.exl = true ∨ s.setOk s.ess = true) (he : e.isGeneral = true) :
    ∃ t, s.raise e = .next t ∧ GeneralEntry s t e.code e.offset e.statusBits ∧
      t.cp0.badVAddr = (s.cp0.recordAddress e).badVAddr ∧ t.cp0.context = (s.cp0.recordAddress e).context ∧
      t.cp0.entryHi = (s.cp0.recordAddress e).entryHi := by
  refine ⟨_, raise_general s e hd hz ho he, generalEntry_generalEntered s e hz ?_, rfl, rfl, rfl⟩
  rintro rfl
  cases he

/-- An exception that reports no address leaves the address registers. -/
theorem raise_entry_noAddress (s : State) (e : Exc) (hd : s.dm = false) (hz : s.hazards = [])
    (ho : s.exl = true ∨ s.setOk s.ess = true) (he : e.isGeneral = true) (ha : e.badVAddr = none) :
    ∃ t, s.raise e = .next t ∧ GeneralEntry s t e.code e.offset e.statusBits ∧ AddressesKept s t := by
  obtain ⟨t, hr, hg, h⟩ := raise_entry s e hd hz ho he
  rw [show s.cp0.recordAddress e = s.cp0 by unfold Cp0.recordAddress; rw [ha]] at h
  exact ⟨t, hr, hg, h⟩

/-- A TLB exception records its address in `BadVAddr`, `Context` and `EntryHi` (R213). -/
theorem raise_entry_tlb (s : State) (e : Exc) (va : Word) (hd : s.dm = false) (hz : s.hazards = [])
    (ho : s.exl = true ∨ s.setOk s.ess = true) (he : e.isGeneral = true) (ha : e.badVAddr = some va)
    (ht : e.isTlb = true) :
    ∃ t, s.raise e = .next t ∧ GeneralEntry s t e.code e.offset e.statusBits ∧ TlbMissRecorded s t va := by
  obtain ⟨t, hr, hg, h⟩ := raise_entry s e hd hz ho he
  have hrec : s.cp0.recordAddress e = { s.cp0 with
      badVAddr := va, context := merge s.cp0.context (va >>> 9) 0x007FFFF0,
      entryHi := merge s.cp0.entryHi va 0xFFFFE000 } := by
    unfold Cp0.recordAddress
    rw [ha, ht]
    rfl
  rw [hrec] at h
  obtain ⟨hb, hc, hh⟩ := h
  refine ⟨t, hr, hg, hb, ?_, ?_, ?_, ?_⟩
  · rw [hc, extract_merge_in _ _ _ 4 19 (by decide)]
    apply BitVec.eq_of_getLsbD_eq
    intro j hj
    simp only [BitVec.getLsbD_extractLsb', hj, decide_true, Bool.true_and, BitVec.getLsbD_ushiftRight]
    congr 1
    omega
  · rw [hc]
    exact merge_and_out _ _ (by decide)
  · rw [hh, extract_merge_in _ _ _ 13 19 (by decide)]
  · rw [hh]
    exact merge_and_out _ _ (by decide)

theorem raise_entry_addrError (s : State) (store : Bool) (va : Word) (hd : s.dm = false) (hz : s.hazards = [])
    (ho : s.exl = true ∨ s.setOk s.ess = true) :
    ∃ t, s.raise (.addrError store va) = .next t ∧
      GeneralEntry s t (if store then 5 else 4) 0x180 2 ∧ AddressErrorRecorded s t va :=
  raise_entry s (.addrError store va) hd hz ho rfl

/-- Settles O45: every one of these exceptions makes the general entry and records its address. -/
theorem addressExceptionEntry : Obligations.AddressExceptionEntry := by
  intro s va hd hz ho
  exact ⟨raise_entry_addrError s false va hd hz ho, raise_entry_addrError s true va hd hz ho,
    raise_entry_tlb s (.tlbMod va) va hd hz ho rfl rfl rfl,
    raise_entry_tlb s (.tlbInvalid false va) va hd hz ho rfl rfl rfl,
    raise_entry_tlb s (.tlbInvalid true va) va hd hz ho rfl rfl rfl,
    raise_entry_tlb s (.tlbRefill false va) va hd hz ho rfl rfl rfl,
    raise_entry_tlb s (.tlbRefill true va) va hd hz ho rfl rfl rfl⟩

/-- Settles O44: every one of these exceptions makes the general entry and reports no address. -/
theorem exceptionEntry : Obligations.ExceptionEntry := by
  intro s hd hz ho
  refine ⟨?_, ?_, raise_entry_noAddress s .mcheck hd hz ho rfl rfl, ?_⟩
  · simp only [List.forall_mem_cons, List.not_mem_nil, false_implies, implies_true, and_true]
    exact ⟨raise_entry_noAddress s .ibe hd hz ho rfl rfl, raise_entry_noAddress s .dbe hd hz ho rfl rfl,
      raise_entry_noAddress s .sys hd hz ho rfl rfl, raise_entry_noAddress s .bp hd hz ho rfl rfl,
      raise_entry_noAddress s .ri hd hz ho rfl rfl, raise_entry_noAddress s .ov hd hz ho rfl rfl,
      raise_entry_noAddress s .tr hd hz ho rfl rfl, raise_entry_noAddress s .fpe hd hz ho rfl rfl,
      raise_entry_noAddress s .is1 hd hz ho rfl rfl, raise_entry_noAddress s .ceu hd hz ho rfl rfl,
      raise_entry_noAddress s .c2e hd hz ho rfl rfl, raise_entry_noAddress s .watch hd hz ho rfl rfl⟩
  · intro n
    have hg := generalEntry_generalEntered s (.cpu n) hz (by simp)
    exact ⟨_, raise_general s (.cpu n) hd hz ho rfl, hg, ⟨rfl, rfl, rfl⟩, causeAfter_ce s n⟩
  · intro code
    exact ⟨raise_entry_noAddress s .sys hd hz ho rfl rfl, raise_entry_noAddress s .bp hd hz ho rfl rfl⟩

/-! ## Debug entries, NMI and Cache Error -/

/-- An entry to debug mode by one cause (R882), no imprecise break pending. -/
theorem debugEntry_takeDebug (s : State) (c : Word) (hb : s.dbg.pendBreaks = []) (hc : c &&& 0x000C003F = c)
    (hr : c.getLsbD 5 = decide (c = 0x00000020)) : ∃ t, s.takeDebug c = .next t ∧ DebugEntry s t c := by
  obtain ⟨b31, b30, b20, b26, b27⟩ := debugAfter_bits s c
  refine ⟨_, rfl, ?_, rfl, b31, ⟨b30, b20⟩, (debugAfter_causes s c hb).trans hc, ⟨b26, b27⟩, debugAfter_kept s c,
    rfl, ?_⟩
  · exact entryFrame_dbg s _ _ _
  · rw [hr]
    simp only [decide_eq_true_eq, ← hb]

/-- A code put into `Debug[DExcCode]` stands there and in none of the cause bits. -/
theorem dExcCode_field (c : BitVec 5) : ((c.setWidth 32 <<< 10 : Word).extractLsb' 10 5 = c) ∧
    (c.setWidth 32 <<< 10 : Word) &&& 0x000C003F = 0 := by
  revert c
  decide

/-- A nested debug exception (R885). -/
theorem nestedEntry_takeNested (s : State) (e : Exc) : ∃ t, s.takeNested e = .next t ∧ NestedEntry s t e.code := by
  have hcode : ∀ j, j < 5 → (0x000C7C3F : Word).getLsbD (10 + j) = true := by decide
  have hbit : ∀ j, j < 5 → (1#32 <<< 31 : Word).getLsbD (10 + j) = false := by decide
  obtain ⟨hfield, hcauses⟩ := dExcCode_field e.code
  refine ⟨_, rfl, entryFrame_cp0 s s.debugVector _, rfl, ?_, ?_, ?_, ?_, rfl, ?_⟩
  · show (putBit _ 31 _).getLsbD 31 = _
    simp [getElem_putBit, State.inDelaySlot]
  · show (putBit _ 31 _).extractLsb' 10 5 = _
    exact (extract_merge_out _ _ _ 10 5 hbit).trans ((extract_merge_in _ _ _ 10 5 hcode).trans hfield)
  · show putBit _ 31 _ &&& _ = _
    rw [putBit_and_out _ _ _ (by decide), merge_and_in _ _ (by decide)]
    exact hcauses
  · show putBit _ 31 _ &&& _ = _
    rw [putBit_and_out _ _ _ (by decide), merge_and_out _ _ (by decide)]
  · exact flushGather_dbg s

/-- In debug mode every exception is a nested one (R885). -/
theorem raise_nested (s : State) (e : Exc) (hd : s.dm = true) : ∃ t, s.raise e = .next t ∧ NestedEntry s t e.code := by
  rw [show s.raise e = s.takeNested e from if_pos hd]
  exact nestedEntry_takeNested s e

theorem raise_debugEntry (s : State) (c : Word) (hd : s.dm = false) (hb : s.dbg.pendBreaks = [])
    (hc : c &&& 0x000C003F = c) (hr : c.getLsbD 5 = decide (c = 0x00000020)) :
    ∃ t, s.raise (.debug c) = .next t ∧ DebugEntry s t c := by
  rw [show s.raise (.debug c) = s.takeDebug c from if_neg (by simp [hd])]
  exact debugEntry_takeDebug s c hb hc hr

/-- NMI clears `TS` and sets `BEV`, `NMI`, `ERL` (R963): a merge whose new bits all stand in its mask. -/
theorem nmi_status (w : Word) : merge w 0x00480004 0x00780004 = (w &&& 0xFF87FFFF) ||| 0x00480004 := by
  have hbits : ∀ j, j < 32 → (0x00780004 : Word).getLsbD j =
      ((0x00480004 : Word).getLsbD j || !(0xFF87FFFF : Word).getLsbD j) := by decide
  apply BitVec.eq_of_getLsbD_eq
  intro j hj
  rw [getLsbD_merge, hbits j hj, BitVec.getLsbD_or, BitVec.getLsbD_and]
  cases (0x00480004 : Word).getLsbD j <;> cases (0xFF87FFFF : Word).getLsbD j <;> simp

/-- Settles O46: each of these entries, by the operation that makes it. -/
theorem debugNmiCacheErrorEntry : Obligations.DebugNmiCacheErrorEntry := by
  refine ⟨fun s code hd hb => ⟨?_, ?_⟩, fun s va n store hd => ?_, fun s => ?_, fun s hd hz => ?_⟩
  · rw [show exec (.sdbbp code) s = s.takeDebug 0x00000002 from if_neg (by simp [hd])]
    exact debugEntry_takeDebug s _ hb (by decide) (by decide)
  · simp only [List.forall_mem_cons, List.not_mem_nil, false_implies, implies_true, and_true]
    exact ⟨raise_debugEntry s _ hd hb (by decide) (by decide), raise_debugEntry s _ hd hb (by decide) (by decide),
      raise_debugEntry s _ hd hb (by decide) (by decide), raise_debugEntry s _ hd hb (by decide) (by decide),
      raise_debugEntry s _ hd hb (by decide) (by decide)⟩
  · have hn := fun e => raise_nested s e hd
    simp only [List.forall_mem_cons, List.not_mem_nil, false_implies, implies_true, and_true]
    exact ⟨hn _, hn _, hn _, hn _, hn _, hn _, hn _, hn _, hn _, hn _, hn _, hn _, hn _, hn _, hn _, hn _, hn _, hn _,
      hn _⟩
  · refine ⟨_, rfl, entryFrame_enterAt s _ _ _ _, rfl, ?_, rfl⟩
    rw [← nmi_status]
    rfl
  · rw [show s.raise .cacheError = s.takeCacheError from if_neg (by simp [hd])]
    refine ⟨_, rfl, ?_, rfl, ?_⟩
    · rw [view_eq .vector s hz]
      exact entryFrame_cp0 s _ _
    · exact flushGather_dbg s

end Sys2Proof.Machine
/-! ## Coprocessor unusable (R311, R592, R783) -/

namespace Sys2Proof

/-- The coprocessor whose opcode space an opcode and a function field name, `cache` counted to coprocessor 0. -/
def opcodeCop (op fn : BitVec 6) : Option (BitVec 2) :=
  if op = 0x10 ∨ op = 0x2F then some 0
  else if op = 0x11 ∨ op = 0x13 ∨ op = 0x31 ∨ op = 0x35 ∨ op = 0x39 ∨ op = 0x3D ∨ (op = 0 ∧ fn = 1) then some 1
  else if op = 0x12 ∨ op = 0x32 ∨ op = 0x36 ∨ op = 0x3A ∨ op = 0x3E then some 2
  else none

theorem opcodeCop_cop1 {op fn : BitVec 6}
    (h : op = 0x11 ∨ op = 0x13 ∨ op = 0x31 ∨ op = 0x35 ∨ op = 0x39 ∨ op = 0x3D ∨ (op = 0 ∧ fn = 1)) :
    opcodeCop op fn = some 1 := by
  rcases h with rfl | rfl | rfl | rfl | rfl | rfl | ⟨rfl, rfl⟩
  all_goals rfl

theorem opcodeCop_cop2 {op : BitVec 6} (fn : BitVec 6)
    (h : op = 0x12 ∨ op = 0x32 ∨ op = 0x36 ∨ op = 0x3A ∨ op = 0x3E) : opcodeCop op fn = some 2 := by
  rcases h with rfl | rfl | rfl | rfl | rfl
  all_goals rfl

/-- Outside SPECIAL the opcode alone counts. -/
theorem opcodeCop_of_ne {op : BitVec 6} (fn : BitVec 6) (h : op ≠ 0) : opcodeCop op fn = opcodeCop op 0 := by
  simp only [opcodeCop, h, false_and]

theorem opcodeCop_packR (op : BitVec 6) (rs rt rd sa : Reg) (fn : BitVec 6) :
    opcodeCop (fieldOp (packR op rs rt rd sa fn)) (fieldFn (packR op rs rt rd sa fn)) = opcodeCop op fn := by
  rw [fieldOp_packR, fieldFn_packR]

theorem opcodeCop_packI {op : BitVec 6} (rs rt : Reg) (imm : BitVec 16) (h : op ≠ 0) :
    opcodeCop (fieldOp (packI op rs rt imm)) (fieldFn (packI op rs rt imm)) = opcodeCop op 0 := by
  rw [fieldOp_packI, opcodeCop_of_ne _ h]

theorem opcodeCop_packJ {op : BitVec 6} (target : BitVec 26) (h : op ≠ 0) :
    opcodeCop (fieldOp (packJ op target)) (fieldFn (packJ op target)) = opcodeCop op 0 := by
  rw [fieldOp_packJ, opcodeCop_of_ne _ h]

theorem opcodeCop_packCode (op : BitVec 6) (code : BitVec 20) (fn : BitVec 6) :
    opcodeCop (fieldOp (packCode op code fn)) (fieldFn (packCode op code fn)) = opcodeCop op fn := by
  rw [fieldOp_packCode, fieldFn_packCode]

theorem opcodeCop_packTrap (op : BitVec 6) (rs rt : Reg) (code : BitVec 10) (fn : BitVec 6) :
    opcodeCop (fieldOp (packTrap op rs rt code fn)) (fieldFn (packTrap op rs rt code fn)) = opcodeCop op fn := by
  rw [fieldOp_packTrap, fieldFn_packTrap]

/-- The coprocessor an instruction needs: the one whose opcode space its word lies in (R311). -/
def Instr.cop : Instr → Option (BitVec 2)
  | .eret | .deret | .tlbr | .tlbwi | .tlbwr | .tlbp | .di _ | .ei _ | .rdpgpr _ _ | .wrpgpr _ _ | .mfc0 _ _ _
    | .mtc0 _ _ _ | .wait | .cache _ _ _ => some 0
  | .mfc1 _ _ | .mtc1 _ _ | .mfhc1 _ _ | .mthc1 _ _ | .cfc1 _ _ | .ctc1 _ _ | .sqrt_s _ _ | .sqrt_d _ _ | .abs_s _ _
    | .abs_d _ _ | .neg_s _ _ | .neg_d _ _ | .mov_s _ _ | .mov_d _ _ | .recip_s _ _ | .recip_d _ _ | .rsqrt_s _ _
    | .rsqrt_d _ _ | .round_w_s _ _ | .round_w_d _ _ | .trunc_w_s _ _ | .trunc_w_d _ _ | .ceil_w_s _ _ | .ceil_w_d _ _
    | .floor_w_s _ _ | .floor_w_d _ _ | .round_l_s _ _ | .round_l_d _ _ | .trunc_l_s _ _ | .trunc_l_d _ _
    | .ceil_l_s _ _ | .ceil_l_d _ _ | .floor_l_s _ _ | .floor_l_d _ _ | .cvt_s_d _ _ | .cvt_s_w _ _ | .cvt_s_l _ _
    | .cvt_d_s _ _ | .cvt_d_w _ _ | .cvt_d_l _ _ | .cvt_w_s _ _ | .cvt_w_d _ _ | .cvt_l_s _ _ | .cvt_l_d _ _
    | .movf _ _ _ | .movt _ _ _ | .c_f_s _ _ _ | .c_un_s _ _ _ | .c_eq_s _ _ _ | .c_ueq_s _ _ _ | .c_olt_s _ _ _
    | .c_ult_s _ _ _ | .c_ole_s _ _ _ | .c_ule_s _ _ _ | .c_sf_s _ _ _ | .c_ngle_s _ _ _ | .c_seq_s _ _ _
    | .c_ngl_s _ _ _ | .c_lt_s _ _ _ | .c_nge_s _ _ _ | .c_le_s _ _ _ | .c_ngt_s _ _ _ | .c_f_d _ _ _ | .c_un_d _ _ _
    | .c_eq_d _ _ _ | .c_ueq_d _ _ _ | .c_olt_d _ _ _ | .c_ult_d _ _ _ | .c_ole_d _ _ _ | .c_ule_d _ _ _
    | .c_sf_d _ _ _ | .c_ngle_d _ _ _ | .c_seq_d _ _ _ | .c_ngl_d _ _ _ | .c_lt_d _ _ _ | .c_nge_d _ _ _
    | .c_le_d _ _ _ | .c_ngt_d _ _ _ | .movf_s _ _ _ | .movt_s _ _ _ | .movf_d _ _ _ | .movt_d _ _ _ | .lwxc1 _ _ _
    | .ldxc1 _ _ _ | .luxc1 _ _ _ | .swxc1 _ _ _ | .sdxc1 _ _ _ | .suxc1 _ _ _ | .prefx _ _ _ | .add_s _ _ _
    | .add_d _ _ _ | .sub_s _ _ _ | .sub_d _ _ _ | .mul_s _ _ _ | .mul_d _ _ _ | .div_s _ _ _ | .div_d _ _ _
    | .movz_s _ _ _ | .movz_d _ _ _ | .movn_s _ _ _ | .movn_d _ _ _ | .bc1f _ _ | .bc1t _ _ | .bc1fl _ _ | .bc1tl _ _
    | .madd_s _ _ _ _ | .madd_d _ _ _ _ | .msub_s _ _ _ _ | .msub_d _ _ _ _ | .nmadd_s _ _ _ _ | .nmadd_d _ _ _ _
    | .nmsub_s _ _ _ _ | .nmsub_d _ _ _ _ | .lwc1 _ _ _ | .ldc1 _ _ _ | .swc1 _ _ _ | .sdc1 _ _ _ => some 1
  | .cfc2 _ _ | .ctc2 _ _ | .bc2f _ _ | .bc2t _ _ | .bc2fl _ _ | .bc2tl _ _ | .mfc2 _ _ | .mtc2 _ _ | .mfhc2 _ _
    | .mthc2 _ _ | .cop2 _ | .lwc2 _ _ _ | .swc2 _ _ _ | .ldc2 _ _ _ | .sdc2 _ _ _ => some 2
  | _ => none

theorem opcodeCop_encode (i : Instr) : opcodeCop (fieldOp (encode i)) (fieldFn (encode i)) = i.cop := by
  cases i
  case bc1f | bc1t | bc1fl | bc1tl | bc2f | bc2t | bc2fl | bc2tl | lui | blez | bgtz | bltz | bgez | bltzal | bgezal
      | blezl | bgtzl | bltzl | bgezl | bltzall | bgezall | synci | tgei | tgeiu | tlti | tltiu | teqi | tnei | mfc2
      | mtc2 | mfhc2 | mthc2 | addi | addiu | andi | ori | xori | slti | sltiu | beq | bne | beql | bnel | lb | lbu
      | lh | lhu | lw | lwl | lwr | sb | sh | sw | swl | swr | ll | sc | pref | cache | lwc1 | ldc1 | swc1 | sdc1
      | lwc2 | swc2 | ldc2 | sdc2 =>
    refine opcodeCop_packI _ _ _ ?_
    decide
  case cop2 | j | jal | jalx =>
    refine opcodeCop_packJ _ ?_
    decide
  case syscall | break_ | sdbbp | udi =>
    exact opcodeCop_packCode _ _ _
  case tge | tgeu | tlt | tltu | teq | tne =>
    exact opcodeCop_packTrap _ _ _ _ _
  all_goals exact opcodeCop_packR _ _ _ _ _ _

end Sys2Proof

namespace Sys2Proof.Machine

/-- Every instruction that needs a coprocessor asks for it before anything else (R592, R783). -/
theorem exec_of_not_copUsable (i : Instr) (s : State) (n : BitVec 2) (hc : i.cop = some n) (hu : s.copUsable n = false) :
    exec i s = s.raise (.cpu n) := by
  have hif : ∀ {b : Bool} {k e : Out}, b = false → (if b then k else e) = e := fun h => if_neg (by simp [h])
  have hnot : ∀ {b : Bool} {k e : Out}, b = false → (if !b then e else k) = e := fun h => if_pos (by simp [h])
  cases i
  case cache | movf | movt => cases hc; exact hnot hu
  case eret | deret | tlbr | tlbwi | tlbwr | tlbp | di | ei | rdpgpr | wrpgpr | mfc0 | mtc0 | wait =>
    cases hc; exact hif hu
  case mfc1 | mtc1 | mfhc1 | mthc1 | cfc1 | ctc1 | sqrt_s | sqrt_d | abs_s | abs_d | neg_s | neg_d | mov_s | mov_d
      | recip_s | recip_d | rsqrt_s | rsqrt_d | round_w_s | round_w_d | trunc_w_s | trunc_w_d | ceil_w_s | ceil_w_d
      | floor_w_s | floor_w_d | round_l_s | round_l_d | trunc_l_s | trunc_l_d | ceil_l_s | ceil_l_d | floor_l_s
      | floor_l_d | cvt_s_d | cvt_s_w | cvt_s_l | cvt_d_s | cvt_d_w | cvt_d_l | cvt_w_s | cvt_w_d | cvt_l_s | cvt_l_d
      | c_f_s | c_un_s | c_eq_s | c_ueq_s | c_olt_s | c_ult_s | c_ole_s | c_ule_s | c_sf_s | c_ngle_s | c_seq_s
      | c_ngl_s | c_lt_s | c_nge_s | c_le_s | c_ngt_s | c_f_d | c_un_d | c_eq_d | c_ueq_d | c_olt_d | c_ult_d
      | c_ole_d | c_ule_d | c_sf_d | c_ngle_d | c_seq_d | c_ngl_d | c_lt_d | c_nge_d | c_le_d | c_ngt_d | movf_s
      | movt_s | movf_d | movt_d | lwxc1 | ldxc1 | luxc1 | swxc1 | sdxc1 | suxc1 | prefx | add_s | add_d | sub_s
      | sub_d | mul_s | mul_d | div_s | div_d | movz_s | movz_d | movn_s | movn_d | bc1f | bc1t | bc1fl | bc1tl
      | madd_s | madd_d | msub_s | msub_d | nmadd_s | nmadd_d | nmsub_s | nmsub_d | lwc1 | ldc1 | swc1 | sdc1 =>
    cases hc; exact hif hu
  case cfc2 | ctc2 | bc2f | bc2t | bc2fl | bc2tl | mfc2 | mtc2 | mfhc2 | mthc2 | cop2 | lwc2 | swc2 | ldc2 | sdc2 =>
    cases hc; exact hif hu
  all_goals cases hc

/-- Settles O31: the opcode of each instruction tells the coprocessor it needs. -/
theorem coprocessorUnusable : Obligations.CoprocessorUnusable := by
  intro rs rt rd sel cc off func s
  have h0 : s.cp0Usable = false → ∀ i : Instr, i.cop = some 0 → exec i s = s.raise (.cpu 0) :=
    fun hu i hc => exec_of_not_copUsable i s 0 hc hu
  have h1 : s.cp1Usable = false → ∀ i : Instr, i.cop = some 1 → exec i s = s.raise (.cpu 1) :=
    fun hu i hc => exec_of_not_copUsable i s 1 hc hu
  have h2 : s.cp2Usable = false → ∀ i : Instr, i.cop = some 2 → exec i s = s.raise (.cpu 2) :=
    fun hu i hc => exec_of_not_copUsable i s 2 hc hu
  refine ⟨fun hu => ?_, fun hu => ?_, fun hu => ?_, fun i => ?_⟩
  · simp only [List.forall_mem_cons, List.not_mem_nil, false_implies, implies_true, and_true]
    refine ⟨?_, ?_, ?_, ?_, ?_, ?_, ?_, ?_, ?_, ?_, ?_, ?_, ?_, ?_⟩
    all_goals exact h0 hu _ rfl
  · simp only [List.forall_mem_cons, List.not_mem_nil, false_implies, implies_true, and_true]
    refine ⟨?_, ?_, ?_, ?_, ?_, ?_, ?_, ?_, ?_, ?_, ?_, ?_, ?_, ?_, ?_, ?_, ?_, ?_, ?_, ?_, ?_, ?_, ?_, ?_, ?_, ?_, ?_, ?_,
      ?_, ?_, ?_⟩
    all_goals exact h1 hu _ rfl
  · simp only [List.forall_mem_cons, List.not_mem_nil, false_implies, implies_true, and_true]
    refine ⟨?_, ?_, ?_, ?_, ?_, ?_, ?_, ?_, ?_, ?_, ?_, ?_, ?_, ?_, ?_⟩
    all_goals exact h2 hu _ rfl
  · have hcop := opcodeCop_encode i
    exact ⟨fun ho hu => h0 hu i (hcop.symm.trans (if_pos ho)),
      fun ho hu => h1 hu i (hcop.symm.trans (opcodeCop_cop1 ho)),
      fun ho hu => h2 hu i (hcop.symm.trans (opcodeCop_cop2 _ ho))⟩

end Sys2Proof.Machine
/-! ## System instructions, coprocessor 2, CorExtend and words that are no instruction -/

namespace Sys2Proof.Machine

/-- Settles O6: each of these instructions tests its operands before anything else. -/
theorem unpredictableOperandsRefused : Obligations.UnpredictableOperandsRefused := by
  intro i s h
  cases i
  case jalr rs rd | jalr_hb rs rd => exact if_pos (eq_of_beq h)
  case bltzal rs imm | bgezal rs imm | bltzall rs imm | bgezall rs imm => exact if_pos (eq_of_beq h)
  case ext rs rt msb lsb => exact if_pos (of_decide_eq_true h)
  case ins rs rt msb lsb => exact if_pos (of_decide_eq_true h)
  case clz rs rt rd | clo rs rt rd => exact if_pos (bne_iff_ne.1 h)
  all_goals cases h

/-- Settles O32: the nine words, decoded. -/
theorem decodeSampleWords : Obligations.DecodeSampleWords := by
  unfold Obligations.DecodeSampleWords
  decide

/-- Settles O36: the state after reset, evaluated. -/
theorem invariantsAtReset : Obligations.InvariantsAtReset := by
  unfold Obligations.InvariantsAtReset
  decide

/-! ### Traps -/

/-- A conditional trap: raised where its condition holds, and nothing done where it does not (R563). -/
theorem trapIf_spec (s : State) {c : Bool} {P : Prop} (h : c = true ↔ P) :
    (P → s.trapIf c = s.raise .tr) ∧ (¬P → s.canAdvance → ∃ t, s.trapIf c = .next t ∧ NoResult s t) := by
  refine ⟨fun hp => if_pos (h.2 hp), fun hp ha => ?_⟩
  rw [show s.trapIf c = s.advance from if_neg fun hc => hp (h.1 hc)]
  exact advance_noResult s ha

theorem slt_iff_toInt (x y : Word) : x.slt y = true ↔ x.toInt < y.toInt := decide_eq_true_iff

theorem not_slt_iff_toInt (x y : Word) : (!x.slt y) = true ↔ x.toInt ≥ y.toInt := by
  rw [Bool.not_eq_true', ← Bool.not_eq_true, slt_iff_toInt, not_lt]

theorem ult_iff_toNat (x y : Word) : x.ult y = true ↔ x.toNat < y.toNat := decide_eq_true_iff

theorem not_ult_iff_toNat (x y : Word) : (!x.ult y) = true ↔ x.toNat ≥ y.toNat := by
  rw [Bool.not_eq_true', ← Bool.not_eq_true, ult_iff_toNat, not_lt]

/-- Settles O43. -/
theorem systemCallsAndTraps : Obligations.SystemCallsAndTraps := by
  intro rs rt imm code c s
  exact ⟨rfl, rfl, trapIf_spec s (not_slt_iff_toInt _ _), trapIf_spec s (not_ult_iff_toNat _ _),
    trapIf_spec s (slt_iff_toInt _ _), trapIf_spec s (ult_iff_toNat _ _), trapIf_spec s decide_eq_true_iff,
    trapIf_spec s decide_eq_true_iff, trapIf_spec s (not_slt_iff_toInt _ _), trapIf_spec s (not_ult_iff_toNat _ _),
    trapIf_spec s (slt_iff_toInt _ _), trapIf_spec s (ult_iff_toNat _ _), trapIf_spec s decide_eq_true_iff,
    trapIf_spec s decide_eq_true_iff⟩

/-! ### Words that are no instruction -/

theorem runWord_undecoded (s : State) (w : Word) (h : ∀ i, decode w ≠ .ok i) : s.runWord w = s.undecoded w := by
  unfold State.runWord
  cases hd : decode w with
  | ok i => exact absurd hd (h i)
  | error e => rfl

/-- The opcode spaces, read the other way (R311). -/
theorem copSpace_some {w : Word} {n : BitVec 2} (h : copSpace w = some n) :
    (n = 0 ∧ fieldOp w = 0x10) ∨
    (n = 1 ∧ (fieldOp w = 0x11 ∨ fieldOp w = 0x13 ∨ fieldOp w = 0x31 ∨ fieldOp w = 0x35 ∨ fieldOp w = 0x39 ∨
      fieldOp w = 0x3D ∨ (fieldOp w = 0 ∧ fieldFn w = 1))) ∨
    (n = 2 ∧ (fieldOp w = 0x12 ∨ fieldOp w = 0x32 ∨ fieldOp w = 0x36 ∨ fieldOp w = 0x3A ∨ fieldOp w = 0x3E)) := by
  unfold copSpace at h
  split at h
  case h_8 hop =>
    split at h
    · next hfn => cases h; simp [hop, hfn]
    · cases h
  case h_14 => cases h
  all_goals next hop => cases h; simp [hop]

theorem copSpace_cop0 {w : Word} (h : fieldOp w = 0x10) : copSpace w = some 0 := by
  unfold copSpace
  rw [h]
  rfl

theorem copSpace_cop1 {w : Word} (h : fieldOp w = 0x11 ∨ fieldOp w = 0x13 ∨ fieldOp w = 0x31 ∨ fieldOp w = 0x35 ∨
    fieldOp w = 0x39 ∨ fieldOp w = 0x3D ∨ (fieldOp w = 0 ∧ fieldFn w = 1)) : copSpace w = some 1 := by
  unfold copSpace
  rcases h with h | h | h | h | h | h | ⟨h, hf⟩
  case inr.inr.inr.inr.inr.inr =>
    rw [h]
    exact if_pos hf
  all_goals rw [h]; rfl

theorem copSpace_cop2 {w : Word} (h : fieldOp w = 0x12 ∨ fieldOp w = 0x32 ∨ fieldOp w = 0x36 ∨ fieldOp w = 0x3A ∨
    fieldOp w = 0x3E) : copSpace w = some 2 := by
  unfold copSpace
  rcases h with h | h | h | h | h
  all_goals rw [h]; rfl

theorem undecoded_unusable {s : State} {w : Word} {n : BitVec 2} (h : copSpace w = some n)
    (hu : s.copUsable n = false) : s.undecoded w = s.raise (.cpu n) := by
  unfold State.undecoded
  rw [h]
  exact if_neg (by simp [hu])

theorem undecoded_usable {s : State} {w : Word} (h : ∀ n, copSpace w = some n → s.copUsable n = true) :
    s.undecoded w = s.raise .ri := by
  unfold State.undecoded
  cases hc : copSpace w with
  | none => rfl
  | some n => exact if_pos (h n hc)

/-- Settles O41: by the opcode space of the word. -/
theorem undecodedWordsTrap : Obligations.UndecodedWordsTrap := by
  intro s w hw op cop0 cop1 cop2
  rw [runWord_undecoded s w hw]
  refine ⟨fun h hu => undecoded_unusable (copSpace_cop0 h) hu, fun h hu => undecoded_unusable (copSpace_cop1 h) hu,
    fun h hu => undecoded_unusable (copSpace_cop2 h) hu, fun h0 h1 h2 => undecoded_usable fun n hn => ?_⟩
  rcases copSpace_some hn with ⟨rfl, h⟩ | ⟨rfl, h⟩ | ⟨rfl, h⟩
  · exact h0 h
  · exact h1 h
  · exact h2 h

/-! ### Coprocessor 2 (R740 to R752) -/

theorem cop2Instr_usable {s : State} (h : s.cp2Usable = true) (k : Out) : s.cop2Instr k = k := if_pos h

/-- Settles O29: each move and operation is the interface's answer, put where it belongs. -/
theorem cop2Moves : Obligations.Cop2Moves := by
  intro rt rd impl func s ha hu c x writes
  have hin : ∀ k, s.cop2Instr k = k := cop2Instr_usable hu
  have hw : ∀ n : Nat, ∃ t, State.advance { s with cp2State := n } = .next t ∧ NoResult { s with cp2State := n } t :=
    fun n => advance_noResult { s with cp2State := n } ha
  have hlow : (Config.cp2Read c impl).setWidth 32 = (Config.cp2Read c impl).extractLsb' 0 32 :=
    BitVec.setWidth_eq_extractLsb' (by omega)
  have hop : exec (.cop2 func) s = match Config.cp2Op c func with
      | some n => State.advance { s with cp2State := n }
      | none => s.raise .c2e := hin _
  refine ⟨?_, ?_, ?_, ?_, ?_, ?_, ?_, fun hd hz ho => ?_⟩
  · rw [show exec (.mfc2 rt impl) s = s.put rt ((Config.cp2Read c impl).setWidth 32) from hin _, hlow]
    exact put_gprResult s rt _ ha
  · rw [show exec (.mfhc2 rt impl) s = s.put rt ((Config.cp2Read c impl).extractLsb' 32 32) from hin _]
    exact put_gprResult s rt _ ha
  · rw [show exec (.cfc2 rt rd) s = s.put rt (Config.cp2ReadCtl c rd) from hin _]
    exact put_gprResult s rt _ ha
  · obtain ⟨t, ht, hn⟩ := hw (Config.cp2Write c impl x)
    exact ⟨t, (hin _).trans ht, hn⟩
  · obtain ⟨t, ht, hn⟩ := hw (Config.cp2WriteHi c impl x)
    exact ⟨t, (hin _).trans ht, hn⟩
  · obtain ⟨t, ht, hn⟩ := hw (Config.cp2WriteCtl c rd x)
    exact ⟨t, (hin _).trans ht, hn⟩
  · cases hc : Config.cp2Op c func with
    | some n =>
      rw [hc] at hop
      obtain ⟨t, ht, hn⟩ := hw n
      exact ⟨t, hop.trans ht, hn⟩
    | none =>
      rw [hc] at hop
      exact hop
  · cases hc : Config.cp2Op c func with
    | some n =>
      rw [hc] at hop
      obtain ⟨t, ht, _⟩ := hw n
      exact ⟨t, hop.trans ht, nofun⟩
    | none =>
      rw [hc] at hop
      obtain ⟨t, ht, hg⟩ := raise_entry_noAddress s .c2e hd hz ho rfl rfl
      exact ⟨t, hop.trans ht, fun _ => hg⟩

/-! ### CorExtend (R760, R761) -/

theorem udi_fields (rs rt rd r4 : Reg) : (rs ++ rt ++ rd ++ r4).extractLsb' 15 5 = rs ∧
    (rs ++ rt ++ rd ++ r4).extractLsb' 10 5 = rt ∧ (rs ++ rt ++ rd ++ r4).extractLsb' 5 5 = rd := by
  refine ⟨?_, ?_, ?_⟩
  · rw [BitVec.extractLsb'_append_eq_of_le (by omega), BitVec.extractLsb'_append_eq_of_le (by omega),
      BitVec.extractLsb'_append_eq_of_le (by omega), BitVec.extractLsb'_eq_self]
  · rw [BitVec.extractLsb'_append_eq_of_le (by omega), BitVec.extractLsb'_append_eq_of_le (by omega),
      BitVec.extractLsb'_append_eq_of_add_le (by omega), BitVec.extractLsb'_eq_self]
  · rw [BitVec.extractLsb'_append_eq_of_le (by omega), BitVec.extractLsb'_append_eq_of_add_le (by omega),
      BitVec.extractLsb'_eq_self]

/-- A CorExtend word is the opcode, the four register fields and the function. -/
theorem udi_word (rs rt rd r4 : Reg) (fn : BitVec 4) :
    (0b011100#6 ++ (rs ++ rt ++ rd ++ r4) ++ 0b01#2 ++ fn : Word) =
      0b011100#6 ++ rs ++ rt ++ rd ++ r4 ++ 0b01#2 ++ fn := by
  apply BitVec.eq_of_toNat_eq
  simp only [BitVec.toNat_append, Nat.shiftLeft_or_distrib, Nat.or_assoc, ← Nat.shiftLeft_add]

theorem udi_encode (rs rt rd r4 : Reg) (fn : BitVec 4) :
    encode (.udi (rs ++ rt ++ rd ++ r4) fn) = 0b011100#6 ++ rs ++ rt ++ rd ++ r4 ++ 0b01#2 ++ fn := by
  change packCode 0b011100#6 (rs ++ rt ++ rd ++ r4) (0b01#2 ++ fn) = _
  apply BitVec.eq_of_toNat_eq
  simp only [packCode, BitVec.toNat_append, Nat.shiftLeft_or_distrib, Nat.or_assoc, ← Nat.shiftLeft_add]

/-- What a CorExtend word does where the block is fitted and enabled. -/
theorem exec_udi (rs rt rd r4 : Reg) (fn : BitVec 4) (s : State) (hc : s.cfg.hasCorExtend = true)
    (he : (s.cfg.corExtendNeedsCEE && !(s.view .copUse).cee) = false) :
    exec (.udi (rs ++ rt ++ rd ++ r4) fn) s =
      match Config.udi (0b011100#6 ++ rs ++ rt ++ rd ++ r4 ++ 0b01#2 ++ fn) (s.readGpr rs) (s.readGpr rt) s.udiState with
      | none => s.raise .is1
      | some (st, none) => State.advance { s with udiState := st }
      | some (st, some v) => State.put { s with udiState := st } rd v := by
  obtain ⟨h1, h2, h3⟩ := udi_fields rs rt rd r4
  show execUdi _ _ s = _
  unfold execUdi
  rw [hc, he, h1, h2, h3, udi_word]
  rfl

/-- Settles O30: without the block and without its enable the word is refused; else the block answers. -/
theorem corExtendResults : Obligations.CorExtendResults := by
  intro rs rt rd r4 fn s i word answer
  refine ⟨udi_encode rs rt rd r4 fn, fun hn => if_pos (by simp [hn]), fun hc hz => ⟨fun hneed hcee => ?_, fun he => ?_⟩⟩
  · have hview : (s.view .copUse).cee = false := by rwa [view_eq .copUse s hz]
    show execUdi _ _ s = _
    unfold execUdi
    rw [hc, hneed, hview]
    rfl
  · have hview : (s.cfg.corExtendNeedsCEE && !(s.view .copUse).cee) = false := by
      rw [view_eq .copUse s hz]
      rcases he with h | h
      · rw [h, Bool.false_and]
      · rw [h, Bool.not_true, Bool.and_false]
    have hx := exec_udi rs rt rd r4 fn s hc hview
    have hres : ∀ n : Nat, s.canAdvance →
        ∃ t, State.advance { s with udiState := n } = .next t ∧ NoResult { s with udiState := n } t :=
      fun n ha => advance_noResult { s with udiState := n } ha
    have hput : ∀ (n : Nat) (v : Word), s.canAdvance →
        ∃ t, State.put { s with udiState := n } rd v = .next t ∧ GprResult { s with udiState := n } t rd v :=
      fun n v ha => put_gprResult { s with udiState := n } rd v ha
    cases hans : Config.udi (0b011100#6 ++ rs ++ rt ++ rd ++ r4 ++ 0b01#2 ++ fn) (s.readGpr rs) (s.readGpr rt) s.udiState with
    | none =>
      rw [hans] at hx
      have ha : answer = none := hans
      refine ⟨?_, fun _ hd ho => ?_⟩
      · rw [ha]
        exact hx
      · obtain ⟨t, ht, hg⟩ := raise_entry_noAddress s .is1 hd hz ho rfl rfl
        exact ⟨t, hx.trans ht, fun _ => hg⟩
    | some p =>
      obtain ⟨n, r⟩ := p
      rw [hans] at hx
      have ha : answer = some (n, r) := hans
      rw [ha]
      cases r with
      | none =>
        refine ⟨fun hadv => ?_, fun hadv _ _ => ?_⟩
        · obtain ⟨t, ht, hr⟩ := hres n hadv
          exact ⟨t, hx.trans ht, hr⟩
        · obtain ⟨t, ht, _⟩ := hres n hadv
          exact ⟨t, hx.trans ht, nofun⟩
      | some v =>
        refine ⟨fun hadv => ?_, fun hadv _ _ => ?_⟩
        · obtain ⟨t, ht, hr⟩ := hput n v hadv
          exact ⟨t, hx.trans ht, hr⟩
        · obtain ⟨t, ht, _⟩ := hput n v hadv
          exact ⟨t, hx.trans ht, nofun⟩

/-! ### Returns (R575, R576) -/

theorem returnTo_even (s : State) (w : Word) (h : w.getLsbD 0 = false) :
    s.returnTo w = .next { s with pc := w, npc := w + 4, slot := .none, hazards := [] } :=
  if_neg (by rw [h]; exact Bool.false_ne_true)

theorem returnTo_odd (s : State) (w : Word) (h : w.getLsbD 0 = true) : s.returnTo w = .refused .mips16 := if_pos h

theorem returnTo_hazards {s t : State} {w : Word} (h : s.returnTo w = .next t) : t.hazards = [] := by
  unfold State.returnTo at h
  split at h
  · cases h
  · cases h; rfl

/-- Every exception entry leaves no hazard pending (R970). -/
theorem raise_hazards {s t : State} {e : Exc} (h : s.raise e = .next t) : t.hazards = [] := by
  have hgen : ∀ e, s.takeGeneral e = .next t → t.hazards = [] := by
    intro e h
    unfold State.takeGeneral at h
    split at h
    · cases h
    · split at h
      · split at h
        · cases h
        · cases h; rfl
      · cases h; rfl
  unfold State.raise at h
  split at h
  · cases h; rfl
  · cases e
    case debug | sdbbp | cacheError => cases h; rfl
    all_goals exact hgen _ h

theorem doEret_hazards {s t : State} (h : s.doEret = .next t) : t.hazards = [] := by
  unfold State.doEret at h
  dsimp only at h
  split at h
  · exact returnTo_hazards h
  · split at h
    · cases h
    · exact returnTo_hazards h

theorem privileged_usable {s : State} (h : s.cp0Usable = true) (k : Out) : s.privileged k = k := if_pos h

/-- An instruction of coprocessor 0 outside a delay slot. -/
theorem privileged_noSlot {s : State} (h : s.cp0Usable = true) (hs : s.slot = .none) (k e : Out) :
    s.privileged (if s.inDelaySlot then e else k) = k := by
  rw [privileged_usable h]
  exact if_neg (by simp [State.inDelaySlot, hs])

theorem exec_eret_hazards {s t : State} (h : exec .eret s = .next t) : t.hazards = [] := by
  change s.privileged _ = _ at h
  unfold State.privileged at h
  split at h
  · split at h
    · cases h
    · exact doEret_hazards h
  · exact raise_hazards h

theorem exec_deret_hazards {s t : State} (h : exec .deret s = .next t) : t.hazards = [] := by
  change s.privileged _ = _ at h
  unfold State.privileged at h
  split at h
  · split at h
    · exact raise_hazards h
    · split at h
      · cases h
      · exact returnTo_hazards h
  · exact raise_hazards h

/-- `CSS` after the return of an exception level (R575): `PSS` where there are shadow sets. -/
theorem eret_css (s : State) (p : Prop) [Decidable p] :
    let w : Word := if p then merge s.cp0.srsCtl (s.pss.setWidth 32) 0x0000000F else s.cp0.srsCtl
    w &&& 0xFFFFFFF0 = s.cp0.srsCtl &&& 0xFFFFFFF0 ∧ w.extractLsb' 0 4 = if p then s.pss else s.css := by
  dsimp only
  split
  · refine ⟨merge_and_out _ _ (by decide), ?_⟩
    rw [extract_merge_in _ _ _ 0 4 (by decide), ← BitVec.setWidth_eq_extractLsb' (by omega),
      BitVec.setWidth_setWidth_of_le _ (by omega), BitVec.setWidth_eq]
  · exact ⟨rfl, rfl⟩

/-- Settles O48: by the state each return is made in. -/
theorem returns : Obligations.Returns := by
  refine ⟨fun s hu hs hz => ?_, fun s t h => h.elim exec_eret_hazards exec_deret_hazards⟩
  have hin : exec .eret s = s.doEret := privileged_noSlot hu hs _ _
  refine ⟨fun herl => ?_, fun herl hok => ?_, fun hd => ?_, fun hd => ?_⟩
  · have hret : exec .eret s = State.returnTo
        { s with llBit := false, dbeHeld := false, cp0 := { s.cp0 with status := s.cp0.status &&& 0xFFFFFFFB } }
        s.cp0.errorEPC := by
      rw [hin]
      unfold State.doEret
      rw [view_eq .eret s hz]
      exact if_pos herl
    refine ⟨fun he => ?_, fun ho => hret.trans (returnTo_odd _ _ ho)⟩
    refine ⟨_, hret.trans (returnTo_even _ _ he), ⟨rfl, rfl, ?_⟩, rfl⟩
    rw [← hs, ← hz]
  · have hret : exec .eret s = State.returnTo
        { s with
          llBit := false
          dbeHeld := false
          cp0 := { s.cp0 with
            status := s.cp0.status &&& 0xFFFFFFFD
            srsCtl :=
              if s.cfg.numShadowSets > 1 && !s.bev then merge s.cp0.srsCtl (s.pss.setWidth 32) 0x0000000F
              else s.cp0.srsCtl } } s.cp0.epc := by
      rw [hin]
      unfold State.doEret
      rw [view_eq .eret s hz]
      exact (if_neg (by simp [herl])).trans (if_neg (setOk_not_refused s s.pss hok))
    obtain ⟨hkept, hcss⟩ := eret_css s ((s.cfg.numShadowSets > 1 && !s.bev) = true)
    refine ⟨fun he => ?_, fun ho => hret.trans (returnTo_odd _ _ ho)⟩
    refine ⟨_, hret.trans (returnTo_even _ _ he), ⟨rfl, rfl, ?_⟩, rfl, hkept, hcss.trans ?_⟩
    · rw [← hs, ← hz]
    · simp only [Bool.and_eq_true, decide_eq_true_eq, Bool.not_eq_true']
  · exact (privileged_usable hu _).trans (if_pos (by simp [hd]))
  · have hret : exec .deret s = State.returnTo
        { s with
          dbeHeld := false
          cp0 := { s.cp0 with debug := s.cp0.debug &&& 0xBFEFFFFF }
          dbg := { s.dbg with stepCount := 0 } } s.cp0.depc := by
      refine (privileged_usable hu _).trans ((if_neg (by simp [hd])).trans ((if_neg ?_).trans ?_))
      · simp [State.inDelaySlot, hs]
      · unfold State.doDeret
        rw [view_eq .eret s hz]
    refine ⟨fun he => ?_, fun ho => hret.trans (returnTo_odd _ _ ho)⟩
    refine ⟨_, hret.trans (returnTo_even _ _ he), rfl, rfl, ?_⟩
    rw [← hs, ← hz]

/-! ### The previous register set and the hardware registers (R582 to R584) -/

theorem prevSet_eq (s : State) (hz : s.hazards = []) :
    s.prevSet = if s.cfg.numShadowSets ≤ 1 then 0 else s.pss := by
  unfold State.prevSet
  rw [view_eq .shadow s hz]

theorem prevSetOk_iff (s : State) (hz : s.hazards = []) :
    s.prevSetOk = true ↔ s.cfg.numShadowSets ≤ 1 ∨ s.pss.toNat < s.cfg.numShadowSets := by
  unfold State.prevSetOk
  rw [prevSet_eq s hz, Bool.or_eq_true, decide_eq_true_iff, decide_eq_true_iff]
  by_cases h : s.cfg.numShadowSets ≤ 1
  · simp [h]
  · simp [h]

/-- A write of one register of any set, and on. -/
theorem advance_writeSet (s : State) (set : BitVec 4) (r : Reg) (v : Word) (ha : s.canAdvance = true) :
    ∃ t, (s.writeSet set r v).advance = .next t ∧ t.readSet set r = (if r = 0 then 0 else v) ∧
      (∀ (set' : BitVec 4) (q : Reg), ¬(set' = set ∧ q = r) → t.readSet set' q = s.readSet set' q) ∧
      MemoryKept s t ∧ OnlyGprChanged s t ∧ Moved s t := by
  have hc : (s.writeSet set r v).canAdvance = true := by
    simpa [State.canAdvance] using ha
  refine ⟨_, advance_eq _ hc, ?_, ?_, ?_, ?_, ?_⟩
  · show (s.writeSet set r v).readSet set r = _
    rw [readSet_writeSet]
    by_cases hr : r = 0
    · rw [if_pos hr, if_pos hr]
    · rw [if_neg hr, if_neg hr, if_pos ⟨rfl, rfl⟩]
  · intro set' q hq
    show (s.writeSet set r v).readSet set' q = _
    rw [readSet_writeSet]
    by_cases h0 : q = 0
    · simp [h0]
    · rw [if_neg h0, if_neg hq]
  · intro a; simp
  · simp [OnlyGprChanged]
  · exact ⟨by simp, by simp, rfl, by simp [State.hazardsAfter]⟩

theorem exec_rdhwr_allowed (rt rd : Reg) (s : State) (hz : s.hazards = []) (hr : rd.toNat ≤ 3)
    (h : s.cp0Usable = true ∨ s.cp0.hwrena.getLsbD rd.toNat = true) : exec (.rdhwr rt rd) s = s.put rt (s.hwr rd) := by
  refine (if_neg (by omega)).trans (if_neg ?_)
  rw [view_eq .rdhwr s hz, Bool.not_eq_true', Bool.or_eq_false_iff, not_and_or, Bool.not_eq_false, Bool.not_eq_false]
  exact h

theorem exec_rdhwr_forbidden (rt rd : Reg) (s : State) (hz : s.hazards = []) (hr : rd.toNat ≤ 3)
    (hu : s.cp0Usable = false) (he : s.cp0.hwrena.getLsbD rd.toNat = false) :
    exec (.rdhwr rt rd) s = s.raise .ri := by
  refine (if_neg (by omega)).trans (if_pos ?_)
  rw [view_eq .rdhwr s hz, hu, he]
  rfl

theorem synciStepOf_eq (cfg : Cfg) : synciStepOf cfg =
    (let i := lineBytes cfg false
     let d := lineBytes cfg true
     if i = 0 ∧ d = 0 then cfg.synciStep
     else BitVec.ofNat 32 (if i = 0 then d else if d = 0 then i else min i d)) := by
  unfold synciStepOf
  simp only [Bool.and_eq_true, decide_eq_true_eq]

/-- Settles O51. -/
theorem shadowAndHardwareMoves : Obligations.ShadowAndHardwareMoves := by
  intro rt rd s ha hz prev
  have hprev : s.prevSet = prev := prevSet_eq s hz
  refine ⟨fun hu => ⟨fun hok => ?_, fun h1 h2 => ?_⟩, ?_⟩
  · have hset := (prevSetOk_iff s hz).2 hok
    constructor
    · rw [← hprev, show exec (.rdpgpr rt rd) s = s.put rd (s.readSet s.prevSet rt) from
        (privileged_usable hu _).trans (if_pos hset)]
      exact put_gprResult s rd _ ha
    · rw [← hprev, show exec (.wrpgpr rt rd) s = (s.writeSet s.prevSet rd (s.readGpr rt)).advance from
        (privileged_usable hu _).trans (if_pos hset)]
      exact advance_writeSet s s.prevSet rd _ ha
  · have hset : ¬ s.prevSetOk = true := by
      rw [prevSetOk_iff s hz]
      omega
    exact ⟨(privileged_usable hu _).trans (if_neg hset), (privileged_usable hu _).trans (if_neg hset)⟩
  · refine ⟨fun v hv => ?_, fun h => if_pos h⟩
    have hval : rd.toNat ≤ 3 ∧ s.hwr rd = v := by
      rcases hv with ⟨rfl, rfl⟩ | ⟨rfl, rfl⟩ | ⟨rfl, rfl⟩ | ⟨rfl, rfl⟩
      · exact ⟨by decide, rfl⟩
      · exact ⟨by decide, synciStepOf_eq s.cfg⟩
      · exact ⟨by decide, rfl⟩
      · exact ⟨by decide, rfl⟩
    refine ⟨fun hen => ?_, fun hu he => exec_rdhwr_forbidden rt rd s hz hval.1 hu he⟩
    rw [exec_rdhwr_allowed rt rd s hz hval.1 hen, hval.2]
    exact put_gprResult s rt v ha

/-! ### No-operations, the barrier and `wait` (R577, R589 to R591) -/

theorem advance_jump (s : State) (hb : Bool) (h : s.slot = .jump hb) :
    s.advance = .next { s with pc := s.npc, npc := s.npc + 4, slot := .none, hazards := s.hazardsAfter } :=
  advance_eq s (by simp [State.canAdvance, h])

theorem hazardsAfter_of_ne (s : State) (h : s.slot ≠ .jump true) : s.hazardsAfter = s.hazards := by
  unfold State.hazardsAfter
  split
  · next hs => exact absurd hs h
  · rfl

theorem hazardsAfter_sub (s : State) : ∀ h ∈ s.hazardsAfter, h ∈ s.hazards := by
  unfold State.hazardsAfter
  split
  · exact nofun
  · exact fun _ hm => hm

theorem wakeRequest_iff (s : State) : s.wakeRequest = true ↔
    if s.cfg.eicPresent then
      s.inputs.eicRIPL ≠ 0 ∨ ((s.bev = true ∨ s.iv = false ∨ s.cp0.intCtl.extractLsb' 5 5 = 0) ∧ s.ip &&& s.im &&& 3 ≠ 0)
    else s.ip &&& s.im ≠ 0 := by
  unfold State.wakeRequest State.compatMode
  cases s.cfg.eicPresent
  · simp only [Bool.false_eq_true, if_false, decide_eq_true_eq]
  · simp only [if_true, Bool.or_eq_true, Bool.and_eq_true, decide_eq_true_eq, Bool.not_eq_true', or_assoc]

/-- Settles O49. -/
theorem nopsBarrierAndWait : Obligations.NopsBarrierAndWait := by
  unfold Obligations.NopsBarrierAndWait
  intro compat requested
  have hreq : ∀ s, s.wakeRequest = true ↔ requested s := wakeRequest_iff
  refine ⟨fun s hb hs => ?_, fun s ha => ⟨advance_noResult s ha, advance_noResult s ha, ?_, fun hu => ?_⟩,
    fun _ => rfl, fun s henv hsl hw => ?_⟩
  · refine ⟨_, advance_jump s hb hs, rfl, rfl, rfl, ?_⟩
    show s.hazardsAfter = _
    unfold State.hazardsAfter
    rw [hs]
    cases hb <;> rfl
  · have hadv : exec .ehb s = .next _ := advance_eq { s with hazards := clearExecHazards s.hazards } ha
    refine ⟨_, hadv, ⟨rfl, rfl, rfl⟩, fun h hm => ?_, fun hs => ?_, rfl⟩
    · have hmem := hazardsAfter_sub _ h hm
      obtain ⟨g, _, rfl⟩ := List.mem_map.1 hmem
      rfl
    · rw [show ({ s with hazards := clearExecHazards s.hazards } : State).hazardsAfter = clearExecHazards s.hazards from
        hazardsAfter_of_ne _ hs]
      unfold clearExecHazards
      rw [List.map_map, List.map_map]
      exact ⟨rfl, rfl⟩
  · have hwait : exec .wait s = State.advance { s with sleeping := !s.wakes } := privileged_usable hu _
    obtain ⟨t, ht, hn⟩ := advance_noResult { s with sleeping := !s.wakes } ha
    have hsl : t.sleeping = !s.wakes := by
      rw [hn.frame]
    refine ⟨t, hwait.trans ht, by rw [hsl]; exact hn, ?_, ?_, ?_, ?_⟩
    all_goals rw [hsl]
    all_goals unfold State.wakes
    · intro hr
      simp [(hreq s).2 hr]
    · intro hn
      simp [hn]
    · intro hd hi
      simp [hd, hi]
    · intro hr hn hd
      have hr' : s.wakeRequest = false := by
        rw [← Bool.not_eq_true, hreq]
        exact hr
      rcases hd with hd | hd
      all_goals simp [hr', hn, hd]
  · have hstep : step s = s.coreStep := by
      unfold step
      rw [henv]
    refine ⟨_, hstep.trans (if_pos ?_), rfl⟩
    rw [show s.beginStep.sleeping = true from hsl, show s.beginStep.wakes = false from hw]
    rfl

end Sys2Proof.Machine
/-! ## Reset (R961, R962) -/

namespace Sys2Proof.Machine

theorem doReset_gpr_zero (s : State) (r : Reg) (h : r = 0) : s.doReset.readGpr r = 0 := by
  subst h
  exact readGpr_zero _

theorem reset_ib (s : State) (i : Fin 4) : (s.doReset.dbg.ib.get i).ctl = 0 := by
  show ((Vector.replicate 4 (⟨0, 0, 0, 0⟩ : IBreak)).get i).ctl = 0
  rw [Vector.get_eq_getElem, Vector.getElem_replicate]

theorem reset_db (s : State) (i : Fin 2) : (s.doReset.dbg.db.get i).ctl = 0 := by
  show ((Vector.replicate 2 (⟨0, 0, 0, 0, 0, 0⟩ : DBreak)).get i).ctl = 0
  rw [Vector.get_eq_getElem, Vector.getElem_replicate]

/-- The EJTAG control register after reset: `Rocc`, and what the boot indication asks (R909). -/
theorem reset_ejtagControl (s : State) :
    s.doReset.dbg.ejtagControl = if s.dbg.bootArmed then 0x8000D000 else 0x80000000 := rfl

/-- Settles O35: field by field, from the reset table's values. -/
theorem resetValues : Obligations.ResetValues := by
  refine ⟨rfl, rfl, fun s => ?_⟩
  intro t
  have hctl : t.dbg.ejtagControl = if s.dbg.bootArmed then 0x8000D000 else 0x80000000 := reset_ejtagControl s
  have statusBits : (0x00400004 : Word) &&& 0x89B800E4 = 0x00000004 ∧ (0x00400004 : Word).getLsbD 22 = true := by decide
  have debugBits : (0x02010000 : Word) &&& 0x73FF833F = 0x02010000 ∧ (0x02010000 : Word).getLsbD 30 = false := by decide
  obtain ⟨inte, nmie, nmip, dcrDefault⟩ : (0x000001D8 : Word).getLsbD 4 = true ∧ (0x000001D8 : Word).getLsbD 3 = true ∧
    (0x000001D8 : Word).getLsbD 2 = false ∧ (0x000001D8 : Word).extractLsb' 6 3 = 7 := by decide
  have watch : ∀ i : Fin 4, ((#v[0, 0, 0, 0] : Vector Word 4).get i).extractLsb' 0 3 = 0 ∧
      ((#v[0x80000000, 0x80000000, 0x80000000, 0] : Vector Word 4).get i).getLsbD 31 = decide (i ≠ 3) := by decide
  have zeroBit : ∀ n, (0 : Word).getLsbD n = false := fun n => BitVec.getLsbD_zero
  have zeroField : ∀ i l, (0 : Word).extractLsb' i l = 0 := fun i l => BitVec.extractLsb'_zero
  have config : (2 : Word).extractLsb' 25 6 = 0 ∧ (2 : Word).extractLsb' 0 3 = 2 := by decide
  refine ⟨rfl, rfl, rfl, rfl, rfl, rfl, rfl, rfl, rfl, rfl, rfl, rfl, rfl, zeroBit 22, statusBits.1, statusBits.2, debugBits.2, rfl,
    rfl, rfl, zeroField 5 5, zeroField 0 4, zeroField 6 4, zeroField 12 4, rfl, zeroBit 27, rfl, config.2, rfl,
    fun _ => config.1, ?_, debugBits.1, zeroBit 31, zeroBit 4, zeroBit 4, zeroField 27 5, ?_, ?_, rfl, rfl, ?_, rfl, rfl, rfl,
    rfl, inte, nmie, nmip, dcrDefault, ?_, ?_, ?_, rfl, doReset_gpr_zero s, fun _ => rfl⟩
  · exact watch
  · intro i
    rw [show (t.dbg.ib.get i).ctl = 0 from reset_ib s i]
    exact ⟨zeroBit 0, zeroBit 2⟩
  · intro i
    rw [show (t.dbg.db.get i).ctl = 0 from reset_db s i]
    exact ⟨zeroBit 0, zeroBit 2⟩
  · rw [hctl]
    cases s.dbg.bootArmed <;> decide
  · unfold State.probEn
    rw [hctl]
    cases s.dbg.bootArmed <;> decide
  · unfold State.probTrap
    rw [hctl]
    cases s.dbg.bootArmed <;> decide
  · unfold State.ejtagBrk
    rw [hctl]
    cases s.dbg.bootArmed <;> decide

end Sys2Proof.Machine
/-! ## A step from a quiet boundary, and the fetch (R10, R237, R820) -/

namespace Sys2Proof.Machine

/-! ### The fetch where no trap is enabled -/

theorem noFetchTraps_iff (s : State) : s.noFetchTraps = true ↔
    (∀ n : Fin 4, (s.dbg.ib.get n).ctl.getLsbD 0 = false) ∧
      (s.cp0.watchLo.get 0).getLsbD 2 = false ∧ (s.cp0.watchLo.get 1).getLsbD 2 = false := by
  simp only [State.noFetchTraps, Bool.and_eq_true, Bool.not_eq_true']
  constructor
  · rintro ⟨⟨⟨⟨⟨h0, h1⟩, h2⟩, h3⟩, w0⟩, w1⟩
    refine ⟨fun n => ?_, w0, w1⟩
    match n with
    | 0 => exact h0
    | 1 => exact h1
    | 2 => exact h2
    | 3 => exact h3
  · rintro ⟨h, w0, w1⟩
    exact ⟨⟨⟨⟨⟨h 0, h 1⟩, h 2⟩, h 3⟩, w0⟩, w1⟩

theorem checkIBreak_plain (s : State) (pc : Word) (hz : s.hazards = []) (h : s.noFetchTraps = true) :
    s.checkIBreak pc = none := by
  obtain ⟨hb, _, _⟩ := (noFetchTraps_iff s).1 h
  have hm : (List.finRange 4).filter (fun n : Fin 4 => (s.matchView .fetch).iMatch n pc) = [] := by
    rw [matchView_eq .fetch s hz, List.filter_eq_nil_iff]
    intro n _
    simp only [State.iMatch, hb n, Bool.and_false, Bool.false_and, Bool.false_eq_true, not_false_eq_true]
  exact if_pos hm

theorem checkWatch_fetch_plain (s : State) (vas : List Word) (hz : s.hazards = []) (h : s.noFetchTraps = true) :
    s.checkWatch .fetch 0 1 2 vas = .ok () s := by
  obtain ⟨_, w0, w1⟩ := (noFetchTraps_iff s).1 h
  simp only [State.checkWatch, matchView_eq .fetch s hz, State.wMatch, w0, w1, Bool.and_false, Bool.false_and,
    Bool.or_false]
  rfl

theorem fetchWord_misaligned (s : State) (pc : Word) (hz : s.hazards = []) (h : s.noFetchTraps = true)
    (ha : pc.toNat % 4 ≠ 0) : s.fetchWord pc = .exc (.addrError false pc) s := by
  unfold State.fetchWord
  rw [checkIBreak_plain s pc hz h, checkWatch_fetch_plain s _ hz h]
  exact if_pos ha

theorem dsegOf_outside (s : State) (k : AccKind) (va : Word) (h : s.outsideDseg va = true) : s.dsegOf k va = none := by
  simp only [State.outsideDseg, Bool.or_eq_true, Bool.not_eq_true'] at h
  rcases h with h | h
  · exact dsegOf_not_debug s k va h
  · simp [State.dsegOf, h]

/-- A fetch that its translation turns away (R236). -/
theorem fetchWord_exc (s u : State) (pc : Word) (e : Exc) (hz : s.hazards = []) (h : s.noFetchTraps = true)
    (ha : pc.toNat % 4 = 0) (hd : s.outsideDseg pc = true) (ht : s.translate .fetch pc = .exc e u) :
    s.fetchWord pc = .exc e u := by
  unfold State.fetchWord
  rw [checkIBreak_plain s pc hz h, checkWatch_fetch_plain s _ hz h]
  refine (if_neg (by simp [ha])).trans ?_
  rw [dsegOf_outside s .fetch pc hd, ht]
  rfl

theorem touches_of_code (m : List Region) (n : Nat) : ∀ a : Nat,
    (∀ j, j < n → regionAt m (a + j) = some .ram ∨ regionAt m (a + j) = some .rom) →
      touchesDevice m a n = false ∧ touchesNothing m a n = false := by
  induction n with
  | zero => exact fun _ _ => ⟨rfl, rfl⟩
  | succ n ih =>
    intro a h
    have hhead := h 0 (by omega)
    rw [Nat.add_zero] at hhead
    obtain ⟨hd, hn⟩ := ih (a + 1) fun j hj => by
      have := h (j + 1) (by omega)
      rwa [show a + 1 + j = a + (j + 1) by omega]
    unfold touchesDevice touchesNothing
    rw [hd, hn]
    rcases hhead with hr | hr
    all_goals
      rw [hr]
      exact ⟨rfl, rfl⟩

theorem plainCode_iff (s : State) (pa : Word) : s.plainCode pa = true ↔ ∀ j, j < 4 →
    (regionAt s.cfg.physMap (pa.toNat + j) = some .ram ∨ regionAt s.cfg.physMap (pa.toNat + j) = some .rom) ∧
      s.ispram.offset s.cfg.hasISPRAM (pa + BitVec.ofNat 32 j) = none ∧
      s.dspram.offset s.cfg.hasDSPRAM (pa + BitVec.ofNat 32 j) = none := by
  simp [State.plainCode, and_assoc]

/-- An uncached fetch of code takes its four bytes and changes nothing. -/
theorem fetchPart_plain (s : State) (va pa : Word) (hp : s.plainCode pa = true) (hf : s.inputs.failFetch = false) :
    s.fetchPart va pa 2 = .ok (some (Memory.readBytes s.mem pa.toNat 4)) s := by
  rw [plainCode_iff] at hp
  obtain ⟨_, hi, hd⟩ := hp 0 (by omega)
  rw [BitVec.add_zero] at hi hd
  obtain ⟨hdev, hnone⟩ := touches_of_code s.cfg.physMap 4 pa.toNat fun j hj => (hp j hj).1
  unfold State.fetchPart
  rw [hi, hd]
  show s.busRead true pa.toNat 4 = _
  unfold State.busRead
  rw [hf, hdev, hnone]
  rfl

/-- A fetch through an uncached translation takes the word there (R237). -/
theorem fetchWord_uncached (s : State) (pc pa : Word) (hz : s.hazards = []) (h : s.noFetchTraps = true)
    (ha : pc.toNat % 4 = 0) (hd : s.outsideDseg pc = true) (ht : s.translate .fetch pc = .ok (pa, 2) s)
    (he : s.pendCacheErr = false) (hf : s.inputs.failFetch = false) (hp : s.plainCode pa = true) :
    s.fetchWord pc = .ok (s.codeWord pa) s := by
  unfold State.fetchWord
  rw [checkIBreak_plain s pc hz h, checkWatch_fetch_plain s _ hz h]
  refine (if_neg (by simp [ha])).trans ?_
  rw [dsegOf_outside s .fetch pc hd, ht]
  show (s.cacheErrorFirst (s.fetchPart pc pa 2)).andThen _ = _
  unfold State.cacheErrorFirst
  rw [he, fetchPart_plain s pc pa hp hf]
  rfl

/-! ### The quiet boundary -/

/-- The state a step begins in: the next draw number (log 9). -/
def State.begun (s : State) : State := { s with freeCtr := s.freeCtr + 1 }

theorem beginStep_eq (s : State) (hz : s.hazards = []) : s.beginStep = s.begun := by
  unfold State.beginStep State.begun
  rw [hz]
  cases s.inputs.hazardsHeld <;> rfl

theorem interruptDue_begun (s : State) (hz : s.hazards = []) : s.begun.interruptDue = s.interruptDue := by
  unfold State.interruptDue
  rw [view_eq .interrupt s hz, view_eq .interrupt s.begun hz]
  rfl

theorem quiet_iff (s : State) : s.quiet = true ↔
    s.env = [] ∧ s.hazards = [] ∧ s.sleeping = false ∧ (s.dm = true ∨ s.sst = false) ∧
    (!s.dm && s.dintPending) = false ∧ s.dbg.pendBreaks = [] ∧ (s.dcrNmip && s.dcrNmie && !s.dm) = false ∧
    s.interruptDue = false ∧ s.watchDue = false ∧ s.pendCacheErr = false ∧ s.pendCacheErrData = false ∧
    s.pendDBE = [] ∧ s.cacheEP = false ∧ s.dbusEP = false := by
  simp only [State.quiet, Bool.and_eq_true, Bool.or_eq_true, Bool.not_eq_true', decide_eq_true_eq, and_assoc]

/-- From a quiet boundary a step is the next instruction and the end of the step. -/
theorem step_quiet (s : State) (h : s.quiet = true) :
    step s = endOut (fun u => s.begun.endStep u (s.begun.nextInstr.map instrInfo)) s.begun.runNext := by
  obtain ⟨henv, hz, hsl, hsst, hdint, hbr, hnmi, hint, hwatch, hce, hced, hdbe, hcep, hdep⟩ := (quiet_iff s).1 h
  have hcore : step s = s.coreStep := by
    unfold step
    rw [henv]
  have hstep : s.begun.singleStepDue = false := by
    unfold State.singleStepDue
    rw [view_eq .fetch s.begun hz]
    rcases hsst with hd | hs
    · simp [show s.begun.dm = true from hd]
    · simp [show s.begun.sst = false from hs]
  have hbreak : s.begun.breakDue = false := by
    unfold State.breakDue
    rw [show s.begun.dbg.pendBreaks = [] from hbr, List.any_nil, Bool.and_false]
  have hbound : s.begun.boundary = .go s.begun := by
    unfold State.boundary
    rw [deferImprecise_idle s.begun hce hced hdbe]
    exact boundaryOf_go s.begun hstep hdint hbreak hnmi hcep hdep ((interruptDue_begun s hz).trans hint) hwatch
  have htick : ({ s.begun.tickDelays with sleeping := false } : State) = s.begun := by
    unfold State.tickDelays
    rw [show s.begun.pendDBE = [] from hdbe, show s.begun.dbg.pendBreaks = [] from hbr, List.map_nil, List.map_nil,
      ← hdbe, ← hbr, ← hsl]
    rfl
  rw [hcore]
  unfold State.coreStep
  rw [beginStep_eq s hz]
  refine (if_neg (by simp [show s.begun.sleeping = false from hsl])).trans ?_
  rw [hbound]
  show endOut _ (State.runLast _ s.begun.dbeDue) = _
  rw [htick, show s.begun.dbeDue = false by simp [State.dbeDue, show s.begun.pendDBE = [] from hdbe],
    runLast_plain s.begun hced]

/-- The word fetched, or the exception the fetch raises (R237). -/
theorem runNext_ok {s t : State} {w : Word} (h : s.fetchWord s.pc = .ok w t) : s.runNext = t.runWord w := by
  unfold State.runNext
  rw [h]

theorem runNext_exc {s t : State} {e : Exc} (h : s.fetchWord s.pc = .exc e t) : s.runNext = t.raise e := by
  unfold State.runNext
  rw [h]

theorem runWord_ok {s : State} {w : Word} {i : Instr} (h : decode w = .ok i) : s.runWord w = exec i s := by
  unfold State.runWord
  rw [h]

theorem nextInstr_ok {s t : State} {w : Word} {i : Instr} (h : s.fetchWord s.pc = .ok w t) (hd : decode w = .ok i) :
    s.nextInstr = some i := by
  unfold State.nextInstr
  simp only [h, hd]

theorem nextInstr_exc {s t : State} {e : Exc} (h : s.fetchWord s.pc = .exc e t) : s.nextInstr = none := by
  unfold State.nextInstr
  simp only [h]

theorem step_quiet_ok (s t : State) (w : Word) (i : Instr) (hq : s.quiet = true)
    (h : s.begun.fetchWord s.begun.pc = .ok w t) (hd : decode w = .ok i) :
    step s = endOut (fun u => s.begun.endStep u (some (instrInfo i))) (exec i t) := by
  rw [step_quiet s hq, runNext_ok h, runWord_ok hd, nextInstr_ok h hd]
  rfl

/-- A fetch through kseg1 that nothing turns away gives the word of memory (R237). -/
theorem fetchWord_plain (s : State) (h : s.plainFetch = true) (he : s.pendCacheErr = false) :
    s.fetchWord s.pc = .ok (s.codeWord (unmapped s.pc)) s := by
  simp only [State.plainFetch, Bool.and_eq_true, Bool.not_eq_true', decide_eq_true_eq] at h
  obtain ⟨⟨⟨⟨⟨⟨hz, hm⟩, hk⟩, ha⟩, ht⟩, hf⟩, hp⟩ := h
  have halign : s.pc.toNat % 4 = 0 := by
    have := congrArg BitVec.toNat ha
    simpa [BitVec.extractLsb'_toNat] using this
  refine fetchWord_uncached s s.pc _ hz ht halign ?_ (translate_kseg1 s .fetch s.pc hz hm hk) he hf hp
  simp [State.outsideDseg, kernel_not_debug s hm]

/-! ### The end of a step -/

/-- The end of a step touches the two counters, the single-step count and an abandoned dmseg transfer only. -/
theorem endStep_eq (s t : State) (info : Option InstrInfo) :
    let waiting : Bool := t.dbg.ejtagControl.getLsbD 18 && t.excCount = s.excCount
    s.endStep t info = { t with
      cp0 := { t.cp0 with
        perfCnt0 := (s.endStep t info).cp0.perfCnt0, perfCnt1 := (s.endStep t info).cp0.perfCnt1 }
      dbg := { t.dbg with
        stepCount := if s.dm = false ∧ t.dm = false then t.dbg.stepCount + 1 else t.dbg.stepCount
        served := if waiting then t.dbg.served else []
        ejtagControl := if waiting then t.dbg.ejtagControl else t.dbg.ejtagControl &&& 0xFFFBFFFF } } := by
  intro waiting
  obtain ⟨a, b, hcount⟩ := countPerf_eq s t info
  have hw : s.waiting { t with cp0 := { t.cp0 with perfCnt0 := a, perfCnt1 := b } } = waiting := rfl
  unfold State.endStep State.settle
  rw [hcount]
  unfold State.closeTransfer
  rw [hw]
  cases waiting <;> cases s.dm <;> cases t.dm <;> rfl

/-- Settles O40. -/
theorem stepRunsDecoded : Obligations.StepRunsDecoded := by
  refine ⟨fun s t w i hq hf hd => step_quiet_ok s t w i hq hf hd, fun s t e hq hf => ?_, fun s i hq hp hd => ?_,
    fun s t info => ⟨rfl, endStep_eq s t info⟩, fun s info f r => ⟨rfl, rfl⟩⟩
  · have hf' : s.begun.fetchWord s.begun.pc = .exc e t := hf
    rw [step_quiet s hq, runNext_exc hf', nextInstr_exc hf']
    rfl
  · have hce : s.pendCacheErr = false := by
      obtain ⟨_, _, _, _, _, _, _, _, _, h, _⟩ := (quiet_iff s).1 hq
      exact h
    exact step_quiet_ok s s.begun _ i hq (fetchWord_plain s.begun hp hce) hd

end Sys2Proof.Machine
/-! ## The TLB instructions (R217, R585 to R588) -/

namespace Sys2Proof.Machine

/-! ### What a consumer that a hazard does not reach sees (R970, R974) -/

/-- A hazard of a result that only a later `mfc0` reads (R974). -/
theorem mask_readBack (c : Consumer) (r : CpReg) (wrote old : Word) (x f : Bool) (h : c ≠ .readReg) :
    (⟨.reg .readBack r wrote old, x, f⟩ : Hazard).mask c = 0 := by
  simp [Hazard.mask, producerMask_readBack c r h]

/-- State `u` is `s` but for CP0 registers that were written and that only a later `mfc0` may see late. -/
structure ReadBack (s u : State) : Prop where
  frame : u = { s with cp0 := u.cp0, hazards := u.hazards }
  unseen : ∀ g ∈ u.hazards, ∀ c : Consumer, c ≠ .readReg → g.mask c = 0

theorem ReadBack.of_nil {s : State} (h : s.hazards = []) : ReadBack s s := by
  refine ⟨rfl, fun g hg => ?_⟩
  rw [h] at hg
  cases hg

theorem ReadBack.setCp {s u : State} (h : ReadBack s u) (r : CpReg) (wrote w : Word) :
    ReadBack s (u.setCp .readBack r wrote w) := by
  refine ⟨?_, fun g hg c hc => ?_⟩
  · unfold State.setCp
    conv_lhs => rw [h.frame]
  · rcases List.mem_cons.1 hg with rfl | hg
    · exact mask_readBack c r wrote _ true true hc
    · exact h.unseen g hg c hc

/-- After the advance every consumer but `mfc0` sees the state itself, and only CP0 and the pc fields have changed. -/
theorem ReadBack.advance {s u : State} (h : ReadBack s u) (ha : s.canAdvance = true) :
    ∃ t, u.advance = .next t ∧ (Went s t ∧ (∀ c : Consumer, c ≠ .readReg → t.view c = t) ∧
      t = { s with cp0 := t.cp0, pc := t.pc, npc := t.npc, slot := t.slot, hazards := t.hazards }) ∧
      t.cp0 = u.cp0 := by
  have hua : u.canAdvance = true := by
    rw [h.frame]
    exact ha
  have hnpc : u.npc = s.npc := by
    rw [h.frame]
  refine ⟨_, advance_eq u hua, ⟨⟨hnpc, congrArg (· + 4) hnpc, rfl⟩, fun c hc => ?_, ?_⟩, rfl⟩
  · exact view_unseen c _ fun g hg => h.unseen g (hazardsAfter_sub u g hg) c hc
  · rw [h.frame]

/-! ### Duplicates -/

/-- The bitwise reading of an overlap is the model's test (R215). -/
theorem clashes_iff (a b : TlbEntry) : a.clashes b ↔ a.overlaps b = true := by
  unfold TlbEntry.clashes TlbEntry.overlaps
  simp only [Bool.and_eq_true, decide_eq_true_eq, Bool.or_eq_true, or_assoc]
  refine and_congr ?_ Iff.rfl
  constructor
  · intro h
    apply BitVec.eq_of_getLsbD_eq
    intro j hj
    simp only [BitVec.getLsbD_and, BitVec.getLsbD_not, hj, decide_true, Bool.true_and, BitVec.getLsbD_setWidth,
      BitVec.getLsbD_or]
    cases ha : a.mask.getLsbD j
    · cases hb : b.mask.getLsbD j
      · rw [h j hj ha hb]
      · simp
    · simp
  · intro h j hj ha hb
    have hbit := congrArg (fun w : BitVec 19 => w.getLsbD j) h
    simpa only [BitVec.getLsbD_and, BitVec.getLsbD_not, hj, decide_true, Bool.true_and, BitVec.getLsbD_setWidth,
      BitVec.getLsbD_or, ha, hb, Bool.or_self, Bool.not_false, Bool.and_true] using hbit

theorem duplicates_iff (s : State) (e : TlbEntry) (i : Fin 64) :
    s.duplicates e i ↔ machineCheckCond s.tlb s.cfg.tlbEntries e i = true := by
  unfold State.duplicates machineCheckCond TlbEntry.anyValid
  simp only [Bool.and_eq_true, Bool.or_eq_true, List.any_eq_true, decide_eq_true_eq, clashes_iff, List.mem_finRange,
    true_and, and_assoc]

/-! ### Writing an entry (R586, R587) -/

theorem staged_eq (c : Cp0) : c.staged = stagedEntry c := rfl

/-- An entry written without a duplicate. -/
theorem tlbWrite_ok (s : State) (i : Fin 64) (hz : s.hazards = []) (ha : s.canAdvance = true)
    (hl : s.cp0.staged.maskLegal) (hd : ¬s.duplicates s.cp0.staged i) :
    ∃ t, s.tlbWrite i.val = .next t ∧ t.tlb.get i = s.cp0.staged ∧ (∀ j, j ≠ i → t.tlb.get j = s.tlb.get j) ∧
      Went s t ∧ t = { s with tlb := t.tlb, pc := t.pc, npc := t.npc, slot := t.slot, hazards := t.hazards } := by
  have hw : s.tlbWrite i.val =
      State.advance ({ s with tlb := s.tlb.set i s.cp0.staged }.pushHazard (.tlb i (s.tlb.get i))) := by
    unfold State.tlbWrite
    rw [view_eq .tlbOp s hz]
    refine (dif_pos i.isLt).trans ((if_neg ?_).trans (if_neg ?_))
    · rw [Bool.not_eq_true', Bool.not_eq_false]
      exact (legal_iff s.cp0.staged).1 hl
    · rwa [← staged_eq, ← duplicates_iff]
  refine ⟨_, hw.trans (advance_eq _ ha), ?_, fun j hj => ?_, ⟨rfl, rfl, rfl⟩, rfl⟩
  · exact Vector.getElem_set_self i.isLt
  · exact Vector.getElem_set_ne i.isLt j.isLt fun h => hj (Fin.ext h.symm)

/-- A duplicate is a Machine Check (R215). -/
theorem tlbWrite_duplicate (s : State) (i : Fin 64) (hz : s.hazards = []) (hl : s.cp0.staged.maskLegal)
    (hd : s.duplicates s.cp0.staged i) : s.tlbWrite i.val =
      State.raise { s with cp0 := { s.cp0 with status := s.cp0.status ||| 0x00200000 } } .mcheck := by
  unfold State.tlbWrite
  rw [view_eq .tlbOp s hz]
  refine (dif_pos i.isLt).trans ((if_neg ?_).trans (if_pos ?_))
  · rw [Bool.not_eq_true', Bool.not_eq_false]
    exact (legal_iff s.cp0.staged).1 hl
  · exact (duplicates_iff s s.cp0.staged i).1 hd

/-! ### Reading an entry (R585) -/

theorem pageMask_word (m : BitVec 16) : (m.setWidth 32 <<< 13 : Word) = 0#3 ++ m ++ 0#13 := by
  apply BitVec.eq_of_toNat_eq
  have hm : m.toNat < 2 ^ 16 := m.isLt
  have hzero : 0 * 2 ^ 16 ||| m.toNat = m.toNat := by rw [Nat.zero_mul, Nat.zero_or]
  simp only [BitVec.toNat_append, BitVec.toNat_shiftLeft, BitVec.toNat_setWidth, BitVec.toNat_ofNat, Nat.zero_mod,
    Nat.or_zero, Nat.shiftLeft_eq, hzero]
  omega

theorem entryLo_word (p : TlbPage) (g : Bool) : entryLoOf p g =
    0#6 ++ p.pfn ++ p.c ++ BitVec.ofBool p.d ++ BitVec.ofBool p.v ++ BitVec.ofBool g := by
  apply BitVec.eq_of_toNat_eq
  unfold entryLoOf
  rw [BitVec.toNat_setWidth_of_le (by omega)]
  simp only [BitVec.toNat_append, BitVec.toNat_ofNat, Nat.zero_mod, Nat.zero_shiftLeft, Nat.zero_or]

/-- A TLB instruction of kernel code on a TLB core. -/
theorem tlbInstr_run {s : State} (hu : s.cp0Usable = true) (hm : s.cfg.mmu = .tlb) (k : Out) : s.tlbInstr k = k :=
  (privileged_usable hu _).trans (if_neg (by simp [hm]))

theorem tlbInstr_fmt {s : State} (hu : s.cp0Usable = true) (hm : s.cfg.mmu = .fmt) (k : Out) :
    s.tlbInstr k = s.raise .ri := (privileged_usable hu _).trans (if_pos hm)

theorem readBack_tlbReadInto (s : State) (e : TlbEntry) (hz : s.hazards = []) : ReadBack s (s.tlbReadInto e) :=
  ((((ReadBack.of_nil hz).setCp _ _ _).setCp _ _ _).setCp _ _ _).setCp _ _ _

theorem tlbReadInto_cp0 (s : State) (e : TlbEntry) : (s.tlbReadInto e).cp0 = { s.cp0 with
    pageMask := 0#3 ++ e.mask ++ 0#13
    entryHi := e.vpn2 ++ 0#5 ++ e.asid
    entryLo0 := 0#6 ++ e.page0.pfn ++ e.page0.c ++ BitVec.ofBool e.page0.d ++ BitVec.ofBool e.page0.v ++
      BitVec.ofBool e.g
    entryLo1 := 0#6 ++ e.page1.pfn ++ e.page1.c ++ BitVec.ofBool e.page1.d ++ BitVec.ofBool e.page1.v ++
      BitVec.ofBool e.g } := by
  simp only [State.tlbReadInto, State.setCp, Cp0.put, pageMask_word, entryLo_word]

/-- What `tlbp` puts into `Index` where nothing matches: the probe-failed bit, the rest free (R588). -/
def State.probeFailed (s : State) : Word :=
  0x80000000 ||| (Config.free32 s.freeCtr .tlbpIndex &&& indexMask s.cfg.tlbEntries)

theorem probeFailed_bit (s : State) : s.probeFailed.getLsbD 31 = true := by
  unfold State.probeFailed
  rw [BitVec.getLsbD_or]
  rfl

theorem exec_tlbp_one (s : State) (i : Fin 64) (hu : s.cp0Usable = true) (hz : s.hazards = [])
    (hm : s.cfg.mmu = .tlb) (h : s.onlyMatch i (s.cp0.entryHi.extractLsb' 13 19)) :
    exec .tlbp s = (s.setCp .readBack .index allOnes (BitVec.ofNat 32 i.val)).advance := by
  have hone := matches_one s i _ h
  unfold State.asid at hone
  refine (tlbInstr_run hu hm _).trans ?_
  rw [view_eq .tlbOp s hz, hone]

theorem exec_tlbp_none (s : State) (hu : s.cp0Usable = true) (hz : s.hazards = []) (hm : s.cfg.mmu = .tlb)
    (h : s.noMatch (s.cp0.entryHi.extractLsb' 13 19)) :
    exec .tlbp s = (s.setCp .readBack .index allOnes s.probeFailed).advance := by
  have hnone := matches_none s _ h
  unfold State.asid at hnone
  refine (tlbInstr_run hu hm _).trans ?_
  rw [view_eq .tlbOp s hz, hnone]
  rfl

/-- Settles O52. -/
theorem tlbInstructions : Obligations.TlbInstructions := by
  intro s hu hz
  refine ⟨fun hm => ?_, fun ha hm hn => ?_⟩
  · simp only [List.forall_mem_cons, List.not_mem_nil, false_implies, implies_true, and_true]
    exact ⟨tlbInstr_fmt hu hm _, tlbInstr_fmt hu hm _, tlbInstr_fmt hu hm _, tlbInstr_fmt hu hm _⟩
  · have hidx : s.tlbIndex = (s.cp0.index &&& indexMask s.cfg.tlbEntries).toNat := by
      unfold State.tlbIndex
      rw [view_eq .tlbOp s hz]
    intro written read
    refine ⟨?_, fun hw hl hd => ?_, fun i hi => ?_, fun hno => ?_⟩
    · intro i hi hlt e
      have hrange : ¬ s.tlbIndex ≥ s.cfg.tlbEntries := by omega
      have hat : s.tlbIndex = i.val := hidx.trans hi
      have hwi : exec .tlbwi s = s.tlbWrite i.val := by
        rw [← hat]
        exact (tlbInstr_run hu hm _).trans (if_neg hrange)
      have hri : exec .tlbr s = (s.tlbReadInto e).advance := by
        refine (tlbInstr_run hu hm _).trans ((dif_pos (hat ▸ i.isLt)).trans ((if_neg hrange).trans ?_))
        simp only [hat]
        rfl
      refine ⟨?_, fun hl hd => ?_, fun hl hd => ?_⟩
      · obtain ⟨t, ht, hr, hc⟩ := (readBack_tlbReadInto s e hz).advance ha
        exact ⟨t, hri.trans ht, hr, hc.trans (tlbReadInto_cp0 s e)⟩
      · obtain ⟨t, ht, hw⟩ := tlbWrite_ok s i hz ha hl hd
        exact ⟨t, hwi.trans ht, hw⟩
      · exact hwi.trans (tlbWrite_duplicate s i hz hl hd)
    · have hlt : s.drawRandom (s.cp0.wired.toNat % 64) < s.cfg.tlbEntries ∧
          s.cp0.wired.toNat % 64 ≤ s.drawRandom (s.cp0.wired.toNat % 64) := by
        rw [show s.drawRandom (s.cp0.wired.toNat % 64) = s.cp0.wired.toNat % 64 +
          Config.freeNat s.freeCtr .random % (s.cfg.tlbEntries - s.cp0.wired.toNat % 64) from if_pos hw]
        have := Nat.mod_lt (Config.freeNat s.freeCtr .random)
          (show s.cfg.tlbEntries - s.cp0.wired.toNat % 64 > 0 by omega)
        omega
      have hwr : exec .tlbwr s = s.tlbWrite (s.drawRandom (s.cp0.wired.toNat % 64)) := by
        show s.tlbInstr _ = _
        rw [view_eq .tlbOp s hz]
        exact (tlbInstr_run hu hm _).trans (if_neg (Nat.not_le.2 hw))
      obtain ⟨t, ht, hwritten⟩ :=
        tlbWrite_ok s ⟨s.drawRandom (s.cp0.wired.toNat % 64), by omega⟩ hz ha hl (hd _)
      exact ⟨t, _, hwr.trans ht, hwritten, hlt.2, hlt.1⟩
    · obtain ⟨t, ht, hr, hc⟩ := ((ReadBack.of_nil hz).setCp .index allOnes (BitVec.ofNat 32 i.val)).advance ha
      refine ⟨t, (exec_tlbp_one s i hu hz hm hi).trans ht, hr, hc⟩
    · obtain ⟨t, ht, hr, hc⟩ := ((ReadBack.of_nil hz).setCp .index allOnes (s.probeFailed)).advance ha
      refine ⟨t, (exec_tlbp_none s hu hz hm hno).trans ht, hr, ?_, ?_⟩
      · rw [hc]
        exact probeFailed_bit s
      · rw [hc]
        rfl

end Sys2Proof.Machine
/-! ## Floating point registers: what a write leaves, and the moves (R45 to R57, R630 to R635, R652 to R657) -/

namespace Sys2Proof.Machine

/-! ### One write of an FP register -/

theorem frUse_eq (s : State) (hz : s.hazards = []) : s.frUse = s.fr := by
  unfold State.frUse
  rw [view_eq .copUse s hz]

theorem pairHigh_bit (r : Reg) : (pairHigh r).getLsbD 0 = true := by
  unfold pairHigh
  rw [BitVec.getLsbD_or]
  simp

theorem pairHigh_ne {r : Reg} (h : r.getLsbD 0 = false) : pairHigh r ≠ r := by
  intro he
  have hb := pairHigh_bit r
  rw [he, h] at hb
  cases hb

theorem writeFpr_frame (s : State) (f : FpFmt) (r : Reg) (v : DWord) :
    s.writeFpr f r v = { s with fpr := (s.writeFpr f r v).fpr } := by
  unfold State.writeFpr State.writeFprD State.writeFprW
  cases f.is64 <;> cases s.frUse <;> rfl

theorem readFprW_setFprLow (s : State) (r q : Reg) (v : Word) :
    (s.setFprLow r v).readFprW q = if q = r then v else s.readFprW q := by
  unfold State.readFprW
  rw [setFprLow_get]
  split
  · exact BitVec.setWidth_append_eq_right
  · rfl

/-- What a write leaves in the registers it does not name. -/
theorem writeFpr_others (s : State) (f : FpFmt) (r : Reg) (v : DWord) (q : Reg)
    (h : q ∉ (if f.is64 && !s.frUse then [r, pairHigh r] else [r])) :
    (s.writeFpr f r v).fpr.get q.toFin = s.fpr.get q.toFin := by
  have hr : q ≠ r := by
    intro he
    subst he
    revert h
    split <;> simp
  unfold State.writeFpr
  split
  · next h64 =>
    unfold State.writeFprD
    split
    · exact (fpr_set_get s r q v).trans (if_neg hr)
    · next hfr =>
      have hp : q ≠ pairHigh r := by
        intro he
        rw [h64, Bool.eq_false_iff.2 hfr, he] at h
        simp at h
      rw [setFprLow_get, if_neg hp, setFprLow_get, if_neg hr]
  · unfold State.writeFprW
    split
    · exact (fpr_set_get s r q _).trans (if_neg hr)
    · exact (setFprLow_get s r q _).trans (if_neg hr)

theorem frUse_of_cp0 {s t : State} (hs : s.hazards = []) (ht : t.hazards = []) (hc : t.cp0 = s.cp0) :
    t.frUse = s.frUse := by
  rw [frUse_eq t ht, frUse_eq s hs]
  unfold State.fr
  rw [hc]

theorem fmtOk_of_cp0 {s t : State} (hs : s.hazards = []) (ht : t.hazards = []) (hc : t.cp0 = s.cp0) (f : FpFmt)
    (r : Reg) : t.fmtOk f r = s.fmtOk f r := by
  unfold State.fmtOk State.dRegOk
  rw [frUse_of_cp0 hs ht hc]

/-- An operand depends on the FP registers and on `Status[FR]` only. -/
theorem readFpr_congr {s t : State} (hs : s.hazards = []) (ht : t.hazards = []) (hc : t.cp0 = s.cp0)
    (hf : t.fpr = s.fpr) (f : FpFmt) (r : Reg) : t.readFpr f r = s.readFpr f r := by
  unfold State.readFpr State.readFprD State.readFprW
  rw [frUse_of_cp0 hs ht hc, hf]

theorem readFpr_writeFpr (s : State) (f : FpFmt) (r : Reg) (v : DWord) (hz : s.hazards = [])
    (hok : s.fmtOk f r = true) :
    (s.writeFpr f r v).readFpr f r = if f.is64 then v else (v.setWidth 32).setWidth 64 := by
  have hfr : (s.writeFpr f r v).frUse = s.frUse :=
    frUse_of_cp0 hz (by simpa using hz) (by simp)
  unfold State.readFpr
  split
  · next h64 =>
    unfold State.readFprD
    rw [hfr]
    unfold State.writeFpr
    rw [if_pos h64]
    unfold State.writeFprD
    split
    · exact (fpr_set_get s r r v).trans (if_pos rfl)
    · next hn =>
      have hodd : r.getLsbD 0 = false := by
        simp only [State.fmtOk, State.dRegOk, h64, Bool.not_true, Bool.false_or, Bool.or_eq_true, Bool.not_eq_true'] at hok
        exact hok.resolve_left hn
      rw [readFprW_setFprLow, if_pos rfl, readFprW_setFprLow, if_neg (pairHigh_ne hodd).symm, readFprW_setFprLow,
        if_pos rfl]
      apply BitVec.eq_of_getLsbD_eq
      intro j hj
      rw [BitVec.getLsbD_append, BitVec.getLsbD_extractLsb', BitVec.getLsbD_setWidth]
      by_cases hlow : j < 32
      · simp [hlow]
      · have hhigh : j - 32 < 32 := by omega
        have hsum : 32 + (j - 32) = j := by omega
        simp [hlow, hhigh, hsum]
  · next h64 =>
    unfold State.writeFpr
    rw [if_neg h64]
    unfold State.writeFprW
    split
    · unfold State.readFprW
      rw [fpr_set_get, if_pos rfl, BitVec.setWidth_append_eq_right]
    · rw [readFprW_setFprLow, if_pos rfl]

/-- What being ready for an FP instruction means. -/
theorem fpReady_iff (s : State) : s.fpReady = true ↔ s.canAdvance = true ∧ s.cp1Usable = true ∧ s.hazards = [] := by
  simp only [State.fpReady, Bool.and_eq_true, decide_eq_true_eq, and_assoc]

/-- An FP result and a control word are written and the pc advances. -/
theorem advance_fprResult (s : State) (f : FpFmt) (r : Reg) (v : DWord) (w : Word) (ha : s.canAdvance = true)
    (hz : s.hazards = []) (hok : s.fmtOk f r = true) :
    ∃ t, State.advance ({ s with fcsr := w }.writeFpr f r v) = .next t ∧ FprResult s t f r v w := by
  have hframe := writeFpr_frame { s with fcsr := w } f r v
  have hfr : ({ s with fcsr := w } : State).frUse = s.frUse := frUse_of_cp0 hz hz rfl
  have hok' : ({ s with fcsr := w } : State).fmtOk f r = true := 
    (fmtOk_of_cp0 (s := s) (t := { s with fcsr := w }) hz hz rfl f r).trans hok
  have hadv : ({ s with fcsr := w }.writeFpr f r v).canAdvance = true := by
    rw [hframe]
    exact ha
  have hhaz : s.hazardsAfter = [] := by
    unfold State.hazardsAfter
    split
    · rfl
    · exact hz
  have hafter : ({ s with fcsr := w }.writeFpr f r v).hazardsAfter = [] := by
    rw [hframe]
    exact hhaz
  refine ⟨_, advance_eq _ hadv, ?_, ?_, ?_, ?_, ?_, ?_⟩
  · refine Eq.trans ?_ (readFpr_writeFpr { s with fcsr := w } f r v hz hok')
    refine readFpr_congr ?_ ?_ ?_ ?_ f r
    · simpa using hz
    · exact hafter
    · rfl
    · rfl
  · show ({ s with fcsr := w }.writeFpr f r v).fcsr = w
    simp
  · intro q hq
    rw [← hfr] at hq
    exact writeFpr_others { s with fcsr := w } f r v q hq
  · intro a
    show Memory.read ({ s with fcsr := w }.writeFpr f r v).mem a = _
    rw [hframe]
  · rw [hframe]
  · refine ⟨?_, ?_, rfl, ?_⟩
    · show ({ s with fcsr := w }.writeFpr f r v).npc = s.npc
      rw [hframe]
    · show ({ s with fcsr := w }.writeFpr f r v).npc + 4 = s.npc + 4
      rw [hframe]
    · exact hafter.trans hhaz.symm

end Sys2Proof.Machine
/-! ## Moves of the floating point registers and the control registers (R630 to R635, R652 to R657) -/

namespace Sys2Proof.Machine

/-! ### Moves between FP registers -/

theorem cop1Instr_usable {s : State} (h : s.cp1Usable = true) (k : Out) : s.cop1Instr k = k := if_pos h

theorem needRegs_ok {s : State} {l : List (FpFmt × Reg)} (h : ∀ p ∈ l, s.fmtOk p.1 p.2 = true) (k : Out) :
    s.needRegs l k = k := if_pos (List.all_eq_true.2 h)

theorem fmtOk_single (s : State) (r : Reg) : s.fmtOk .single r = true := rfl

theorem fmtOk_double (s : State) (r : Reg) (hz : s.hazards = []) (h : s.fr = true ∨ r.getLsbD 0 = false) :
    s.fmtOk .double r = true := by
  unfold State.fmtOk State.dRegOk
  rw [frUse_eq s hz]
  rcases h with h | h
  · rw [h, Bool.true_or, Bool.or_true]
  · rw [h, Bool.not_false, Bool.or_true, Bool.or_true]

/-- A move of the bits of a format, or nothing. -/
theorem fpMove_spec (s : State) (f : FpFmt) (go : Bool) (fs fd : Reg) (h : s.fpReady = true)
    (hs : s.fmtOk f fs = true) (hd : s.fmtOk f fd = true) :
    ∃ t, s.fpMove f go fs fd = .next t ∧
      (if go then FprResult s t f fd (s.readFpr f fs) s.fcsr else NoResult s t) := by
  obtain ⟨ha, hu, hz⟩ := (fpReady_iff s).1 h
  have hrun : s.fpMove f go fs fd = if go then (s.writeFpr f fd (s.readFpr f fs)).advance else s.advance :=
    (cop1Instr_usable hu _).trans (needRegs_ok (by simp [hs, hd]) _)
  rw [hrun]
  cases go
  · exact advance_noResult s ha
  · exact advance_fprResult s f fd _ s.fcsr ha hz hd

/-- Settles O55. -/
theorem fpMoves : Obligations.FpMoves := by
  intro fs fd rt cc s h
  obtain ⟨ha, hu, hz⟩ := (fpReady_iff s).1 h
  have move := fun (f : FpFmt) (go : Bool) (hs : s.fmtOk f fs = true) (hd : s.fmtOk f fd = true) =>
    fpMove_spec s f go fs fd h hs hd
  intro low moves
  have single := fun go => move .single go rfl rfl
  have hfcc : decide (s.fcc cc = false) = !s.fcc cc := by cases s.fcc cc <;> rfl
  have hfcc' : decide (s.fcc cc = true) = s.fcc cc := by cases s.fcc cc <;> rfl
  refine ⟨single true, ?_, ?_, single _, single _, fun hreg => ?_⟩
  · show ∃ t, _ ∧ (if decide (s.fcc cc = false) = true then _ else _)
    rw [hfcc]
    exact single _
  · show ∃ t, _ ∧ (if decide (s.fcc cc = true) = true then _ else _)
    rw [hfcc']
    exact single _
  · have hs : s.fmtOk .double fs = true := fmtOk_double s fs hz (hreg.imp id And.left)
    have hd : s.fmtOk .double fd = true := fmtOk_double s fd hz (hreg.imp id And.right)
    refine ⟨move .double true hs hd, ?_, ?_, move .double _ hs hd, move .double _ hs hd⟩
    · show ∃ t, _ ∧ (if decide (s.fcc cc = false) = true then _ else _)
      rw [hfcc]
      exact move .double _ hs hd
    · show ∃ t, _ ∧ (if decide (s.fcc cc = true) = true then _ else _)
      rw [hfcc']
      exact move .double _ hs hd

/-! ### The views of `FCSR` (R53 to R55) -/

theorem extract_one_word (w : Word) (n : Nat) : w.extractLsb' n 1 = BitVec.ofBool (w.getLsbD n) := by
  apply BitVec.eq_of_getLsbD_eq
  intro j hj
  obtain rfl : j = 0 := by omega
  simp

/-- One bit of a word moved to another place. -/
theorem shift_bit (w : Word) (n i : Nat) : ((w.extractLsb' n 1).setWidth 32 <<< i : Word) = bitAt i (w.getLsbD n) := by
  rw [extract_one_word]
  cases w.getLsbD n
  · simp [bitAt]
  · rfl

theorem fccrView_eq (f : Word) : fccrView f = 0#24 ++ f.extractLsb' 25 7 ++ f.extractLsb' 23 1 := by
  apply BitVec.eq_of_toNat_eq
  unfold fccrView
  rw [BitVec.toNat_setWidth_of_le (by omega)]
  simp only [BitVec.toNat_append, BitVec.toNat_ofNat, Nat.zero_mod, Nat.zero_shiftLeft, Nat.zero_or]

theorem fenrView_eq (f : Word) :
    fenrView f = (f &&& 0x00000F83) ||| (f.extractLsb' 24 1).setWidth 32 <<< 2 := by
  rw [shift_bit]
  rfl

theorem merge_eq (o n m k : Word) (h : ~~~m = k) : merge o n m = (o &&& k) ||| (n &&& m) := by
  rw [← h]
  rfl

theorem fccr_field (x : Word) :
    (((x.extractLsb' 1 7 ++ 0#1 ++ x.extractLsb' 0 1).setWidth 32 <<< 23 : Word) &&& 0xFE800000) =
      x.extractLsb' 1 7 ++ 0#1 ++ x.extractLsb' 0 1 ++ 0#23 := by
  have hmask : ∀ j, j < 32 → (0xFE800000 : Word).getLsbD j = decide (23 ≤ j ∧ j ≠ 24) := by decide
  apply BitVec.eq_of_getLsbD_eq
  intro j hj
  rw [BitVec.getLsbD_and, hmask j hj, BitVec.getLsbD_shiftLeft, BitVec.getLsbD_setWidth, BitVec.getLsbD_append (y := 0#23)]
  by_cases h23 : j < 23
  · simp [h23]
  · have h32 : j - 23 < 32 := by omega
    by_cases h24 : j = 24
    · subst h24
      have hgap : (x.extractLsb' 1 7 ++ 0#1 ++ x.extractLsb' 0 1).getLsbD 1 = false := by
        rw [BitVec.getLsbD_append, BitVec.getLsbD_append]
        simp
      simpa using hgap
    · simp [h23, h24, hj, h32, Nat.le_of_not_lt h23]

theorem fenr_write (f x : Word) : merge (putBit f 24 (x.getLsbD 2)) x 0x00000F83 =
    (f &&& (0xFEFFF07C : Word)) ||| (x &&& (0x00000F83 : Word)) ||| (x.extractLsb' 2 1).setWidth 32 <<< 24 := by
  have hkeep : ∀ j, j < 32 → (0xFEFFF07C : Word).getLsbD j = (!(0x00000F83 : Word).getLsbD j && decide (j ≠ 24)) := by
    decide
  rw [shift_bit]
  apply BitVec.eq_of_getLsbD_eq
  intro j hj
  rw [getLsbD_merge, getLsbD_putBit _ _ _ _ (by omega), BitVec.getLsbD_or, BitVec.getLsbD_or, BitVec.getLsbD_and,
    BitVec.getLsbD_and, getLsbD_bitAt _ _ _ (by omega), hkeep j hj]
  by_cases hj24 : j = 24
  · subst hj24
    simp
  · cases (0x00000F83 : Word).getLsbD j <;> simp [hj24]

/-! ### Control registers (R633, R634) -/

theorem fpTraps_iff (f : Word) :
    fpTraps f = true ↔ f.getLsbD 17 = true ∨ f.extractLsb' 12 5 &&& f.extractLsb' 7 5 ≠ 0 := by
  simp only [fpTraps, Bool.or_eq_true, bne_iff_ne]

/-- A write of a control register that leaves `FCSR` as `f`. -/
theorem ctc1_spec (s : State) (rt n : Reg) (f : Word) (h : s.fpReady = true)
    (hw : fpControlWrite s.fcsr n (s.readGpr rt) = some f) :
    let stops := f.getLsbD 17 = true ∨ f.extractLsb' 12 5 &&& f.extractLsb' 7 5 ≠ 0
    (stops → exec (.ctc1 rt n) s = State.raise { s with fcsr := f } .fpe) ∧
      (¬stops → ∃ t, exec (.ctc1 rt n) s = .next t ∧ NoResult { s with fcsr := f } t) := by
  obtain ⟨ha, hu, hz⟩ := (fpReady_iff s).1 h
  have hrun : exec (.ctc1 rt n) s =
      if fpTraps f then State.raise { s with fcsr := f } .fpe else State.advance { s with fcsr := f } := by
    refine (cop1Instr_usable hu _).trans ?_
    rw [hw]
  rw [hrun]
  refine ⟨fun hs => if_pos ((fpTraps_iff f).2 hs), fun hs => ?_⟩
  rw [if_neg fun ht => hs ((fpTraps_iff f).1 ht)]
  exact advance_noResult { s with fcsr := f } ha

theorem cfc1_spec (s : State) (rt n : Reg) (v : Word) (h : s.fpReady = true) (hr : s.fpControl n = some v) :
    ∃ t, exec (.cfc1 rt n) s = .next t ∧ GprResult s t rt v := by
  obtain ⟨ha, hu, hz⟩ := (fpReady_iff s).1 h
  have hrun : exec (.cfc1 rt n) s = s.put rt v := by
    refine (cop1Instr_usable hu _).trans ?_
    rw [hr]
  rw [hrun]
  exact put_gprResult s rt v ha

/-- The numbers without a control register are refused (U22). -/
theorem control_refused (s : State) (rt n : Reg) (hu : s.cp1Usable = true) (hn : n ∉ [(0 : Reg), 25, 26, 28, 31]) :
    exec (.cfc1 rt n) s = .refused .fpControlNumber ∧ exec (.ctc1 rt n) s = .refused .fpControlNumber := by
  simp only [List.mem_cons, List.not_mem_nil, or_false, not_or] at hn
  obtain ⟨h0, h25, h26, h28, h31⟩ := hn
  have hread : s.fpControl n = none := by
    unfold State.fpControl
    rw [if_neg h0, if_neg h25, if_neg h26, if_neg h28, if_neg h31]
  have hwrite : fpControlWrite s.fcsr n (s.readGpr rt) = none := by
    unfold fpControlWrite
    rw [if_neg h0, if_neg h25, if_neg h26, if_neg h28, if_neg h31]
  constructor
  · refine (cop1Instr_usable hu _).trans ?_
    rw [hread]
  · refine (cop1Instr_usable hu _).trans ?_
    rw [hwrite]

/-! ### Moves between the register files (R630 to R632, R635) -/

theorem readFprW_eq (s : State) (r : Reg) : s.readFprW r = (s.fpr.get r.toFin).extractLsb' 0 32 :=
  BitVec.setWidth_eq_extractLsb' (by omega)

/-- Writing the low half of a register with what it holds changes nothing. -/
theorem setFprLow_self (s : State) (r : Reg) : s.setFprLow r (s.readFprW r) = s := by
  have hval : (s.fpr.get r.toFin).extractLsb' 32 32 ++ s.readFprW r = s.fpr.get r.toFin := by
    apply BitVec.eq_of_getLsbD_eq
    intro j hj
    rw [BitVec.getLsbD_append, BitVec.getLsbD_extractLsb']
    unfold State.readFprW
    rw [BitVec.getLsbD_setWidth]
    by_cases hlow : j < 32
    · simp [hlow]
    · have hhigh : j - 32 < 32 := by omega
      have hsum : 32 + (j - 32) = j := by omega
      simp [hlow, hhigh, hsum]
  unfold State.setFprLow
  rw [hval]
  have hset : s.fpr.set r.toNat (s.fpr.get r.toFin) r.isLt = s.fpr := Vector.set_getElem_self r.isLt
  rw [hset]

theorem fpr_of_advance {s t : State} (h : s.advance = .next t) : t.fpr = s.fpr := by
  rcases advance_cases s with ⟨_, hn⟩ | ⟨_, hn⟩
  · rw [hn] at h
    cases h
    rfl
  · rw [hn] at h
    cases h

theorem mtc1_spec (s : State) (rt fs : Reg) (h : s.fpReady = true) :
    ∃ t, exec (.mtc1 rt fs) s = .next t ∧ FprResult s t .single fs ((s.readGpr rt).setWidth 64) s.fcsr ∧
      (s.fr = false → (t.fpr.get fs.toFin).extractLsb' 32 32 = (s.fpr.get fs.toFin).extractLsb' 32 32) := by
  obtain ⟨ha, hu, hz⟩ := (fpReady_iff s).1 h
  have hval : s.writeFpr .single fs ((s.readGpr rt).setWidth 64) = s.writeFprW fs (s.readGpr rt) := by
    show s.writeFprW fs _ = _
    rw [BitVec.setWidth_setWidth_of_le _ (by omega), BitVec.setWidth_eq]
  have hrun : exec (.mtc1 rt fs) s = State.advance ({ s with fcsr := s.fcsr }.writeFpr .single fs
      ((s.readGpr rt).setWidth 64)) :=
    (cop1Instr_usable hu _).trans (congrArg State.advance hval.symm)
  obtain ⟨t, ht, hres⟩ := advance_fprResult s .single fs ((s.readGpr rt).setWidth 64) s.fcsr ha hz rfl
  refine ⟨t, hrun.trans ht, hres, fun hfr => ?_⟩
  have hfpr : t.fpr = (s.writeFprW fs (s.readGpr rt)).fpr := by
    rw [fpr_of_advance ht, ← hval]
  have hlow : s.writeFprW fs (s.readGpr rt) = s.setFprLow fs (s.readGpr rt) :=
    if_neg (by rw [frUse_eq s hz, hfr]; exact Bool.false_ne_true)
  rw [hfpr, hlow, setFprLow_get, if_pos rfl]
  exact BitVec.extractLsb'_append_eq_left

theorem mfhc1_spec (s : State) (rt fs : Reg) (v : Word) (h : s.fpReady = true) (hok : s.fmtOk .double fs = true)
    (hv : v = if s.fr then (s.fpr.get fs.toFin).extractLsb' 32 32 else s.readFprW (pairHigh fs)) :
    ∃ t, exec (.mfhc1 rt fs) s = .next t ∧ GprResult s t rt v := by
  obtain ⟨ha, hu, hz⟩ := (fpReady_iff s).1 h
  have hrun : exec (.mfhc1 rt fs) s = s.put rt v := by
    refine (cop1Instr_usable hu _).trans ?_
    rw [hv, frUse_eq s hz]
    cases s.fr
    · exact needRegs_ok (by simp [hok]) _
    · rfl
  rw [hrun]
  exact put_gprResult s rt v ha

/-- The upper half of a 64-bit operand is written and its lower half stays. -/
theorem mthc1_spec (s : State) (rt fs : Reg) (h : s.fpReady = true) (hok : s.fmtOk .double fs = true) :
    ∃ t, exec (.mthc1 rt fs) s = .next t ∧
      FprResult s t .double fs (s.readGpr rt ++ (s.fpr.get fs.toFin).extractLsb' 0 32) s.fcsr := by
  obtain ⟨ha, hu, hz⟩ := (fpReady_iff s).1 h
  have hrun : exec (.mthc1 rt fs) s = State.advance ({ s with fcsr := s.fcsr }.writeFpr .double fs
      (s.readGpr rt ++ (s.fpr.get fs.toFin).extractLsb' 0 32)) := by
    refine (cop1Instr_usable hu _).trans ?_
    show _ = State.advance (s.writeFprD fs _)
    unfold State.writeFprD
    split
    · rw [readFprW_eq]
    · rw [BitVec.setWidth_append_eq_right, BitVec.extractLsb'_append_eq_left, ← readFprW_eq, setFprLow_self]
      exact needRegs_ok (by simp [hok]) _
  rw [hrun]
  exact advance_fprResult s .double fs _ s.fcsr ha hz hok

/-- Settles O54. -/
theorem fpTransfers : Obligations.FpTransfers := by
  intro rt fs s h
  obtain ⟨ha, hu, hz⟩ := (fpReady_iff s).1 h
  intro x odd reg control
  refine ⟨?_, mtc1_spec s rt fs h, fun hfr => ?_, fun hfr heven => ?_, fun n v hv => ?_, ctc1_spec s rt 0 _ h rfl,
    ctc1_spec s rt 25 _ h ?_, ctc1_spec s rt 26 _ h ?_, ctc1_spec s rt 28 _ h ?_, ctc1_spec s rt 31 _ h rfl,
    fun n hn => control_refused s rt n hu hn⟩
  · rw [show exec (.mfc1 rt fs) s = s.put rt (s.readFprW fs) from cop1Instr_usable hu _, readFprW_eq]
    exact put_gprResult s rt _ ha
  · have hok : s.fmtOk .double fs = true := fmtOk_double s fs hz (.inl hfr)
    exact ⟨mfhc1_spec s rt fs _ h hok (by rw [hfr]; rfl), mthc1_spec s rt fs h hok⟩
  · have hok : s.fmtOk .double fs = true := fmtOk_double s fs hz (.inr heven)
    refine ⟨mfhc1_spec s rt fs _ h hok ?_, mthc1_spec s rt fs h hok⟩
    rw [hfr]
    exact (readFprW_eq s odd).symm
  · refine cfc1_spec s rt n v h ?_
    rcases hv with ⟨rfl, rfl⟩ | ⟨rfl, rfl⟩ | ⟨rfl, rfl⟩ | ⟨rfl, rfl⟩ | ⟨rfl, rfl⟩
    · exact congrArg some (fccrView_eq s.fcsr)
    · rfl
    · exact congrArg some (fenrView_eq s.fcsr)
    · rfl
    · rfl
  · refine congrArg some ((merge_eq _ _ _ (0x017FFFFF : Word) (by decide)).trans ?_)
    rw [fccr_field]
  · exact congrArg some (merge_eq _ _ _ _ (by decide))
  · exact congrArg some (fenr_write s.fcsr x)

end Sys2Proof.Machine
/-! ## An interrupt is taken (R805, R807, R811 to R814) -/

namespace Sys2Proof.Machine

/-! ### The vector of an interrupt -/

theorem viVector_highest (p : Byte) (n : Nat) (hn : n < 8) (h : p.getLsbD n = true)
    (hi : ∀ m, n < m → m < 8 → p.getLsbD m = false) : viVector p = n := by
  have ge : ∀ k, k < 8 → p.getLsbD k = true → k ≤ n := by
    intro k hk hp
    by_contra hlt
    rw [hi k (by omega) hk] at hp
    cases hp
  have ne : ∀ k, ¬p.getLsbD k = true → n ≠ k := by
    rintro k hk rfl
    exact hk h
  unfold viVector
  split_ifs with h7 h6 h5 h4 h3 h2 h1
  · have := ge 7 (by omega) h7
    omega
  · have := ge 6 (by omega) h6
    have := ne 7 h7
    omega
  · have := ge 5 (by omega) h5
    have := ne 7 h7
    have := ne 6 h6
    omega
  · have := ge 4 (by omega) h4
    have := ne 7 h7
    have := ne 6 h6
    have := ne 5 h5
    omega
  · have := ge 3 (by omega) h3
    have := ne 7 h7
    have := ne 6 h6
    have := ne 5 h5
    have := ne 4 h4
    omega
  · have := ge 2 (by omega) h2
    have := ne 7 h7
    have := ne 6 h6
    have := ne 5 h5
    have := ne 4 h4
    have := ne 3 h3
    omega
  · have := ge 1 (by omega) h1
    have := ne 7 h7
    have := ne 6 h6
    have := ne 5 h5
    have := ne 4 h4
    have := ne 3 h3
    have := ne 2 h2
    omega
  · have := ne 7 h7
    have := ne 6 h6
    have := ne 5 h5
    have := ne 4 h4
    have := ne 3 h3
    have := ne 2 h2
    have := ne 1 h1
    omega

theorem intVector_compat (s : State) (hz : s.hazards = []) (hiv : s.iv = false) :
    s.intVector = .ok (0x180, s.ess) := by
  unfold State.intVector
  rw [view_eq .vector s hz]
  exact if_pos (by simp [hiv])

theorem intVector_special (s : State) (hz : s.hazards = []) (hiv : s.iv = true)
    (h : s.bev = true ∨ (s.cp0.intCtl.extractLsb' 5 5).toNat = 0) : s.intVector = .ok (0x200, s.ess) := by
  unfold State.intVector
  rw [view_eq .vector s hz]
  refine (if_neg (by simp [hiv])).trans (if_pos ?_)
  rw [Bool.or_eq_true, decide_eq_true_eq]
  exact h.imp id fun h0 => BitVec.eq_of_toNat_eq h0

/-- The spacings that work (U16). -/
theorem spacing_works {v : BitVec 5} (h : v.toNat ∈ [1, 2, 4, 8, 16]) :
    v ≠ 0 ∧ ¬(v ≠ 1 ∧ v ≠ 2 ∧ v ≠ 4 ∧ v ≠ 8 ∧ v ≠ 16) := by
  revert v
  decide

theorem intVector_spaced (s : State) (hz : s.hazards = []) (hiv : s.iv = true) (hb : s.bev = false)
    (hs : (s.cp0.intCtl.extractLsb' 5 5).toNat ∈ [1, 2, 4, 8, 16]) :
    s.intVector =
      if s.cfg.eicPresent then
        .ok (0x200 + BitVec.ofNat 32 (s.inputs.eicRIPL.toNat * (s.cp0.intCtl.extractLsb' 5 5).toNat * 32), s.inputs.eicSS)
      else
        .ok (0x200 + BitVec.ofNat 32 (viVector (s.ip &&& s.im) * (s.cp0.intCtl.extractLsb' 5 5).toNat * 32),
          s.cp0.srsMap.extractLsb' (4 * viVector (s.ip &&& s.im)) 4) := by
  obtain ⟨h0, hw⟩ := spacing_works hs
  unfold State.intVector
  rw [view_eq .vector s hz, view_eq .interrupt s hz]
  exact (if_neg (by simp [hiv])).trans ((if_neg (by
    rw [hb, Bool.false_or, decide_eq_true_eq]; exact h0)).trans (if_neg hw))

theorem vector_offset (n v : Nat) :
    (0x200 : Word) + BitVec.ofNat 32 (n * v * 32) = BitVec.ofNat 32 (0x200 + n * (v * 32)) := by
  rw [Nat.mul_assoc]
  exact (BitVec.ofNat_add 0x200 (n * (v * 32))).symm

/-! ### The state the boundary leaves -/

/-- What deferring imprecise exceptions may change: what is pending, and the two bits of `Debug` that note it. -/
def State.deferred (s u : State) : Prop :=
  ∃ x y, u = { s with
    pendCacheErr := u.pendCacheErr, pendCacheErrData := u.pendCacheErrData, pendDBE := u.pendDBE
    cp0 := { s.cp0 with debug := s.cp0.debug ||| bitAt 22 x ||| bitAt 21 y } }

theorem deferImprecise_deferred (s : State) : s.deferred s.deferImprecise := by
  unfold State.deferImprecise
  split
  · exact ⟨_, _, rfl⟩
  · refine ⟨false, false, ?_⟩
    rw [show s.cp0.debug ||| bitAt 22 false ||| bitAt 21 false = s.cp0.debug by simp [bitAt]]

theorem deferImprecise_idle_or (s : State) : s.deferImprecise = s ∨ s.deferImprecise.iexi = true := by
  unfold State.deferImprecise
  split
  · next h =>
    right
    show (_ ||| _ ||| _ : Word).getLsbD 20 = true
    rw [BitVec.getLsbD_or, BitVec.getLsbD_or, show (s.cp0.debug).getLsbD 20 = true from h]
    rfl
  · exact .inl rfl

theorem debug_bit (d : Word) (x y : Bool) (j : Nat) (h1 : j ≠ 22) (h2 : j ≠ 21) :
    (d ||| bitAt 22 x ||| bitAt 21 y).getLsbD j = d.getLsbD j := by
  rw [BitVec.getLsbD_or, BitVec.getLsbD_or, getLsbD_bitAt _ _ _ (by omega), getLsbD_bitAt _ _ _ (by omega)]
  simp [h1, h2]

/-! ### `Cause` and `SRSCtl` of an interrupt (R802, R814) -/

theorem causeAfter_int_ripl (u : State) (h : u.cfg.eicPresent = true) :
    (u.causeAfter .int).extractLsb' 10 6 = u.inputs.eicRIPL := by
  have hfield : ∀ r : BitVec 6, (r.setWidth 32 <<< 10 : Word).extractLsb' 10 6 = r := by decide
  unfold State.causeAfter
  rw [h, if_pos rfl, extract_merge_in _ _ _ 10 6 (by decide)]
  exact hfield _

theorem srsCtlAfter_int (u : State) (n : BitVec 4) : u.srsCtlAfter .int (some n) =
    (let w := if u.cfg.numShadowSets > 1 && !u.bev then switchSet u.cp0.srsCtl n else u.cp0.srsCtl
     if u.cfg.eicPresent then merge w (u.inputs.eicSS.setWidth 32 <<< 18) 0x003C0000 else w) := by
  unfold State.srsCtlAfter
  simp

theorem srsCtlAfter_int_field (u : State) (n : BitVec 4) (i : Nat)
    (hi : ∀ j, j < 4 → (0x003C0000 : Word).getLsbD (i + j) = false) :
    (u.srsCtlAfter .int (some n)).extractLsb' i 4 =
      (if u.cfg.numShadowSets > 1 && !u.bev then switchSet u.cp0.srsCtl n else u.cp0.srsCtl).extractLsb' i 4 := by
  rw [srsCtlAfter_int]
  dsimp only
  split
  · exact extract_merge_out _ _ _ i 4 hi
  · rfl

theorem srsCtlAfter_int_eicss (u : State) (n : BitVec 4) (h : u.cfg.eicPresent = true) :
    (u.srsCtlAfter .int (some n)).extractLsb' 18 4 = u.inputs.eicSS := by
  have hfield : ∀ r : BitVec 4, (r.setWidth 32 <<< 18 : Word).extractLsb' 18 4 = r := by decide
  rw [srsCtlAfter_int]
  dsimp only
  rw [h, if_pos rfl, extract_merge_in _ _ _ 18 4 (by decide)]
  exact hfield _

/-- The state after the entry of an interrupt at a vector offset, with a register set. -/
def State.intEntered (u : State) (off : Word) (set : BitVec 4) : State :=
  { u.enterAt (u.entryPoint off) with cp0 := u.cp0After .int (some set) }

theorem raise_int (u : State) (off : Word) (set : BitVec 4) (hd : u.dm = false) (hx : u.exl = false)
    (hv : u.intVector = .ok (off, set)) (hok : u.setOk set = true) : u.raise .int = .next (u.intEntered off set) := by
  have hr : u.raise .int = u.takeGeneral .int := if_neg (by simp [hd])
  have hvec : u.vectorOf .int = .ok (off, some set) := by
    unfold State.vectorOf
    rw [hx, hv]
    rfl
  rw [hr]
  unfold State.takeGeneral
  rw [hvec]
  exact if_neg (setOk_not_refused u set hok)

/-- What the taking of an interrupt leaves (R800 to R802, R814), in the words of the obligation. -/
def InterruptTaken (s t : State) (set : BitVec 4) (off : Word) : Prop :=
  t.pc = (if s.bev then 0xBFC00200 + off else (s.cp0.ebase &&& 0xFFFFF000) ||| off) ∧ t.npc = t.pc + 4 ∧
  t.slot = .none ∧ t.sleeping = false ∧ t.cp0.epc = s.returnAddress ∧ t.cp0.cause.extractLsb' 2 5 = 0 ∧
  t.cp0.cause.getLsbD 31 = decide (s.slot ≠ .none) ∧ t.cp0.status = s.cp0.status ||| 2 ∧ t.gpr = s.gpr ∧
  t.fpr = s.fpr ∧ t.tlb = s.tlb ∧ GatherWritten s t ∧
  (if s.cfg.numShadowSets > 1 ∧ s.bev = false then t.css = set ∧ t.pss = s.css else t.css = s.css ∧ t.pss = s.pss) ∧
  (s.cfg.eicPresent = true → t.cp0.cause.extractLsb' 10 6 = s.inputs.eicRIPL ∧
    t.cp0.srsCtl.extractLsb' 18 4 = s.inputs.eicSS)

theorem interruptTaken_intEntered (u : State) (off : Word) (set : BitVec 4) (hz : u.hazards = []) (hx : u.exl = false) :
    InterruptTaken u (u.intEntered off set) set off := by
  have hcss := srsCtlAfter_int_field u set 0 (by decide)
  have hpss := srsCtlAfter_int_field u set 6 (by decide)
  have hkeep := flushGather_eq u
  refine ⟨?_, rfl, rfl, rfl, ?_, causeAfter_code u .int, ?_, rfl, ?_, ?_, ?_, gatherWritten_flushGather _ _ rfl, ?_,
    fun h => ⟨causeAfter_int_ripl u h, srsCtlAfter_int_eicss u set h⟩⟩
  · show u.entryPoint off = _
    unfold State.entryPoint
    rw [view_eq .vector u hz]
  · show (if u.exl then u.cp0.epc else u.restart) = _
    rw [hx]
    rfl
  · refine (causeAfter_bd u .int).trans ?_
    rw [hx]
    rfl
  · show u.flushGather.gpr = u.gpr
    rw [hkeep]
  · show u.flushGather.fpr = u.fpr
    rw [hkeep]
  · show u.flushGather.tlb = u.tlb
    rw [hkeep]
  · split
    · next h =>
      have hif : (decide (u.cfg.numShadowSets > 1) && !u.bev) = true := by
        simp only [Bool.and_eq_true, decide_eq_true_eq, Bool.not_eq_true']
        exact h
      rw [if_pos hif] at hcss hpss
      exact ⟨hcss.trans (switchSet_css _ _), hpss.trans (switchSet_pss _ _)⟩
    · next h =>
      have hif : ¬(decide (u.cfg.numShadowSets > 1) && !u.bev) = true := by
        simp only [Bool.and_eq_true, decide_eq_true_eq, Bool.not_eq_true']
        exact h
      rw [if_neg hif] at hcss hpss
      exact ⟨hcss, hpss⟩

/-- The entry is the same from the state the step begins in: what the beginning and the end of a step change the entry
does not look at. -/
theorem InterruptTaken.of_deferred {s u v t : State} {set : BitVec 4} {off : Word} (hd : s.begun.deferred u)
    (h : InterruptTaken u v set off) (ht : ∃ a b d, t = { v with
      cp0 := { v.cp0 with perfCnt0 := a, perfCnt1 := b }, dbg := d }) : InterruptTaken s t set off := by
  obtain ⟨x, y, hu⟩ := hd
  obtain ⟨a, b, d, rfl⟩ := ht
  rw [hu] at h
  exact h

/-- The conditions under which the next step takes an interrupt: nothing stands before it, and it is enabled. -/
structure State.IntReady (s : State) : Prop where
  env : s.env = []
  hazards : s.hazards = []
  dm : s.dm = false
  sst : s.sst = false
  dint : s.dintPending = false
  breaks : s.dbg.pendBreaks = []
  nmi : (s.dcrNmip && s.dcrNmie) = false
  early : s.iexi = true ∨ (s.cacheEP = false ∧ s.dbusEP = false)
  inte : s.dcrInte = true
  ie : s.ie = true
  exl : s.exl = false
  erl : s.erl = false
  pending : if s.cfg.eicPresent then s.ipl.toNat < s.inputs.eicRIPL.toNat else s.ip &&& s.im ≠ 0

/-- A new draw number and the deferral of imprecise exceptions leave the conditions as they are. -/
theorem State.IntReady.deferImprecise {s : State} (h : s.IntReady) : s.begun.deferImprecise.IntReady := by
  obtain ⟨x, y, hu⟩ := deferImprecise_deferred s.begun
  have bit : ∀ j, j ≠ 22 → j ≠ 21 → (s.begun.deferImprecise.cp0.debug).getLsbD j = (s.cp0.debug).getLsbD j := by
    intro j h1 h2
    rw [hu]
    exact debug_bit _ _ _ _ h1 h2
  have early : s.begun.deferImprecise.iexi = true ∨
      (s.begun.deferImprecise.cacheEP = false ∧ s.begun.deferImprecise.dbusEP = false) := by
    rcases deferImprecise_idle_or s.begun with he | he
    · rw [he]
      exact h.early
    · exact .inl he
  refine ⟨?_, ?_, (bit 30 (by omega) (by omega)).trans h.dm, (bit 8 (by omega) (by omega)).trans h.sst, ?_, ?_, ?_, early,
    ?_, ?_, ?_, ?_, ?_⟩
  all_goals rw [hu]
  · exact h.env
  · exact h.hazards
  · exact h.dint
  · exact h.breaks
  · exact h.nmi
  · exact h.inte
  · exact h.ie
  · exact h.exl
  · exact h.erl
  · exact h.pending

/-- A pending interrupt wakes the core (R577). -/
theorem State.IntReady.wakes {s : State} (h : s.IntReady) : s.wakes = true := by
  have hp := h.pending
  have hr : s.wakeRequest = true := by
    rw [wakeRequest_iff]
    split
    · next he =>
      rw [if_pos he] at hp
      left
      intro h0
      rw [h0] at hp
      exact absurd hp (by simp)
    · next he =>
      rwa [if_neg he] at hp
  unfold State.wakes
  rw [hr]
  rfl

theorem State.IntReady.interruptDue {s : State} (h : s.IntReady) : s.interruptDue = true := by
  have hp := h.pending
  unfold State.interruptDue
  rw [view_eq .interrupt s h.hazards]
  dsimp only
  rw [h.ie, h.exl, h.erl, h.dm, h.inte]
  cases he : s.cfg.eicPresent
  · rw [he] at hp
    simpa using hp
  · rw [he] at hp
    simpa using hp

/-- Where no imprecise exception is due the boundary is the interrupt. -/
theorem State.IntReady.boundaryOf {u : State} (h : u.IntReady) : u.boundaryOf = .exc .int u := by
  have hstep : u.singleStepDue = false := by
    unfold State.singleStepDue
    rw [view_eq .fetch u h.hazards, h.sst, Bool.and_false, Bool.false_and, Bool.false_and]
  have hbreak : u.breakDue = false := by
    unfold State.breakDue
    rw [h.breaks, List.any_nil, Bool.and_false]
  have hcache : (!u.iexi && u.cacheEP) = false := by
    rcases h.early with hi | ⟨hc, _⟩
    · rw [hi, Bool.not_true, Bool.false_and]
    · rw [hc, Bool.and_false]
  have hbus : (!u.iexi && u.dbusEP) = false := by
    rcases h.early with hi | ⟨_, hb⟩
    · rw [hi, Bool.not_true, Bool.false_and]
    · rw [hb, Bool.and_false]
  unfold State.boundaryOf
  rw [hstep, h.dint, hbreak, h.nmi, hcache, hbus, h.interruptDue, Bool.and_false, Bool.false_and, Bool.false_and]
  rfl

/-- A pending interrupt that nothing comes before is taken by the next step. -/
theorem step_interrupt (s : State) (set : BitVec 4) (off : Word) (h : s.IntReady)
    (hvec : s.intVector = .ok (off, set)) (hok : s.setOk set = true) :
    ∃ t, step s = .next t ∧ InterruptTaken s t set off := by
  have hu := h.deferImprecise
  have hdef := deferImprecise_deferred s.begun
  have hvec' : s.begun.deferImprecise.intVector = .ok (off, set) := by
    rw [← hvec]
    obtain ⟨x, y, he⟩ := hdef
    unfold State.intVector
    rw [view_eq .vector s h.hazards, view_eq .interrupt s h.hazards, view_eq .vector _ hu.hazards,
      view_eq .interrupt _ hu.hazards, he]
    rfl
  have hok' : s.begun.deferImprecise.setOk set = true := by
    obtain ⟨x, y, he⟩ := hdef
    rw [he]
    exact hok
  have hstep : step s = s.coreStep := by
    unfold step
    rw [h.env]
  have hrun : s.coreStep = endOut (fun t => s.begun.endStep t none)
      (.next (s.begun.deferImprecise.intEntered off set)) := by
    unfold State.coreStep
    rw [beginStep_eq s h.hazards]
    refine (if_neg ?_).trans ?_
    · rw [show s.begun.wakes = true from h.wakes, Bool.not_true, Bool.and_false]
      exact Bool.false_ne_true
    · unfold State.boundary
      rw [hu.boundaryOf]
      exact congrArg (endOut fun t => s.begun.endStep t none) (raise_int _ off set hu.dm hu.exl hvec' hok')
  refine ⟨_, hstep.trans hrun, ?_⟩
  refine InterruptTaken.of_deferred hdef (interruptTaken_intEntered _ off set hu.hazards hu.exl) ?_
  exact ⟨_, _, _, endStep_eq s.begun _ none⟩

/-- Settles O47: by the vector the controls select. -/
theorem interruptIsTaken : Obligations.InterruptIsTaken := by
  intro s henv hz hdm hsst hdint hbr hnmi hcep hdep hinte hie hexl herl spacing taken pending
  have ready : pending → s.IntReady := fun hp =>
    ⟨henv, hz, hdm, hsst, hdint, hbr, hnmi, .inr ⟨hcep, hdep⟩, hinte, hie, hexl, herl, hp⟩
  refine ⟨fun hp hok => ⟨fun hiv => ?_, fun hiv hb => ?_⟩, fun hiv hbev hs => ⟨fun n hn he hbit hhigh hok => ?_,
    fun he hlt hok => ?_⟩⟩
  · exact step_interrupt s s.ess 0x180 (ready hp) (intVector_compat s hz hiv) hok
  · exact step_interrupt s s.ess 0x200 (ready hp) (intVector_special s hz hiv hb) hok
  · have hp : pending := by
      show if s.cfg.eicPresent = true then _ else _
      rw [if_neg (by simp [he])]
      intro h0
      rw [h0] at hbit
      simp at hbit
    refine step_interrupt s _ _ (ready hp) ?_ hok
    rw [intVector_spaced s hz hiv hbev hs, if_neg (by simp [he]), viVector_highest _ n hn hbit hhigh, vector_offset]
  · have hp : pending := by
      show if s.cfg.eicPresent = true then _ else _
      rwa [if_pos he]
    refine step_interrupt s _ _ (ready hp) ?_ hok
    rw [intVector_spaced s hz hiv hbev hs, if_pos he, vector_offset]

end Sys2Proof.Machine

/-! ## Data accesses to plain memory (43_load_store.md R500; obligations O15, O17, O19)

`Reaches` says what an access needs to get to RAM: no hazard, no break or watch, the alignment, and a place that is a
physical address. What a load or store then does depends on the cacheability code only: the uncached code 2, or the
write-back code 3 on a line that is present. -/

namespace Sys2Proof.Machine

/-- Nothing turns the access away, and it goes to plain RAM at `pa` with code `cca`. -/
structure State.Reaches (s : State) (k : AccKind) (a : DataAccess) (pa : Word) (cca : BitVec 3) : Prop where
  hazards : s.hazards = []
  traps : s.noDataTraps k.isStore = true
  aligned : a.va.toNat % a.align = 0
  place : s.placeOf k a = .ok (.phys pa cca) s
  ram : s.plainRam pa a.size = true
  some : 0 < a.size
  small : a.size ≤ 4

/-- Outside dseg an access goes where its translation says (R210). -/
theorem placeOf_translated (s : State) (k : AccKind) (a : DataAccess) (pa : Word) (cca : BitVec 3)
    (hd : s.dsegOf k a.first = none) (ht : s.translate k a.va = .ok (pa, cca) s) (hr : ccaReserved cca = false)
    (hl : (a.linked && !ccaCached cca) = false) :
    s.placeOf k a = .ok (.phys (pa - a.va + a.first) cca) s := by
  simp only [State.placeOf, hd, State.translateData, ht, Res.andThen, hr, hl, Bool.false_eq_true, if_false]

section
variable {s : State} {va pa : Word} {n slot : Nat}

theorem reaches_of_mapped {k : AccKind} {cca : BitVec 3} (h : MappedAccess s k va pa cca n)
    (hr : ccaReserved cca = false) (hn : 0 < n) (hs : n ≤ 4) : s.Reaches k (naturalAccess va n) pa cca where
  hazards := h.hazards
  traps := h.traps
  aligned := h.aligned
  place := by
    have hp := placeOf_translated s k (naturalAccess va n) pa cca (dsegOf_outside s k va h.segment) h.translation hr rfl
    rw [hp]
    exact congrArg (fun p => Res.ok (Place.phys p cca) s) (BitVec.sub_add_cancel pa va)
  ram := h.ram
  some := hn
  small := hs

/-- An access through kseg1 of kernel code (R200). -/
theorem reaches_kseg1 (k : AccKind) (a : DataAccess) (h : s.uncachedAccess k.isStore va n = true)
    (hv : inKseg1 a.va = true) (hp : unmapped a.va - a.va + a.first = pa) (hl : a.linked = false)
    (hr : s.plainRam pa a.size = true) (ha : a.va.toNat % a.align = 0) (hn : 0 < a.size) (hs : a.size ≤ 4) :
    s.Reaches k a pa 2 := by
  obtain ⟨hz, hm, _, ht, _, _, _⟩ := (uncachedAccess_iff s k.isStore va n).1 h
  exact ⟨hz, ht, ha, by rw [placeOf_kseg1 s k a hz hm hv hl, hp], hr, hn, hs⟩

theorem reaches_uncached (k : AccKind) (h : s.uncachedAccess k.isStore va n = true) (ha : va.toNat % n = 0)
    (hn : 0 < n) (hs : n ≤ 4) : s.Reaches k (naturalAccess va n) (unmapped va) 2 := by
  obtain ⟨_, _, hv, _, hr, _, _⟩ := (uncachedAccess_iff s k.isStore va n).1 h
  exact reaches_kseg1 k _ h hv (BitVec.sub_add_cancel _ _) rfl hr ha hn hs

theorem cachedBytes_iff (store : Bool) : s.cachedBytes store va n slot = true ↔
    s.hazards = [] ∧ s.mode? = some .kernel ∧ inKseg0 va = true ∧ s.noDataTraps store = true ∧
      s.plainRam (unmapped va) n = true ∧ lineBytes s.cfg true ≠ 0 ∧ s.cp0.config.extractLsb' 0 3 = 3 ∧
      s.dcache.lookup s.cfg true va (unmapped va) = some slot := by
  simp [State.cachedBytes, and_assoc]

/-- An access of kernel code through kseg0 where the code of `Config[K0]` is write-back (R200, R207). -/
theorem reaches_cached (k : AccKind) (a : DataAccess) (h : s.cachedBytes k.isStore va n slot = true)
    (hva : a.va = va) (hf : a.first = va) (hsz : a.size = n) (ha : va.toNat % a.align = 0) (hn : 0 < n) (hs : n ≤ 4) :
    s.Reaches k a (unmapped va) 3 := by
  obtain ⟨hz, hm, hv, ht, hr, _, hc, _⟩ := (cachedBytes_iff k.isStore).1 h
  refine ⟨hz, ht, by rw [hva]; exact ha, ?_, by rw [hsz]; exact hr, by omega, by omega⟩
  have ht' : s.translate k a.va = .ok (unmapped va, 3) s := by rw [hva, translate_kseg0 s k va hz hm hv, hc]
  rw [placeOf_translated s k a (unmapped va) 3 (dsegOf_not_debug _ _ _ (kernel_not_debug s hm)) ht' rfl
    (by rw [show ccaCached 3 = true from rfl]; exact Bool.and_false _), hva, hf, BitVec.sub_add_cancel]

end

/-! ### What the access does -/

/-- A cached read of a line that is present uses the line and changes nothing else (R260). -/
theorem readPart_present (s : State) (va pa : Word) (cca : BitVec 3) (n slot : Nat) (hn : 0 < n)
    (h : s.plainRam pa n = true) (hc : ccaCached cca = true) (hl : lineBytes s.cfg true ≠ 0) (hg : s.gather = none)
    (hs : s.dcache.lookup s.cfg true va pa = some slot) :
    s.readPart va pa cca n =
      .ok (some (s.dcache.bytes (lineBytes s.cfg true) slot (pa.toNat % lineBytes s.cfg true) n)) (s.lineUsed slot) := by
  have h0 := (plainRam_iff s pa n).1 h 0 hn
  simp only [BitVec.add_zero] at h0
  have e : s.flushLine pa = s := by simp [State.flushLine, hg]
  have hs' : (s.cache true).lookup s.cfg true va pa = some slot := hs
  simp only [State.readPart, h0.2.2, h0.2.1, hc, Bool.true_and, decide_eq_true_eq, if_pos hl, e, State.ensureLine, hs',
    Res.andThen]
  rfl

/-- A write-back store into a line that is present: its bytes, and the line is dirty (R260). -/
theorem writePart_present (s : State) (va pa : Word) (whole : Bool) (bs : List Byte) (slot : Nat) (hn : 0 < bs.length)
    (h : s.plainRam pa bs.length = true) (hl : lineBytes s.cfg true ≠ 0)
    (hs : s.dcache.lookup s.cfg true va pa = some slot) :
    s.writePart va pa 3 whole bs = .ok ()
      { s with dcache := ((s.lineUsed slot).dcache.setBytes (lineBytes s.cfg true) slot
          (pa.toNat % lineBytes s.cfg true) bs).setTag slot { s.dcache.tag slot with d := true } } := by
  have h0 := (plainRam_iff s pa bs.length).1 h 0 hn
  simp only [BitVec.add_zero] at h0
  have hs' : (s.cache true).lookup s.cfg true va pa = some slot := hs
  simp only [State.writePart, h0.2.2, h0.2.1, decide_true, Bool.true_and, decide_eq_true_eq, if_pos hl, State.ensureLine,
    hs', Res.andThen]
  rfl

section
variable {s u : State} {a : DataAccess} {pa : Word} {cca : BitVec 3}

/-- A load that reaches memory answers what the read of its bytes answers. -/
theorem loadBytes_reaches (h : s.Reaches .load a pa cca) (dest : LoadDest) (bs : Option (List Byte))
    (hr : s.readPart a.first pa cca a.size = .ok bs u) : s.loadBytes a dest = .ok bs { u with llTouched := true } := by
  have h8 : a.size ≠ 8 := by have := h.small; omega
  unfold State.loadBytes
  rw [dataChecks_plain s false true a h.hazards h.traps h.aligned]
  simp only [Res.andThen, h.place, State.readParts, if_neg h8, hr,
    noteValueBreak_plain s _ false _ _ _ h.hazards h.traps]

/-- A store that reaches memory does what the write of its bytes does. -/
theorem storeBytes_reaches (h : s.Reaches .store a pa cca) (whole : Bool) (bs : List Byte) (hb : bs.length = a.size)
    (hw : s.writePart a.first pa cca whole bs = .ok () u) :
    s.storeBytes a whole bs = .ok () { u with llTouched := true } := by
  have h8 : bs.length ≠ 8 := by have := h.small; omega
  unfold State.storeBytes
  rw [dataChecks_plain s true true a h.hazards h.traps h.aligned]
  simp only [Res.andThen, h.place, State.writeParts, if_neg h8, hw,
    noteValueBreak_plain s _ true _ _ _ h.hazards h.traps]

theorem loadBytes_uncached (h : s.Reaches .load a pa 2) (dest : LoadDest) (hf : s.inputs.failData = false)
    (hg : s.gather = none) :
    s.loadBytes a dest = .ok (some (Memory.readBytes s.mem pa.toNat a.size)) { s with llTouched := true } :=
  loadBytes_reaches h dest _ (readPart_plain s _ pa 2 a.size h.some h.ram rfl hf hg)

theorem loadBytes_present (h : s.Reaches .load a pa 3) (dest : LoadDest) (hl : lineBytes s.cfg true ≠ 0)
    (hg : s.gather = none) (slot : Nat) (hs : s.dcache.lookup s.cfg true a.first pa = some slot) :
    s.loadBytes a dest =
      .ok (some (s.dcache.bytes (lineBytes s.cfg true) slot (pa.toNat % lineBytes s.cfg true) a.size))
        { s.lineUsed slot with llTouched := true } :=
  loadBytes_reaches h dest _ (readPart_present s _ pa 3 a.size slot h.some h.ram rfl hl hg hs)

theorem storeBytes_uncached (h : s.Reaches .store a pa 2) (whole : Bool) (bs : List Byte) (hb : bs.length = a.size)
    (hg : s.gather = none) :
    s.storeBytes a whole bs = .ok () { s with mem := Memory.writeBytes s.mem pa.toNat bs, llTouched := true } := by
  have hn := h.some
  exact storeBytes_reaches h whole bs hb
    (writePart_plain s _ pa whole bs (by omega) (by rw [hb]; exact h.ram) hg)

theorem storeBytes_present (h : s.Reaches .store a pa 3) (whole : Bool) (bs : List Byte) (hb : bs.length = a.size)
    (hl : lineBytes s.cfg true ≠ 0) (slot : Nat) (hs : s.dcache.lookup s.cfg true a.first pa = some slot) :
    s.storeBytes a whole bs = .ok () (s.lineWritten slot pa bs) := by
  have hn := h.some
  rw [storeBytes_reaches h whole bs hb
    (writePart_present s _ pa whole bs slot (by omega) (by rw [hb]; exact h.ram) hl hs)]
  rfl

end

/-- With no hazard pending an access sees the byte order of the state (R970). -/
theorem bigAccess_eq (s : State) (h : s.hazards = []) : s.bigAccess = s.bigData := by
  rw [State.bigAccess, view_eq .data s h]

/-! ### How the instruction ends -/

/-- A load that got its value completes with it in its register. -/
theorem finish_loaded (u : State) (r : Reg) (v : Word) (h : u.canAdvance = true) :
    ∃ t, (Res.ok () ({ u with llTouched := true }.writeGpr r v)).finish = .next t ∧ LoadResult u t r v := by
  obtain ⟨t, ht, value, others, memory, frame, moved⟩ := put_gprResult { u with llTouched := true } r v h
  exact ⟨t, ht, value, others, memory, frame, moved⟩

/-- An instruction that wrote nothing more completes. -/
theorem finish_noResult (u : State) (h : u.canAdvance = true) : ∃ t, (Res.ok () u).finish = .next t ∧ NoResult u t :=
  advance_noResult u h

/-- A store of bytes to memory completes. -/
theorem finish_stored (s : State) (pa : Word) (bs : List Byte) (h : s.canAdvance = true) :
    ∃ t, (Res.ok () { s with mem := Memory.writeBytes s.mem pa.toNat bs, llTouched := true }).finish = .next t ∧
      StoreResult s t pa bs := by
  obtain ⟨t, ht, memory, frame, moved⟩ :=
    finish_noResult { s with mem := Memory.writeBytes s.mem pa.toNat bs, llTouched := true } h
  refine ⟨t, ht, fun a => (memory a).trans (Memory.read_writeBytes bs s.mem pa.toNat a), ?_, moved⟩
  rw [frame]

/-! ### Loads into a general register -/

section
variable {s : State} {rt : Reg} {va pa : Word} {n : Nat}

theorem loadGpr_uncached (f : Nat → Word) (h : s.Reaches .load (naturalAccess va n) pa 2)
    (hf : s.inputs.failData = false) (hg : s.gather = none) (ha : s.canAdvance = true) :
    ∃ t, s.loadGpr rt va n f = .next t ∧ LoadResult s t rt (f (s.memNat pa n)) := by
  unfold State.loadGpr State.memRead
  rw [loadBytes_uncached h _ hf hg]
  simp only [Res.andThen, Option.map_some, Option.getD_some, bigAccess_eq s h.hazards]
  exact finish_loaded s rt _ ha

theorem loadGpr_present (f : Nat → Word) (h : s.Reaches .load (naturalAccess va n) pa 3)
    (hl : lineBytes s.cfg true ≠ 0) (hg : s.gather = none) (slot : Nat)
    (hs : s.dcache.lookup s.cfg true va pa = some slot) (ha : s.canAdvance = true) :
    ∃ t, s.loadGpr rt va n f = .next t ∧ LoadResult (s.lineUsed slot) t rt (f (s.lineNat slot pa n)) := by
  unfold State.loadGpr State.memRead
  rw [loadBytes_present h _ hl hg slot hs]
  simp only [Res.andThen, Option.map_some, Option.getD_some, bigAccess_eq s h.hazards]
  exact finish_loaded (s.lineUsed slot) rt _ ha

theorem leNat_lt (bs : List Byte) : leNat bs < 256 ^ bs.length := by
  induction bs with
  | nil => exact Nat.one_pos
  | cons b t ih =>
    have hb := b.isLt
    simp only [leNat, List.length_cons, Nat.pow_succ]
    omega

theorem bytesToNat_lt (big : Bool) (bs : List Byte) : bytesToNat big bs < 256 ^ bs.length := by
  unfold bytesToNat
  have h := leNat_lt (if big then bs.reverse else bs)
  cases big
  · exact h
  · simpa using h

@[simp] theorem Memory.length_readBytes (m : List Host.Cell) (n : Nat) : ∀ a, (Memory.readBytes m a n).length = n := by
  induction n with
  | zero => intro a; rfl
  | succ n ih => intro a; simp [Memory.readBytes, ih]

theorem memNat_lt (s : State) (pa : Word) (n : Nat) : s.memNat pa n < 256 ^ n := by
  have h := bytesToNat_lt s.bigData (Memory.readBytes s.mem pa.toNat n)
  rwa [Memory.length_readBytes] at h

theorem lineNat_lt (s : State) (slot : Nat) (pa : Word) (n : Nat) : s.lineNat slot pa n < 256 ^ n := by
  have h := bytesToNat_lt s.bigData (s.dcache.bytes (lineBytes s.cfg true) slot (pa.toNat % lineBytes s.cfg true) n)
  rwa [Cache.bytes, Memory.length_readBytes] at h

theorem ofNat_zeroExtend {w m : Nat} (hw : w ≤ 32) (hm : m < 2 ^ w) :
    (BitVec.ofNat w m).setWidth 32 = BitVec.ofNat 32 m := by
  apply BitVec.eq_of_toNat_eq
  have hp : 2 ^ w ≤ 2 ^ 32 := Nat.pow_le_pow_right (by decide) hw
  rw [BitVec.toNat_setWidth, BitVec.toNat_ofNat, BitVec.toNat_ofNat, Nat.mod_eq_of_lt hm]

/-- The result of an unsigned byte or halfword load, as the number loaded. -/
theorem zeroExtend8 {m : Nat} (h : m < 256 ^ 1) : (BitVec.ofNat 8 m).setWidth 32 = BitVec.ofNat 32 m :=
  ofNat_zeroExtend (by decide) h

theorem zeroExtend16 {m : Nat} (h : m < 256 ^ 2) : (BitVec.ofNat 16 m).setWidth 32 = BitVec.ofNat 32 m :=
  ofNat_zeroExtend (by decide) h

end

/-- What an instruction does that loads `n` bytes from `va` into `rt`, as `f` of the number, stated once for the
uncached access and for the access to a line that is present. -/
structure LoadsGpr (i : Instr) (s : State) (rt : Reg) (va : Word) (n : Nat) (f : Nat → Word) : Prop where
  uncached : ∀ pa, s.Reaches .load (naturalAccess va n) pa 2 → s.inputs.failData = false → s.gather = none →
    ∃ t, exec i s = .next t ∧ LoadResult s t rt (f (s.memNat pa n))
  present : ∀ pa slot, s.Reaches .load (naturalAccess va n) pa 3 → lineBytes s.cfg true ≠ 0 → s.gather = none →
    s.dcache.lookup s.cfg true va pa = some slot →
    ∃ t, exec i s = .next t ∧ LoadResult (s.lineUsed slot) t rt (f (s.lineNat slot pa n))

theorem loadsGpr_of_loadGpr (i : Instr) (s : State) (rt : Reg) (va : Word) (n : Nat) (f g : Nat → Word)
    (ha : s.canAdvance = true) (hi : exec i s = s.loadGpr rt va n g) (hg : ∀ m, m < 256 ^ n → g m = f m) :
    LoadsGpr i s rt va n f where
  uncached pa h hf hn := by
    obtain ⟨t, ht, hr⟩ := loadGpr_uncached (rt := rt) g h hf hn ha
    exact ⟨t, hi.trans ht, by rw [← hg _ (memNat_lt s pa n)]; exact hr⟩
  present pa slot h hl hn hs := by
    obtain ⟨t, ht, hr⟩ := loadGpr_present (rt := rt) g h hl hn slot hs ha
    exact ⟨t, hi.trans ht, by rw [← hg _ (lineNat_lt s slot pa n)]; exact hr⟩

section
variable (base rt : Reg) (off : BitVec 16) (s : State) (ha : s.canAdvance = true)
include ha

theorem lb_loads : LoadsGpr (.lb base rt off) s rt (s.readGpr base + off.signExtend 32) 1
    (fun m => (BitVec.ofNat 8 m).signExtend 32) := loadsGpr_of_loadGpr _ s _ _ _ _ _ ha rfl (fun _ _ => rfl)

theorem lbu_loads : LoadsGpr (.lbu base rt off) s rt (s.readGpr base + off.signExtend 32) 1 (BitVec.ofNat 32) :=
  loadsGpr_of_loadGpr _ s _ _ _ _ _ ha rfl (fun _ h => zeroExtend8 h)

theorem lh_loads : LoadsGpr (.lh base rt off) s rt (s.readGpr base + off.signExtend 32) 2
    (fun m => (BitVec.ofNat 16 m).signExtend 32) := loadsGpr_of_loadGpr _ s _ _ _ _ _ ha rfl (fun _ _ => rfl)

theorem lhu_loads : LoadsGpr (.lhu base rt off) s rt (s.readGpr base + off.signExtend 32) 2 (BitVec.ofNat 32) :=
  loadsGpr_of_loadGpr _ s _ _ _ _ _ ha rfl (fun _ h => zeroExtend16 h)

theorem lw_loads : LoadsGpr (.lw base rt off) s rt (s.readGpr base + off.signExtend 32) 4 (BitVec.ofNat 32) :=
  loadsGpr_of_loadGpr _ s _ _ _ _ _ ha rfl (fun _ _ => rfl)

end

/-- Kernel code loads so through kseg1. -/
theorem LoadsGpr.kseg1 {i : Instr} {s : State} {rt : Reg} {va : Word} {n : Nat} {f : Nat → Word}
    (hi : LoadsGpr i s rt va n f) (h : s.uncachedAccess false va n = true) (ha : va.toNat % n = 0) (hn : 0 < n)
    (hs : n ≤ 4) : ∃ t, exec i s = .next t ∧ LoadResult s t rt (f (s.memNat (unmapped va) n)) := by
  obtain ⟨_, _, _, _, _, hf, hg⟩ := (uncachedAccess_iff s false va n).1 h
  exact hi.uncached _ (reaches_uncached .load h ha hn hs) hf hg

/-- And through kseg0 from a line that is present. -/
theorem LoadsGpr.kseg0 {i : Instr} {s : State} {rt : Reg} {va : Word} {n slot : Nat} {f : Nat → Word}
    (hi : LoadsGpr i s rt va n f) (hg : s.gather = none) (h : s.cachedBytes false va n slot = true)
    (ha : va.toNat % n = 0) (hn : 0 < n) (hs : n ≤ 4) :
    ∃ t, exec i s = .next t ∧ LoadResult (s.lineUsed slot) t rt (f (s.lineNat slot (unmapped va) n)) := by
  obtain ⟨_, _, _, _, _, hl, _, hlook⟩ := (cachedBytes_iff false).1 h
  exact hi.present _ slot (reaches_cached .load (naturalAccess va n) h rfl rfl rfl ha hn hs) hl hg hlook

theorem mod_two_of_bit {va : Word} (h : va.getLsbD 0 = false) : va.toNat % 2 = 0 := by
  rw [BitVec.getLsbD, Nat.testBit_zero] at h
  simpa using h

theorem mod_four_of_low {va : Word} (h : va.extractLsb' 0 2 = 0) : va.toNat % 4 = 0 := by
  simpa using congrArg BitVec.toNat h

theorem mod_eight_of_low {va : Word} (h : va.extractLsb' 0 3 = 0) : va.toNat % 8 = 0 := by
  simpa using congrArg BitVec.toNat h

/-- Settles O15: each load is a `LoadsGpr`, which reaches memory through kseg1 and a present line through kseg0. -/
theorem loadResults : Obligations.LoadResults := by
  unfold Obligations.LoadResults
  intro base rt off s ha va m
  have lb := lb_loads base rt off s ha
  have lbu := lbu_loads base rt off s ha
  have lh := lh_loads base rt off s ha
  have lhu := lhu_loads base rt off s ha
  have lw := lw_loads base rt off s ha
  have byte := Nat.mod_one va.toNat
  refine ⟨fun h => ⟨lb.kseg1 h byte ?_ ?_, lbu.kseg1 h byte ?_ ?_⟩,
    fun h h2 => ⟨lh.kseg1 h (mod_two_of_bit h2) ?_ ?_, lhu.kseg1 h (mod_two_of_bit h2) ?_ ?_⟩,
    fun h h4 => lw.kseg1 h (mod_four_of_low h4) ?_ ?_, fun hg slot => ?_⟩
  any_goals decide
  intro u c
  refine ⟨fun h => ⟨lb.kseg0 hg h byte ?_ ?_, lbu.kseg0 hg h byte ?_ ?_⟩,
    fun h h2 => ⟨lh.kseg0 hg h (mod_two_of_bit h2) ?_ ?_, lhu.kseg0 hg h (mod_two_of_bit h2) ?_ ?_⟩,
    fun h h4 => lw.kseg0 hg h (mod_four_of_low h4) ?_ ?_⟩
  all_goals decide

/-! ### Stores from a general register -/

@[simp] theorem length_leBytes (n : Nat) : ∀ v, (leBytes v n).length = n := by
  induction n with
  | zero => intro v; rfl
  | succ n ih => intro v; simp [leBytes, ih]

@[simp] theorem length_natToBytes (big : Bool) (n v : Nat) : (natToBytes big n v).length = n := by
  cases big <;> simp [natToBytes]

/-- What an instruction does that stores the `n` low bytes of `x` at `va`. -/
structure Stores (i : Instr) (s : State) (va : Word) (n x : Nat) : Prop where
  uncached : ∀ pa, s.Reaches .store (naturalAccess va n) pa 2 → s.gather = none →
    ∃ t, exec i s = .next t ∧ StoreResult s t pa (natToBytes s.bigData n x)
  present : ∀ pa slot, s.Reaches .store (naturalAccess va n) pa 3 → lineBytes s.cfg true ≠ 0 →
    s.dcache.lookup s.cfg true va pa = some slot →
    ∃ t, exec i s = .next t ∧ NoResult (s.lineWritten slot pa (natToBytes s.bigData n x)) t

theorem stores_of_memWrite (i : Instr) (s : State) (va : Word) (n x : Nat) (ha : s.canAdvance = true)
    (hi : exec i s = (s.memWrite va n x).finish) : Stores i s va n x where
  uncached pa h hg := by
    have hb : (natToBytes s.bigData n x).length = (naturalAccess va n).size := length_natToBytes _ _ _
    rw [hi, State.memWrite, bigAccess_eq s h.hazards, storeBytes_uncached h _ _ hb hg]
    exact finish_stored s pa _ ha
  present pa slot h hl hs := by
    have hb : (natToBytes s.bigData n x).length = (naturalAccess va n).size := length_natToBytes _ _ _
    rw [hi, State.memWrite, bigAccess_eq s h.hazards, storeBytes_present h _ _ hb hl slot hs]
    exact finish_noResult (s.lineWritten slot pa _) ha

theorem Stores.kseg1 {i : Instr} {s : State} {va : Word} {n x : Nat} (hi : Stores i s va n x)
    (h : s.uncachedAccess true va n = true) (ha : va.toNat % n = 0) (hn : 0 < n) (hs : n ≤ 4) :
    ∃ t, exec i s = .next t ∧ StoreResult s t (unmapped va) (natToBytes s.bigData n x) := by
  obtain ⟨_, _, _, _, _, _, hg⟩ := (uncachedAccess_iff s true va n).1 h
  exact hi.uncached _ (reaches_uncached .store h ha hn hs) hg

theorem Stores.kseg0 {i : Instr} {s : State} {va : Word} {n x slot : Nat} (hi : Stores i s va n x)
    (h : s.cachedBytes true va n slot = true) (ha : va.toNat % n = 0) (hn : 0 < n) (hs : n ≤ 4) :
    ∃ t, exec i s = .next t ∧ NoResult (s.lineWritten slot (unmapped va) (natToBytes s.bigData n x)) t := by
  obtain ⟨_, _, _, _, _, hl, _, hlook⟩ := (cachedBytes_iff true).1 h
  exact hi.present _ slot (reaches_cached .store (naturalAccess va n) h rfl rfl rfl ha hn hs) hl hlook

/-- Settles O17: each store is one of `Stores`. -/
theorem storeResults : Obligations.StoreResults := by
  unfold Obligations.StoreResults
  intro base rt off s ha va x
  have sb : Stores (.sb base rt off) s va 1 x := stores_of_memWrite _ s _ _ _ ha rfl
  have sh : Stores (.sh base rt off) s va 2 x := stores_of_memWrite _ s _ _ _ ha rfl
  have sw : Stores (.sw base rt off) s va 4 x := stores_of_memWrite _ s _ _ _ ha rfl
  have byte := Nat.mod_one va.toNat
  refine ⟨fun h => sb.kseg1 h byte ?_ ?_, fun h h2 => sh.kseg1 h (mod_two_of_bit h2) ?_ ?_,
    fun h h4 => sw.kseg1 h (mod_four_of_low h4) ?_ ?_, fun slot => ⟨fun h => sb.kseg0 h byte ?_ ?_,
    fun h h2 => sh.kseg0 h (mod_two_of_bit h2) ?_ ?_, fun h h4 => sw.kseg0 h (mod_four_of_low h4) ?_ ?_⟩⟩
  all_goals decide

/-! ### `ll` and `sc` (R513, R514) -/

/-- The start of the reservation block, as a number (D17). -/
theorem llBlockOf_toNat (cfg : Cfg) (pa : Word) :
    (llBlockOf cfg pa).toNat = pa.toNat / 2 ^ cfg.llGranuleLog2 * 2 ^ cfg.llGranuleLog2 := by
  have hle := Nat.div_mul_le_self pa.toNat (2 ^ cfg.llGranuleLog2)
  have hlt := pa.isLt
  rw [llBlockOf, BitVec.toNat_shiftLeft, BitVec.toNat_ushiftRight, Nat.shiftRight_eq_div_pow, Nat.shiftLeft_eq,
    Nat.mod_eq_of_lt (by omega)]

/-- What `ll` and `sc` do with the reservation does not touch the registers. -/
theorem writeGpr_link (s : State) (r : Reg) (v : Word) (b : Bool) (k : Word) (c : Bool) :
    { s.writeGpr r v with llBit := b, llBlock := k, llTouched := c } =
      { s with llBit := b, llBlock := k, llTouched := c }.writeGpr r v := by
  unfold State.writeGpr State.writeSet
  split <;> rfl

/-- `sc` ends by clearing the link bit and writing its answer. -/
theorem finish_sc (u : State) (r : Reg) (v : Word) (h : u.canAdvance = true) :
    ∃ t, (Res.ok () ({ u with llBit := false }.writeGpr r v)).finish = .next t ∧
      GprResult { u with llBit := false } t r v :=
  put_gprResult { u with llBit := false } r v h

section
variable {s : State} {va : Word} {slot : Nat}

theorem physOf_kseg0 {store : Bool} (k : AccKind) (h : s.cachedAccess store va slot = true) :
    s.physOf k va = some (unmapped va) := by
  obtain ⟨hz, hm, hv, _⟩ := (cachedBytes_iff store).1 h
  simp only [State.physOf, translate_kseg0 s k va hz hm hv]

theorem reaches_linked (k : AccKind) (h : s.cachedAccess k.isStore va slot = true) (ha : va.extractLsb' 0 2 = 0) :
    s.Reaches k (linkedAccess va) (unmapped va) 3 :=
  reaches_cached k (linkedAccess va) h rfl rfl rfl (mod_four_of_low ha) (by decide) (by decide)

/-- A reservation that stands, with no access in between, lets `sc` store; without the link bit it does not. -/
theorem scStores_of_reservation (h : s.cachedAccess true va slot = true) (hb : s.llBit = true)
    (ht : s.llTouched = false)
    (hk : s.llBlock.toNat = (unmapped va).toNat / 2 ^ s.cfg.llGranuleLog2 * 2 ^ s.cfg.llGranuleLog2) :
    s.scStores va = true := by
  have hblock : llBlockOf s.cfg (unmapped va) = s.llBlock :=
    BitVec.eq_of_toNat_eq ((llBlockOf_toNat _ _).trans hk.symm)
  simp [State.scStores, hb, ht, physOf_kseg0 .store h, hblock]

theorem scFails_plain (h : s.Reaches .store (linkedAccess va) (unmapped va) 3) : s.scFails va = .ok () s := by
  simp only [State.scFails, dataChecks_plain s true false _ h.hazards h.traps h.aligned, Res.andThen, h.place]

end

/-- Settles O19: the access is one of `Reaches`, and the reservation is set or asked besides. -/
theorem linkedLoadAndStore : Obligations.LinkedLoadAndStore := by
  unfold Obligations.LinkedLoadAndStore
  intro base rt imm s slot ha va line off block set hal
  refine ⟨fun h hg => ?_, fun h => ⟨fun hb ht hk => ?_, fun hb => ?_⟩⟩
  · obtain ⟨hz, _, _, _, _, hl, _, hs⟩ := (cachedBytes_iff false).1 h
    have hload := loadBytes_present (reaches_linked .load h hal) (s.gprDest rt) hl hg slot hs
    let w : Word := BitVec.ofNat 32 (bytesToNat s.bigData (s.dcache.bytes line slot off 4))
    let u : State := { s.lineUsed slot with
      llBit := true, llBlock := llBlockOf s.cfg (unmapped va), llTouched := false }
    have hexec : exec (.ll base rt imm) s = u.put rt w := by
      show execLl base rt imm s = _
      have heff : s.effAddr base imm = va := rfl
      simp only [execLl, heff, hload, physOf_kseg0 .load h, bigAccess_eq s hz, Res.andThen, Option.map_some,
        Option.getD_some, writeGpr_link]
      rfl
    obtain ⟨t, ht, value, others, memory, frame, moved⟩ := put_gprResult u rt w ha
    rw [OnlyGprChanged] at frame
    refine ⟨t, hexec.trans ht, value, others, ?_, ?_, ?_, memory, ?_, ?_, moved⟩
    · rw [frame]
    · rw [frame]; exact llBlockOf_toNat _ _
    · rw [frame]
    · rw [frame]; rfl
    · rw [frame]; rfl
  · obtain ⟨hz, _, _, _, _, hl, _, hs⟩ := (cachedBytes_iff true).1 h
    have hstore := storeBytes_present (reaches_linked .store h hal) true
      (natToBytes s.bigData 4 (s.readGpr rt).toNat) (length_natToBytes _ _ _) hl slot hs
    obtain ⟨t, ht', value, others, memory, frame, moved⟩ :=
      finish_sc (s.lineWritten slot (unmapped va) (natToBytes s.bigData 4 (s.readGpr rt).toNat)) rt 1 ha
    have hexec : exec (.sc base rt imm) s = .next t := by
      show execSc base rt imm s = _
      have heff : s.effAddr base imm = va := rfl
      simp only [execSc, heff, scStores_of_reservation h hb ht hk, if_true, bigAccess_eq s hz, hstore]
      exact ht'
    rw [OnlyGprChanged] at frame
    refine ⟨t, hexec, value, others, ?_, memory, ?_, ?_, moved⟩
    · rw [frame]
    · rw [frame]; rfl
    · rw [frame]; rfl
  · have hz := ((cachedBytes_iff true).1 h).1
    obtain ⟨t, ht', value, others, memory, frame, moved⟩ := finish_sc s rt 0 ha
    have hexec : exec (.sc base rt imm) s = .next t := by
      show execSc base rt imm s = _
      have heff : s.effAddr base imm = va := rfl
      have hno : s.scStores va = false := by rw [State.scStores, hb]; rfl
      simp only [execSc, heff, hno, Bool.false_eq_true, if_false, scFails_plain (reaches_linked .store h hal)]
      exact ht'
    refine ⟨t, hexec, ?_, others, memory, frame, moved⟩
    rw [value]; exact ite_self _

end Sys2Proof.Machine

/-! ## Partial words (43_load_store.md R506, R507, R511, R512; obligations O16, O18)

An access of `lwl` or `swl` is the low-order part of the aligned word, one of `lwr` or `swr` the high-order part, in
either byte order; `k` bytes of the word are left out. Byte order decides only at which end of the word the part
stands: `lowStart` and `highStart`. -/

namespace Sys2Proof.Machine

/-! ### Numbers and their bytes -/

theorem leNat_append (a b : List Byte) : leNat (a ++ b) = leNat a + 256 ^ a.length * leNat b := by
  induction a with
  | nil => simp [leNat]
  | cons x t ih => simp only [List.cons_append, leNat, ih, List.length_cons, Nat.pow_succ]; ring

theorem leNat_take (l : List Byte) (n : Nat) (h : n ≤ l.length) : leNat (l.take n) = leNat l % 256 ^ n := by
  have e := leNat_append (l.take n) (l.drop n)
  have hlt := leNat_lt (l.take n)
  rw [List.take_append_drop] at e
  rw [List.length_take, Nat.min_eq_left h] at e hlt
  rw [e, Nat.add_mul_mod_self_left, Nat.mod_eq_of_lt hlt]

theorem leNat_drop (l : List Byte) (n : Nat) (h : n ≤ l.length) : leNat (l.drop n) = leNat l / 256 ^ n := by
  have e := leNat_append (l.take n) (l.drop n)
  have hlt := leNat_lt (l.take n)
  rw [List.take_append_drop] at e
  rw [List.length_take, Nat.min_eq_left h] at e hlt
  rw [e, Nat.add_mul_div_left _ _ (Nat.pow_pos (by decide)), Nat.div_eq_of_lt hlt, Nat.zero_add]

theorem leNat_leBytes (n : Nat) : ∀ v, leNat (leBytes v n) = v % 256 ^ n := by
  induction n with
  | zero => intro v; simp [leBytes, leNat, Nat.mod_one]
  | succ n ih =>
    intro v
    have hb : (BitVec.ofNat 8 v).toNat = v % 256 := BitVec.toNat_ofNat v 8
    simp only [leBytes, leNat, ih, hb]
    rw [Nat.pow_succ', Nat.mod_mul]

theorem bytesToNat_natToBytes (big : Bool) (n v : Nat) : bytesToNat big (natToBytes big n v) = v % 256 ^ n := by
  cases big
  · exact leNat_leBytes n v
  · simp [bytesToNat, natToBytes, leNat_leBytes]

/-- Where the low-order bytes of a word begin that is cut off `k` bytes. -/
def lowStart (big : Bool) (k : Nat) : Nat := if big then k else 0

/-- Where the high-order bytes begin. -/
def highStart (big : Bool) (k : Nat) : Nat := if big then 0 else k

section
variable (l : List Byte) (k : Nat) (hk : k ≤ l.length)
include hk

theorem bytesToNat_low (big : Bool) :
    bytesToNat big ((l.drop (lowStart big k)).take (l.length - k)) = bytesToNat big l % 256 ^ (l.length - k) := by
  cases big
  · exact leNat_take l _ (Nat.sub_le _ _)
  · have hd : (l.drop k).take (l.length - k) = l.drop k := List.take_of_length_le (by simp)
    have h := leNat_take l.reverse (l.length - k) (by simp)
    simp only [bytesToNat, lowStart, if_true, hd]
    rw [← h, List.take_reverse, Nat.sub_sub_self hk]

theorem bytesToNat_high (big : Bool) :
    bytesToNat big ((l.drop (highStart big k)).take (l.length - k)) = bytesToNat big l / 256 ^ k := by
  cases big
  · have hd : (l.drop k).take (l.length - k) = l.drop k := List.take_of_length_le (by simp)
    simp only [bytesToNat, highStart, Bool.false_eq_true, if_false, hd]
    exact leNat_drop l k hk
  · have h := leNat_drop l.reverse k (by simpa using hk)
    simp only [bytesToNat, highStart, if_true, List.drop_zero]
    rw [← h, List.drop_reverse]

/-- A word whose low-order bytes were replaced. -/
theorem bytesToNat_setLow (big : Bool) (v : Nat) (bs : List Byte) (hbs : bs = natToBytes big (l.length - k) v) :
    bytesToNat big (l.take (lowStart big k) ++ bs ++ l.drop (lowStart big k + bs.length)) =
      bytesToNat big l / 256 ^ (l.length - k) * 256 ^ (l.length - k) + v % 256 ^ (l.length - k) := by
  have hv := bytesToNat_natToBytes big (l.length - k) v
  have hlen : bs.length = l.length - k := by rw [hbs, length_natToBytes]
  rw [← hbs] at hv
  rw [hlen]
  cases big
  · have h := leNat_drop l (l.length - k) (Nat.sub_le _ _)
    simp only [bytesToNat, lowStart, Bool.false_eq_true, if_false, List.take_zero, List.nil_append, Nat.zero_add,
      leNat_append, hlen] at hv ⊢
    rw [hv, h]; ring
  · have h := leNat_drop l.reverse (l.length - k) (by simp)
    rw [List.drop_reverse, Nat.sub_sub_self hk] at h
    have hnil : l.drop (k + (l.length - k)) = [] := List.drop_eq_nil_of_le (by omega)
    simp only [bytesToNat, lowStart, if_true, hnil, List.append_nil, List.reverse_append, leNat_append,
      List.length_reverse, hlen] at hv ⊢
    rw [hv, h]; ring

/-- A word whose high-order bytes were replaced. -/
theorem bytesToNat_setHigh (big : Bool) (v : Nat) (bs : List Byte) (hbs : bs = natToBytes big (l.length - k) v) :
    bytesToNat big (l.take (highStart big k) ++ bs ++ l.drop (highStart big k + bs.length)) =
      v % 256 ^ (l.length - k) * 256 ^ k + bytesToNat big l % 256 ^ k := by
  have hv := bytesToNat_natToBytes big (l.length - k) v
  have hlen : bs.length = l.length - k := by rw [hbs, length_natToBytes]
  rw [← hbs] at hv
  rw [hlen]
  cases big
  · have h := leNat_take l k hk
    have hnil : l.drop (k + (l.length - k)) = [] := List.drop_eq_nil_of_le (by omega)
    have hmin : (l.take k).length = k := by simpa using hk
    simp only [bytesToNat, highStart, Bool.false_eq_true, if_false, hnil, List.append_nil, leNat_append, hmin] at hv ⊢
    rw [hv, h]; ring
  · have h := leNat_take l.reverse k (by simpa using hk)
    rw [List.take_reverse] at h
    have hrest : (l.drop (l.length - k)).reverse.length = k := by simp; omega
    simp only [bytesToNat, highStart, if_true, List.take_zero, List.nil_append, Nat.zero_add, List.reverse_append,
      leNat_append, hrest] at hv ⊢
    rw [hv, h]; ring

end

/-! ### Bytes inside a run of memory -/

theorem Memory.readBytes_eq_map (m : List Host.Cell) (n : Nat) :
    ∀ a, Memory.readBytes m a n = (List.range n).map (fun j => Memory.read m (a + j)) := by
  induction n with
  | zero => intro a; rfl
  | succ n ih =>
    intro a
    rw [Memory.readBytes, ih, List.range_succ_eq_map, List.map_cons, List.map_map]
    refine congrArg₂ _ rfl (List.map_congr_left fun j _ => ?_)
    show Memory.read m (a + 1 + j) = Memory.read m (a + (j + 1))
    congr 1; omega

theorem Memory.readBytes_part (m : List Host.Cell) (a i n N : Nat) (h : i + n ≤ N) :
    Memory.readBytes m (a + i) n = ((Memory.readBytes m a N).drop i).take n := by
  rw [Memory.readBytes_eq_map, Memory.readBytes_eq_map]
  refine List.ext_getElem (by simp; omega) fun j h1 h2 => ?_
  simp [Nat.add_assoc]

/-- A run of bytes inside which another was written. -/
theorem Memory.readBytes_writeBytes (m : List Host.Cell) (a i N : Nat) (bs : List Byte) (h : i + bs.length ≤ N) :
    Memory.readBytes (Memory.writeBytes m (a + i) bs) a N =
      (Memory.readBytes m a N).take i ++ bs ++ (Memory.readBytes m a N).drop (i + bs.length) := by
  rw [Memory.readBytes_eq_map, Memory.readBytes_eq_map]
  refine List.ext_getElem (by simp; omega) fun j h1 h2 => ?_
  simp only [List.getElem_map, List.getElem_range, Memory.read_writeBytes]
  have hj : j < N := by simpa using h1
  simp only [List.getElem_append, List.getElem_take, List.getElem_drop, List.getElem_map, List.getElem_range,
    List.length_append, List.length_take, List.length_map, List.length_range, Nat.min_eq_left (by omega : i ≤ N)]
  split_ifs
  any_goals omega
  · have e : a + j - (a + i) = j - i := by omega
    have hg : j - i < bs.length := by omega
    simp [e, List.getD_eq_getElem?_getD, hg]
  · rfl
  · congr 1; omega

/-! ### The aligned word -/

theorem low_bits (va : Word) : va &&& 3 = BitVec.ofNat 32 (va.toNat % 4) := by
  apply BitVec.eq_of_toNat_eq
  rw [BitVec.toNat_and, BitVec.toNat_ofNat]
  have h : va.toNat &&& 3 = va.toNat % 4 := Nat.and_two_pow_sub_one_eq_mod va.toNat 2
  exact h.trans (Nat.mod_eq_of_lt (by omega)).symm

/-- An address is its aligned word's and its place in it. -/
theorem wordAt_add (va : Word) : wordAt va + BitVec.ofNat 32 (va.toNat % 4) = va := by
  have hz : wordAt va &&& (va &&& 3) = 0 := by
    rw [wordAt, BitVec.and_assoc, BitVec.and_comm 0xFFFFFFFC, BitVec.and_assoc va 3,
      show (3 : Word) &&& 0xFFFFFFFC = 0 by decide, show va &&& (0 : Word) = 0 from BitVec.and_zero,
      show va &&& (0 : Word) = 0 from BitVec.and_zero]
  rw [← low_bits, BitVec.add_eq_or_of_and_eq_zero _ _ hz, wordAt, ← BitVec.and_or_distrib_left,
    show (0xFFFFFFFC : Word) ||| 3 = BitVec.allOnes 32 by decide, BitVec.and_allOnes]

theorem unmapped_wordAt_add (va : Word) : unmapped (wordAt va) + BitVec.ofNat 32 (va.toNat % 4) = unmapped va := by
  have h3 : va &&& 3 = unmapped va &&& 3 := by
    rw [unmapped, BitVec.and_assoc, show (0x1FFFFFFF : Word) &&& 3 = 3 by decide]
  have hc : unmapped (wordAt va) = wordAt (unmapped va) := by
    rw [unmapped, wordAt, wordAt, unmapped, BitVec.and_assoc, BitVec.and_assoc, BitVec.and_comm 0xFFFFFFFC]
  have h := wordAt_add (unmapped va)
  rw [← low_bits] at h
  rw [hc, ← low_bits, h3, h]

theorem inKseg1_wordAt (va : Word) : inKseg1 (wordAt va) = inKseg1 va := by
  have h : (wordAt va).extractLsb' 29 3 = va.extractLsb' 29 3 := by
    rw [wordAt, BitVec.extractLsb'_and]
    exact BitVec.and_allOnes
  rw [inKseg1, inKseg1, h]

/-- An access inside the aligned word that kernel code reaches through kseg1, from its byte `i`. -/
theorem reaches_part {s : State} {va : Word} (k : AccKind) (a : DataAccess) (i : Nat)
    (h : s.uncachedAccess k.isStore (wordAt va) 4 = true) (hva : a.va = va)
    (hf : a.first = wordAt va + BitVec.ofNat 32 i) (hi : i + a.size ≤ 4) (hn : 0 < a.size) (ha : a.align = 1)
    (hl : a.linked = false) : s.Reaches k a (unmapped (wordAt va) + BitVec.ofNat 32 i) 2 := by
  obtain ⟨_, _, hv, _, hr, _, _⟩ := (uncachedAccess_iff s k.isStore (wordAt va) 4).1 h
  have hlt : (unmapped (wordAt va)).toNat ≤ 0x1FFFFFFF := by
    unfold unmapped; rw [BitVec.toNat_and]; exact Nat.and_le_right
  refine reaches_kseg1 k a h (by rw [hva, ← inKseg1_wordAt]; exact hv) ?_ hl
    (plainRam_part s _ 4 i a.size hr hi (by omega)) (by rw [ha]; exact Nat.mod_one _) hn (by omega)
  have hu := unmapped_wordAt_add va
  have hw := wordAt_add va
  rw [hva, hf]
  generalize BitVec.ofNat 32 (va.toNat % 4) = d at hu hw
  generalize unmapped (wordAt va) = u at hu ⊢
  rw [← hu]
  bv_omega

theorem unmapped_add_toNat (va : Word) (i : Nat) (hi : i ≤ 4) :
    (unmapped va + BitVec.ofNat 32 i).toNat = (unmapped va).toNat + i := by
  have hlt : (unmapped va).toNat ≤ 0x1FFFFFFF := by
    unfold unmapped; rw [BitVec.toNat_and]; exact Nat.and_le_right
  rw [BitVec.toNat_add, BitVec.toNat_ofNat]; omega

theorem leftSkip_le (big : Bool) (va : Word) : leftSkip big va ≤ 3 := by
  unfold leftSkip; split <;> omega

theorem rightSkip_le (big : Bool) (va : Word) : rightSkip big va ≤ 3 := by
  unfold rightSkip; split <;> omega

theorem leftAccess_first (big : Bool) (va : Word) :
    (leftAccess big va).first = wordAt va + BitVec.ofNat 32 (lowStart big (leftSkip big va)) := by
  cases big
  · exact (BitVec.add_zero (wordAt va)).symm
  · exact (wordAt_add va).symm

theorem rightAccess_first (big : Bool) (va : Word) :
    (rightAccess big va).first = wordAt va + BitVec.ofNat 32 (highStart big (rightSkip big va)) := by
  cases big
  · exact (wordAt_add va).symm
  · exact (BitVec.add_zero (wordAt va)).symm

/-! ### The merges -/

/-- The bits of two numbers put together at bit `n`. -/
theorem splice_bit (a b n i : Nat) :
    (BitVec.ofNat 32 (a * 2 ^ n + b % 2 ^ n)).getLsbD i =
      (decide (i < 32) && if i < n then b.testBit i else a.testBit (i - n)) := by
  rw [BitVec.getLsbD_ofNat, Nat.mul_comm, Nat.testBit_two_pow_mul_add a (Nat.mod_lt _ (Nat.two_pow_pos n))]
  by_cases h : i < n
  · simp [h, Nat.testBit_mod_two_pow]
  · simp [h]

theorem ones_bit (i : Nat) : (~~~0#32).getLsbD i = decide (i < 32) := by
  rw [BitVec.getLsbD_not, BitVec.getLsbD_zero, Bool.not_false, Bool.and_true]

/-- `lwl` merges the low-order bytes of the word into the register (R506). -/
theorem mergeLeft_low (x w : Word) (k : Nat) (hk : k ≤ 3) :
    mergeLeft x (BitVec.ofNat 32 (w.toNat % 256 ^ (4 - k))) k = spliceLeft w x k := by
  have e : 256 ^ (4 - k) = 2 ^ (32 - 8 * k) := by
    rw [show (256 : Nat) = 2 ^ 8 by decide, ← Nat.pow_mul]; congr 1; omega
  apply BitVec.eq_of_getLsbD_eq
  intro i hi
  rw [spliceLeft, splice_bit, mergeLeft, getLsbD_merge, BitVec.getLsbD_shiftLeft, BitVec.getLsbD_shiftLeft,
    ones_bit, BitVec.getLsbD_ofNat, e, Nat.testBit_mod_two_pow, decide_eq_true hi]
  by_cases h : i < 8 * k
  · simp [h, BitVec.getLsbD]
  · have h32 : i - 8 * k < 32 - 8 * k := by omega
    have hlt : i - 8 * k < 32 := by omega
    simp [h, h32, hlt]

/-- `lwr` merges the high-order bytes (R507). -/
theorem mergeRight_high (x w : Word) (k : Nat) (hk : k ≤ 3) :
    mergeRight x (BitVec.ofNat 32 (w.toNat / 256 ^ k)) k = spliceRight x w k := by
  have e : 256 ^ k = 2 ^ (8 * k) := by rw [show (256 : Nat) = 2 ^ 8 by decide, ← Nat.pow_mul]
  have hs : 8 * k ≤ 32 := by omega
  have hlt : w.toNat / 2 ^ (8 * k) < 2 ^ (32 - 8 * k) := by
    rw [Nat.div_lt_iff_lt_mul (Nat.two_pow_pos _), ← Nat.pow_add, Nat.sub_add_cancel hs]
    exact w.isLt
  apply BitVec.eq_of_getLsbD_eq
  intro i hi
  rw [spliceRight, ← Nat.mod_eq_of_lt hlt, splice_bit, mergeRight, getLsbD_merge, BitVec.getLsbD_ushiftRight,
    ones_bit, BitVec.getLsbD_ofNat, e, decide_eq_true hi]
  by_cases h : i < 32 - 8 * k
  · have h2 : 8 * k + i < 32 := by omega
    simp [h, h2]
  · have h2 : ¬ 8 * k + i < 32 := by omega
    have h3 : i - (32 - 8 * k) + (32 - 8 * k) = i := by omega
    simp [h, h2, Nat.testBit_div_two_pow, h3, BitVec.getLsbD]

theorem memWord_toNat (s : State) (pa : Word) : (s.memWord pa).toNat = s.memNat pa 4 := by
  exact (BitVec.toNat_ofNat _ 32).trans (Nat.mod_eq_of_lt (memNat_lt s pa 4))

/-- Settles O16: the bytes of the access are the low-order or the high-order part of the word. -/
theorem partialLoadResults : Obligations.PartialLoadResults := by
  unfold Obligations.PartialLoadResults
  intro base rt off s ha va w h
  obtain ⟨hz, _, _, _, _, hf, hg⟩ := (uncachedAccess_iff s false (wordAt va) 4).1 h
  have heff : s.effAddr base off = va := rfl
  let l := Memory.readBytes s.mem (unmapped (wordAt va)).toNat 4
  have hl : l.length = 4 := Memory.length_readBytes _ _ _
  have hw : bytesToNat s.bigData l = w.toNat := (memWord_toNat s _).symm
  constructor
  · have hk := leftSkip_le s.bigData va
    have hi : lowStart s.bigData (leftSkip s.bigData va) ≤ leftSkip s.bigData va := by
      unfold lowStart; split <;> omega
    have hr : s.Reaches .load (leftAccess s.bigData va) _ 2 := reaches_part .load (leftAccess s.bigData va) _ h rfl
      (leftAccess_first _ _) (by simp only [leftAccess]; omega) (by simp only [leftAccess]; omega) rfl rfl
    obtain ⟨t, ht, result⟩ := finish_loaded s rt (spliceLeft w (s.readGpr rt) (s.skipLeft va)) ha
    refine ⟨t, ?_, result⟩
    have hb := bytesToNat_low l (leftSkip s.bigData va) (by omega) s.bigData
    rw [hl, hw] at hb
    show execLwl base rt off s = _
    simp only [execLwl, heff, bigAccess_eq s hz, loadBytes_uncached hr _ hf hg, Res.andThen, Option.map_some,
      Option.getD_some]
    rw [show (leftAccess s.bigData va).size = 4 - leftSkip s.bigData va from rfl, unmapped_add_toNat _ _ (by omega),
      Memory.readBytes_part _ _ _ _ 4 (by omega), hb, mergeLeft_low _ _ _ hk]
    exact ht
  · have hk := rightSkip_le s.bigData va
    have hi : highStart s.bigData (rightSkip s.bigData va) ≤ rightSkip s.bigData va := by
      unfold highStart; split <;> omega
    have hr : s.Reaches .load (rightAccess s.bigData va) _ 2 := reaches_part .load (rightAccess s.bigData va) _ h rfl
      (rightAccess_first _ _) (by simp only [rightAccess]; omega) (by simp only [rightAccess]; omega) rfl rfl
    obtain ⟨t, ht, result⟩ := finish_loaded s rt (spliceRight (s.readGpr rt) w (s.skipRight va)) ha
    refine ⟨t, ?_, result⟩
    have hb := bytesToNat_high l (rightSkip s.bigData va) (by omega) s.bigData
    rw [hl, hw] at hb
    show execLwr base rt off s = _
    simp only [execLwr, heff, bigAccess_eq s hz, loadBytes_uncached hr _ hf hg, Res.andThen, Option.map_some,
      Option.getD_some]
    rw [show (rightAccess s.bigData va).size = 4 - rightSkip s.bigData va from rfl, unmapped_add_toNat _ _ (by omega),
      Memory.readBytes_part _ _ _ _ 4 (by omega), hb, mergeRight_high _ _ _ hk]
    exact ht

/-! ### The partial stores -/

/-- A store of some bytes inside the aligned word at `p` completes with the word they make. -/
theorem finish_wordStored (s : State) (p pa w : Word) (i : Nat) (bs : List Byte) (h : s.canAdvance = true)
    (hi : i + bs.length ≤ 4) (hp : pa.toNat = p.toNat + i)
    (hw : BitVec.ofNat 32 (bytesToNat s.bigData ((Memory.readBytes s.mem p.toNat 4).take i ++ bs ++
      (Memory.readBytes s.mem p.toNat 4).drop (i + bs.length))) = w) :
    ∃ t, (Res.ok () { s with mem := Memory.writeBytes s.mem pa.toNat bs, llTouched := true }).finish = .next t ∧
      WordStoreResult s t p w := by
  obtain ⟨t, ht, memory, frame, moved⟩ :=
    finish_noResult { s with mem := Memory.writeBytes s.mem pa.toNat bs, llTouched := true } h
  refine ⟨t, ht, ?_, fun a hout => ?_, ?_, moved⟩
  · have hm : t.mem = Memory.writeBytes s.mem pa.toNat bs := by rw [frame]
    have hb : t.bigData = s.bigData := by rw [frame]; rfl
    rw [State.memWord, State.memNat, hb, hm, hp, Memory.readBytes_writeBytes _ _ _ _ _ hi]
    exact hw
  · rw [memory, Memory.read_writeBytes, if_neg (by omega)]
  · rw [frame]

theorem pow_bytes (k : Nat) : 256 ^ k = 2 ^ (8 * k) := by
  rw [show (256 : Nat) = 2 ^ 8 by decide, ← Nat.pow_mul]

/-- The word `swl` leaves, as the rules write it (R511). -/
theorem setLow_eq (w x : Word) (k : Nat) (hk : k ≤ 3) :
    BitVec.ofNat 32 (w.toNat / 256 ^ (4 - k) * 256 ^ (4 - k) + (x >>> (8 * k)).toNat % 256 ^ (4 - k)) =
      spliceRight w x k := by
  have e : 8 * (4 - k) = 32 - 8 * k := by omega
  have hs : 8 * k ≤ 32 := by omega
  have hlt : x.toNat / 2 ^ (8 * k) < 2 ^ (32 - 8 * k) := by
    rw [Nat.div_lt_iff_lt_mul (Nat.two_pow_pos _), ← Nat.pow_add, Nat.sub_add_cancel hs]
    exact x.isLt
  rw [spliceRight, BitVec.toNat_ushiftRight, Nat.shiftRight_eq_div_pow, pow_bytes, e, Nat.mod_eq_of_lt hlt]

/-- The word `swr` leaves (R512). -/
theorem setHigh_eq (w x : Word) (k : Nat) (hk : k ≤ 3) :
    BitVec.ofNat 32 (x.toNat % 256 ^ (4 - k) * 256 ^ k + w.toNat % 256 ^ k) = spliceLeft x w k := by
  apply BitVec.eq_of_toNat_eq
  have e : 2 ^ 32 = 256 ^ (4 - k) * 256 ^ k := by
    rw [← Nat.pow_add, Nat.sub_add_cancel (by omega)]; decide
  rw [spliceLeft, BitVec.toNat_ofNat, BitVec.toNat_ofNat, ← pow_bytes, ← Nat.mul_mod_mul_right, ← e,
    Nat.mod_add_mod]

/-- Settles O18: the bytes stored replace the low-order or the high-order part of the word. -/
theorem partialStoreResults : Obligations.PartialStoreResults := by
  unfold Obligations.PartialStoreResults
  intro base rt off s ha va pa h
  obtain ⟨hz, _, _, _, _, hf, hg⟩ := (uncachedAccess_iff s true (wordAt va) 4).1 h
  have heff : s.effAddr base off = va := rfl
  let l := Memory.readBytes s.mem pa.toNat 4
  have hl : l.length = 4 := Memory.length_readBytes _ _ _
  have hw : bytesToNat s.bigData l = (s.memWord pa).toNat := (memWord_toNat s _).symm
  constructor
  · have hk := leftSkip_le s.bigData va
    have hi : lowStart s.bigData (leftSkip s.bigData va) ≤ leftSkip s.bigData va := by
      unfold lowStart; split <;> omega
    let bs := natToBytes s.bigData (4 - leftSkip s.bigData va) (s.readGpr rt >>> (8 * leftSkip s.bigData va)).toNat
    have hbs : bs.length = 4 - leftSkip s.bigData va := length_natToBytes _ _ _
    have hr : s.Reaches .store (leftAccess s.bigData va) _ 2 := reaches_part .store (leftAccess s.bigData va) _ h rfl
      (leftAccess_first _ _) (by simp only [leftAccess]; omega) (by simp only [leftAccess]; omega) rfl rfl
    have hb := bytesToNat_setLow l (leftSkip s.bigData va) (by omega) s.bigData _ bs (by rw [hl])
    rw [hl, hw] at hb
    obtain ⟨t, ht, result⟩ := finish_wordStored s pa _ _ (lowStart s.bigData (leftSkip s.bigData va)) bs ha
      (by omega) (unmapped_add_toNat _ _ (by omega)) ((congrArg (BitVec.ofNat 32) hb).trans (setLow_eq _ _ _ hk))
    refine ⟨t, ?_, result⟩
    show execSwl base rt off s = _
    simp only [execSwl, heff, bigAccess_eq s hz]
    rw [storeBytes_uncached hr _ _ hbs hg]
    exact ht
  · have hk := rightSkip_le s.bigData va
    have hi : highStart s.bigData (rightSkip s.bigData va) ≤ rightSkip s.bigData va := by
      unfold highStart; split <;> omega
    let bs := natToBytes s.bigData (4 - rightSkip s.bigData va) (s.readGpr rt).toNat
    have hbs : bs.length = 4 - rightSkip s.bigData va := length_natToBytes _ _ _
    have hr : s.Reaches .store (rightAccess s.bigData va) _ 2 := reaches_part .store (rightAccess s.bigData va) _ h rfl
      (rightAccess_first _ _) (by simp only [rightAccess]; omega) (by simp only [rightAccess]; omega) rfl rfl
    have hb := bytesToNat_setHigh l (rightSkip s.bigData va) (by omega) s.bigData _ bs (by rw [hl])
    rw [hl, hw] at hb
    obtain ⟨t, ht, result⟩ := finish_wordStored s pa _ _ (highStart s.bigData (rightSkip s.bigData va)) bs ha
      (by omega) (unmapped_add_toNat _ _ (by omega)) ((congrArg (BitVec.ofNat 32) hb).trans (setHigh_eq _ _ _ hk))
    refine ⟨t, ?_, result⟩
    show execSwr base rt off s = _
    simp only [execSwr, heff, bigAccess_eq s hz]
    rw [storeBytes_uncached hr _ _ hbs hg]
    exact ht

end Sys2Proof.Machine

/-! ## Accesses of the coprocessors, and what a data access raises (obligations O20, O26, O27, O28) -/

namespace Sys2Proof.Machine

/-! ### Runs of bytes -/

theorem Memory.readBytes_append (m : List Host.Cell) (a i n : Nat) :
    Memory.readBytes m a (i + n) = Memory.readBytes m a i ++ Memory.readBytes m (a + i) n := by
  induction i generalizing a with
  | zero => simp [Memory.readBytes]
  | succ i ih =>
    rw [Nat.succ_add, Memory.readBytes, Memory.readBytes, ih, List.cons_append]
    congr 3; omega

theorem Memory.writeBytes_append (bs cs : List Byte) : ∀ (m : List Host.Cell) (a : Nat),
    Memory.writeBytes m a (bs ++ cs) = Memory.writeBytes (Memory.writeBytes m a bs) (a + bs.length) cs := by
  induction bs with
  | nil => intro m a; rfl
  | cons b t ih =>
    intro m a
    rw [List.cons_append, Memory.writeBytes, Memory.writeBytes, ih, List.length_cons]
    congr 1; omega

/-! ### Reads and writes of a number in uncached memory -/

section
variable {s : State} {va : Word} {n : Nat}

/-- `MemRead` through kseg1 gives the number there; an `sc` to come is no longer certain (R230, R251). -/
theorem memRead_uncached (dest : LoadDest) (h : s.uncachedAccess false va n = true) (ha : va.toNat % n = 0)
    (hn : n = 4 ∨ n = 8) :
    s.memRead va n dest = .ok (some (s.memNat (unmapped va) n)) { s with llTouched := true } := by
  obtain ⟨hz, _, _, _, _, hf, hg⟩ := (uncachedAccess_iff s false va n).1 h
  have hload : s.loadBytes (naturalAccess va n) dest =
      .ok (some (Memory.readBytes s.mem (unmapped va).toNat n)) { s with llTouched := true } := by
    rcases hn with rfl | rfl
    · exact loadBytes_uncached (reaches_uncached .load h ha (by decide) (by decide)) dest hf hg
    · rw [loadBytes_plain8 s va dest h ha, show unmapped va + 4 = unmapped va + BitVec.ofNat 32 4 from rfl,
        unmapped_add_toNat va 4 (by decide), ← Memory.readBytes_append]
  unfold State.memRead
  rw [hload, bigAccess_eq s hz]
  rfl

/-- `MemWrite` through kseg1 stores the bytes of the number. -/
theorem memWrite_uncached (x : Nat) (h : s.uncachedAccess true va n = true) (ha : va.toNat % n = 0)
    (hn : n = 4 ∨ n = 8) :
    s.memWrite va n x = .ok ()
      { s with mem := Memory.writeBytes s.mem (unmapped va).toNat (natToBytes s.bigData n x), llTouched := true } := by
  obtain ⟨hz, _, _, _, _, _, hg⟩ := (uncachedAccess_iff s true va n).1 h
  unfold State.memWrite
  rw [bigAccess_eq s hz]
  have hlen := length_natToBytes s.bigData n x
  generalize natToBytes s.bigData n x = bs at hlen ⊢
  rcases hn with rfl | rfl
  · exact storeBytes_uncached (reaches_uncached .store h ha (by decide) (by decide)) _ bs hlen hg
  · rw [storeBytes_plain8 s va _ bs hlen h ha, show unmapped va + 4 = unmapped va + BitVec.ofNat 32 4 from rfl,
      unmapped_add_toNat va 4 (by decide)]
    have hmem := Memory.writeBytes_append (bs.take 4) (bs.drop 4) s.mem (unmapped va).toNat
    rw [List.take_append_drop, List.length_take, hlen] at hmem
    rw [hmem]
    rfl

/-- A store instruction that is a `MemWrite` through kseg1. -/
theorem memWrite_stores (x : Nat) (h : s.uncachedAccess true va n = true) (ha : va.toNat % n = 0)
    (hn : n = 4 ∨ n = 8) (hadv : s.canAdvance = true) :
    ∃ t, (s.memWrite va n x).finish = .next t ∧ StoreResult s t (unmapped va) (natToBytes s.bigData n x) := by
  rw [memWrite_uncached x h ha hn]
  exact finish_stored s (unmapped va) _ hadv

/-! ### FP loads and stores -/

/-- A load of a format through kseg1. -/
theorem fpLoad_uncached {f : FpFmt} {ft : Reg} (h : s.uncachedAccess false va (if f.is64 then 8 else 4) = true)
    (ha : va.toNat % (if f.is64 then 8 else 4) = 0) (hok : s.fmtOk f ft = true) (hadv : s.canAdvance = true) :
    ∃ t, s.fpLoad f ft va = .next t ∧
      FpLoadResult s t f ft (BitVec.ofNat 64 (s.memNat (unmapped va) (if f.is64 then 8 else 4))) := by
  have hz := ((uncachedAccess_iff s false va _).1 h).1
  have hn : (if f.is64 then 8 else 4) = 4 ∨ (if f.is64 then 8 else 4) = 8 := by cases f.is64 <;> simp
  let u : State := { s with llTouched := true }
  let v : DWord := BitVec.ofNat 64 (s.memNat (unmapped va) (if f.is64 then 8 else 4))
  obtain ⟨t, ht, value, control, others, memory, frame, moved⟩ := advance_fprResult u f ft v u.fcsr hadv hz
    ((fmtOk_of_cp0 (s := s) (t := u) hz hz rfl f ft).trans hok)
  have hrun : s.fpLoad f ft va = .next t := by
    unfold State.fpLoad
    rw [needRegs_ok (by simpa using hok), memRead_uncached _ h ha hn]
    exact ht
  have hfr : u.frUse = s.frUse := frUse_of_cp0 hz hz rfl
  rw [hfr] at others
  refine ⟨t, hrun, ?_, others, memory, ?_, moved⟩
  · rw [value]
    cases h64 : f.is64
    · have hlt := memNat_lt s (unmapped va) 4
      apply BitVec.eq_of_toNat_eq
      simp only [v, h64, Bool.false_eq_true, if_false, BitVec.toNat_setWidth, BitVec.toNat_ofNat]
      omega
    · simp only [v, h64, if_true]
  · rw [control] at frame
    exact frame

/-- A store of a format through kseg1. -/
theorem fpStore_uncached {f : FpFmt} {ft : Reg} (h : s.uncachedAccess true va (if f.is64 then 8 else 4) = true)
    (ha : va.toNat % (if f.is64 then 8 else 4) = 0) (hok : s.fmtOk f ft = true) (hadv : s.canAdvance = true) :
    ∃ t, s.fpStore f ft va = .next t ∧
      StoreResult s t (unmapped va) (natToBytes s.bigData (if f.is64 then 8 else 4) (s.readFpr f ft).toNat) := by
  have hn : (if f.is64 then 8 else 4) = 4 ∨ (if f.is64 then 8 else 4) = 8 := by cases f.is64 <;> simp
  obtain ⟨t, ht, result⟩ := memWrite_stores (s.readFpr f ft).toNat h ha hn hadv
  exact ⟨t, (needRegs_ok (by simpa using hok) _).trans ht, result⟩

theorem readFpr_single_toNat (s : State) (r : Reg) : (s.readFpr .single r).toNat = (s.readFprW r).toNat := by
  show ((s.readFprW r).setWidth 64).toNat = _
  exact BitVec.toNat_setWidth_of_le (by decide)

theorem fmtOk_double_of {r : Reg} (h : s.frUse = true ∨ r.getLsbD 0 = false) : s.fmtOk .double r = true := by
  unfold State.fmtOk State.dRegOk
  rcases h with h | h <;> rw [h] <;> simp

end

theorem luxc1_eq {s : State} (h : s.frUse = true) (base index fd : Reg) :
    exec (.luxc1 base index fd) s =
      s.cop1Instr (s.fpLoad .double fd ((s.readGpr base + s.readGpr index) &&& 0xFFFFFFF8)) := by
  show s.cop1Instr (s.needFr1 _) = _
  rw [State.needFr1, if_pos h]
  rfl

theorem suxc1_eq {s : State} (h : s.frUse = true) (base index fs : Reg) :
    exec (.suxc1 base index fs) s =
      s.cop1Instr (s.fpStore .double fs ((s.readGpr base + s.readGpr index) &&& 0xFFFFFFF8)) := by
  show s.cop1Instr (s.needFr1 _) = _
  rw [State.needFr1, if_pos h]
  rfl

/-- Settles O26. -/
theorem fpLoadResults : Obligations.FpLoadResults := by
  unfold Obligations.FpLoadResults
  intro base index ft off s ha hu word double va vx
  have hw : ∀ i va, exec i s = s.cop1Instr (s.fpLoad .single ft va) → word i va := by
    intro i va hi h hal
    rw [hi, cop1Instr_usable hu]
    exact fpLoad_uncached (f := .single) h (mod_four_of_low hal) (fmtOk_single s ft) ha
  have hd : ∀ i va, (s.frUse = true ∨ ft.getLsbD 0 = false) → exec i s = s.cop1Instr (s.fpLoad .double ft va) →
      double i va := by
    intro i va hr hi h hal
    rw [hi, cop1Instr_usable hu]
    exact fpLoad_uncached (f := .double) h (mod_eight_of_low hal) (fmtOk_double_of hr) ha
  exact ⟨hw _ va rfl, hw _ vx rfl, fun hr => ⟨hd _ va hr rfl, hd _ vx hr rfl⟩,
    fun hr => hd _ _ (.inl hr) (luxc1_eq hr base index ft)⟩

/-- Settles O27. -/
theorem fpStoreResults : Obligations.FpStoreResults := by
  unfold Obligations.FpStoreResults
  intro base index ft off s ha hu word double va vx
  have hw : ∀ i va, exec i s = s.cop1Instr (s.fpStore .single ft va) → word i va := by
    intro i va hi h hal
    rw [hi, cop1Instr_usable hu, ← readFpr_single_toNat]
    exact fpStore_uncached (f := .single) h (mod_four_of_low hal) (fmtOk_single s ft) ha
  have hd : ∀ i va, (s.frUse = true ∨ ft.getLsbD 0 = false) → exec i s = s.cop1Instr (s.fpStore .double ft va) →
      double i va := by
    intro i va hr hi h hal
    rw [hi, cop1Instr_usable hu]
    exact fpStore_uncached (f := .double) h (mod_eight_of_low hal) (fmtOk_double_of hr) ha
  exact ⟨hw _ va rfl, hw _ vx rfl, fun hr => ⟨hd _ va hr rfl, hd _ vx hr rfl⟩,
    fun hr => hd _ _ (.inl hr) (suxc1_eq hr base index ft)⟩

/-- Settles O28: the access is a `MemRead` or a `MemWrite`, the rest is the interface's. -/
theorem cop2MemoryResults : Obligations.Cop2MemoryResults := by
  unfold Obligations.Cop2MemoryResults
  intro base rt off s ha hu va m loads
  have heff : s.effAddr base off = va := rfl
  have finish : ∀ c : Nat, ∃ t, (Res.ok () { s with cp2State := c, llTouched := true }).finish = .next t ∧
      MemoryKept s t ∧ Moved s t ∧ t = { s with
        cp2State := c, llTouched := true, pc := t.pc, npc := t.npc, slot := t.slot, hazards := t.hazards } := by
    intro c
    obtain ⟨t, ht, memory, frame, moved⟩ := finish_noResult { s with cp2State := c, llTouched := true } ha
    exact ⟨t, ht, memory, moved, frame⟩
  refine ⟨fun h hal => ?_, fun h hal => ?_, fun h hal => ?_, fun h hal => ?_⟩
  · obtain ⟨t, ht, result⟩ := finish (Config.cp2LoadWord s.cp2State rt (BitVec.ofNat 32 (m 4)))
    refine ⟨t, (cop2Instr_usable hu _).trans ?_, result⟩
    rw [heff, memRead_uncached _ h (mod_four_of_low hal) (.inl rfl)]
    exact ht
  · obtain ⟨t, ht, result⟩ := finish (Config.cp2LoadDouble s.cp2State rt (BitVec.ofNat 64 (m 8)))
    refine ⟨t, (cop2Instr_usable hu _).trans ?_, result⟩
    rw [heff, memRead_uncached _ h (mod_eight_of_low hal) (.inr rfl)]
    exact ht
  · obtain ⟨t, ht, result⟩ := memWrite_stores (Config.cp2StoreWord s.cp2State rt).toNat h (mod_four_of_low hal)
      (.inl rfl) ha
    exact ⟨t, (cop2Instr_usable hu _).trans ht, result⟩
  · obtain ⟨t, ht, result⟩ := memWrite_stores (Config.cp2StoreDouble s.cp2State rt).toNat h (mod_eight_of_low hal)
      (.inr rfl) ha
    exact ⟨t, (cop2Instr_usable hu _).trans ht, result⟩

/-! ### What an access raises

Every load and store of the model runs its checks, then asks for its place; an exception of either is the
instruction's. -/

/-- Instruction `i` raises in `s` what the checks or the place of an access of kind `k` at `va` raise. -/
structure RaisesAccess (i : Instr) (s : State) (k : AccKind) (va : Word) (align : Nat) : Prop where
  access : ∃ a : DataAccess, a.va = va ∧ a.align = align ∧ inDseg a.first = inDseg va ∧
    (∀ e u, (∀ broken, s.dataChecks k.isStore broken a = .exc e u) → exec i s = u.raise e) ∧
    (∀ e u, (∀ broken, s.dataChecks k.isStore broken a = .ok () s) → s.placeOf k a = .exc e u → exec i s = u.raise e)

section
variable {i : Instr} {s : State} {a : DataAccess}

theorem raisesAccess_of_load {α : Type} {dest : LoadDest} (g : Option (List Byte) → State → Res α)
    (hd : inDseg a.first = inDseg a.va) (hi : exec i s = ((s.loadBytes a dest).andThen g).finish) :
    RaisesAccess i s .load a.va a.align := by
  refine ⟨a, rfl, rfl, hd, fun e u hc => ?_, fun e u hc hp => ?_⟩
  · rw [hi, State.loadBytes, show s.dataChecks false true a = .exc e u from hc true]
    rfl
  · rw [hi, State.loadBytes, show s.dataChecks false true a = .ok () s from hc true]
    simp only [Res.andThen, hp]
    rfl

theorem raisesAccess_of_memRead {α : Type} {va : Word} {n : Nat} {dest : LoadDest} (g : Option Nat → State → Res α)
    (hi : exec i s = ((s.memRead va n dest).andThen g).finish) : RaisesAccess i s .load va n := by
  refine raisesAccess_of_load (a := naturalAccess va n) (dest := dest)
    (fun bs s1 => g (bs.map (bytesToNat s.bigAccess)) s1) rfl ?_
  rw [hi, State.memRead]
  cases s.loadBytes (naturalAccess va n) dest <;> rfl

theorem raisesAccess_of_store {α : Type} {whole : Bool} {bs : List Byte} (g : Unit → State → Res α)
    (hd : inDseg a.first = inDseg a.va) (hi : exec i s = ((s.storeBytes a whole bs).andThen g).finish) :
    RaisesAccess i s .store a.va a.align := by
  refine ⟨a, rfl, rfl, hd, fun e u hc => ?_, fun e u hc hp => ?_⟩
  · rw [hi, State.storeBytes, show s.dataChecks true true a = .exc e u from hc true]
    rfl
  · rw [hi, State.storeBytes, show s.dataChecks true true a = .ok () s from hc true]
    simp only [Res.andThen, hp]
    rfl

theorem raisesAccess_of_finish {whole : Bool} {bs : List Byte} (hd : inDseg a.first = inDseg a.va)
    (hi : exec i s = (s.storeBytes a whole bs).finish) : RaisesAccess i s .store a.va a.align := by
  refine raisesAccess_of_store (whole := whole) (bs := bs) (fun _ s1 => .ok () s1) hd ?_
  rw [hi]
  cases s.storeBytes a whole bs <;> rfl

theorem raisesAccess_of_memWrite {va : Word} {n x : Nat} (hi : exec i s = (s.memWrite va n x).finish) :
    RaisesAccess i s .store va n :=
  raisesAccess_of_finish (a := naturalAccess va n) rfl hi

theorem inDseg_wordAt (va : Word) : inDseg (wordAt va) = inDseg va := by
  have h : (wordAt va).extractLsb' 21 11 = va.extractLsb' 21 11 := by
    rw [wordAt, BitVec.extractLsb'_and]
    exact BitVec.and_allOnes
  rw [inDseg, inDseg, h]

theorem leftAccess_dseg (big : Bool) (va : Word) : inDseg (leftAccess big va).first = inDseg va := by
  cases big
  · exact inDseg_wordAt va
  · rfl

theorem rightAccess_dseg (big : Bool) (va : Word) : inDseg (rightAccess big va).first = inDseg va := by
  cases big
  · rfl
  · exact inDseg_wordAt va

/-- An `sc` checks its access whether or not it stores (R514). -/
theorem sc_raisesAccess (base rt : Reg) (off : BitVec 16) (s : State) :
    RaisesAccess (.sc base rt off) s .store (s.readGpr base + off.signExtend 32) 4 := by
  have heff : s.effAddr base off = s.readGpr base + off.signExtend 32 := rfl
  refine ⟨linkedAccess _, rfl, rfl, rfl, fun e u hc => ?_, fun e u hc hp => ?_⟩
  · have hc' : ∀ b, s.dataChecks true b (linkedAccess (s.readGpr base + off.signExtend 32)) = .exc e u := hc
    show execSc base rt off s = _
    simp only [execSc, heff, State.storeBytes, State.scFails, hc', Res.andThen]
    split <;> rfl
  · have hc' : ∀ b, s.dataChecks true b (linkedAccess (s.readGpr base + off.signExtend 32)) = .ok () s := hc
    show execSc base rt off s = _
    simp only [execSc, heff, State.storeBytes, State.scFails, hc', Res.andThen, hp]
    split <;> rfl

end

/-- What holds of each member of a list that is there under a condition. -/
theorem forall_mem_if {α : Type} {c : Bool} {l : List α} {p : α → Prop} (h : c = true → ∀ x ∈ l, p x) :
    ∀ x ∈ (if c then l else []), p x := by
  cases c
  · intro x hx; cases hx
  · exact h rfl

section
variable (base index rt : Reg) (off : BitVec 16) (s : State)

theorem fpLoad_raisesAccess {i : Instr} {f : FpFmt} {va : Word} (hu : s.cp1Usable = true) (hok : s.fmtOk f rt = true)
    (hi : exec i s = s.cop1Instr (s.fpLoad f rt va)) : RaisesAccess i s .load va (if f.is64 then 8 else 4) := by
  refine raisesAccess_of_memRead (dest := .fpr rt) (g := fun v s1 =>
    .ok () (s1.writeFpr f rt ((v.map (BitVec.ofNat 64)).getD (s.failedLoad true ++ s.failedLoad false)))) ?_
  rw [hi, cop1Instr_usable hu]
  exact needRegs_ok (by simpa using hok) _

theorem fpStore_raisesAccess {i : Instr} {f : FpFmt} {va : Word} (hu : s.cp1Usable = true) (hok : s.fmtOk f rt = true)
    (hi : exec i s = s.cop1Instr (s.fpStore f rt va)) : RaisesAccess i s .store va (if f.is64 then 8 else 4) := by
  refine raisesAccess_of_memWrite (x := (s.readFpr f rt).toNat) ?_
  rw [hi, cop1Instr_usable hu]
  exact needRegs_ok (by simpa using hok) _

theorem loads_raiseAccess : ∀ p ∈ s.loads base index rt off, RaisesAccess p.1 s .load p.2.1 p.2.2 := by
  have hreg : ∀ {c : Bool}, (c && (s.frUse || !rt.getLsbD 0)) = true → c = true ∧ s.fmtOk .double rt = true :=
    fun h => (Bool.and_eq_true_iff.1 h).imp id (fun h => h)
  simp only [State.loads, List.forall_mem_append, List.forall_mem_cons]
  refine ⟨⟨⟨⟨⟨?_, ?_, ?_, ?_, ?_, ?_, ?_, ?_, ?_⟩, forall_mem_if fun hu => ?_⟩, forall_mem_if fun hu => ?_⟩,
    forall_mem_if fun hu => ?_⟩, forall_mem_if fun hu => ?_⟩
  · exact raisesAccess_of_memRead _ rfl
  · exact raisesAccess_of_memRead _ rfl
  · exact raisesAccess_of_memRead _ rfl
  · exact raisesAccess_of_memRead _ rfl
  · exact raisesAccess_of_memRead _ rfl
  · exact raisesAccess_of_load (a := leftAccess s.bigAccess _) _ (leftAccess_dseg _ _) rfl
  · exact raisesAccess_of_load (a := rightAccess s.bigAccess _) _ (rightAccess_dseg _ _) rfl
  · exact raisesAccess_of_load (a := linkedAccess _) _ rfl rfl
  · intro x hx; cases hx
  · simp only [List.forall_mem_cons]
    exact ⟨fpLoad_raisesAccess (f := .single) rt s hu rfl rfl, fpLoad_raisesAccess (f := .single) rt s hu rfl rfl,
      fun x hx => nomatch hx⟩
  · obtain ⟨hu, hok⟩ := hreg hu
    simp only [List.forall_mem_cons]
    exact ⟨fpLoad_raisesAccess (f := .double) rt s hu hok rfl, fpLoad_raisesAccess (f := .double) rt s hu hok rfl,
      fun x hx => nomatch hx⟩
  · obtain ⟨hu, hfr⟩ := Bool.and_eq_true_iff.1 hu
    simp only [List.forall_mem_cons]
    exact ⟨fpLoad_raisesAccess (f := .double) rt s hu (fmtOk_double_of (.inl hfr)) (luxc1_eq hfr base index rt),
      fun x hx => nomatch hx⟩
  · simp only [List.forall_mem_cons]
    exact ⟨raisesAccess_of_memRead _ (cop2Instr_usable hu _), raisesAccess_of_memRead _ (cop2Instr_usable hu _),
      fun x hx => nomatch hx⟩

theorem stores_raiseAccess : ∀ p ∈ s.stores base index rt off, RaisesAccess p.1 s .store p.2.1 p.2.2 := by
  have hreg : ∀ {c : Bool}, (c && (s.frUse || !rt.getLsbD 0)) = true → c = true ∧ s.fmtOk .double rt = true :=
    fun h => (Bool.and_eq_true_iff.1 h).imp id (fun h => h)
  simp only [State.stores, List.forall_mem_append, List.forall_mem_cons]
  refine ⟨⟨⟨⟨⟨?_, ?_, ?_, ?_, ?_, ?_, ?_⟩, forall_mem_if fun hu => ?_⟩, forall_mem_if fun hu => ?_⟩,
    forall_mem_if fun hu => ?_⟩, forall_mem_if fun hu => ?_⟩
  · exact raisesAccess_of_memWrite rfl
  · exact raisesAccess_of_memWrite rfl
  · exact raisesAccess_of_memWrite rfl
  · exact raisesAccess_of_finish (a := leftAccess s.bigAccess _) (leftAccess_dseg _ _) rfl
  · exact raisesAccess_of_finish (a := rightAccess s.bigAccess _) (rightAccess_dseg _ _) rfl
  · exact sc_raisesAccess base rt off s
  · intro x hx; cases hx
  · simp only [List.forall_mem_cons]
    exact ⟨fpStore_raisesAccess (f := .single) rt s hu rfl rfl, fpStore_raisesAccess (f := .single) rt s hu rfl rfl,
      fun x hx => nomatch hx⟩
  · obtain ⟨hu, hok⟩ := hreg hu
    simp only [List.forall_mem_cons]
    exact ⟨fpStore_raisesAccess (f := .double) rt s hu hok rfl, fpStore_raisesAccess (f := .double) rt s hu hok rfl,
      fun x hx => nomatch hx⟩
  · obtain ⟨hu, hfr⟩ := Bool.and_eq_true_iff.1 hu
    simp only [List.forall_mem_cons]
    exact ⟨fpStore_raisesAccess (f := .double) rt s hu (fmtOk_double_of (.inl hfr)) (suxc1_eq hfr base index rt),
      fun x hx => nomatch hx⟩
  · simp only [List.forall_mem_cons]
    exact ⟨raisesAccess_of_memWrite (cop2Instr_usable hu _), raisesAccess_of_memWrite (cop2Instr_usable hu _),
      fun x hx => nomatch hx⟩

end

section
variable {i : Instr} {s : State} {k : AccKind} {va : Word} {align : Nat}

/-- A misaligned access raises Address Error (R234). -/
theorem RaisesAccess.misaligned (h : RaisesAccess i s k va align) (hz : s.hazards = [])
    (ht : s.noDataTraps k.isStore = true) (ha : va.toNat % align ≠ 0) :
    exec i s = s.raise (.addrError k.isStore va) := by
  obtain ⟨a, rfl, rfl, _, checks, _⟩ := h.access
  exact checks _ _ (fun b => dataChecks_misaligned s _ b a hz ht ha)

/-- An aligned access outside dseg raises what its translation does (R210). -/
theorem RaisesAccess.untranslated (h : RaisesAccess i s k va align) (hz : s.hazards = [])
    (ht : s.noDataTraps k.isStore = true) (ha : va.toNat % align = 0) (hd : s.outsideDseg va = true) {e : Exc}
    {u : State} (hx : s.translate k va = .exc e u) : exec i s = u.raise e := by
  obtain ⟨a, rfl, rfl, first, _, place⟩ := h.access
  refine place e u (fun b => dataChecks_plain s _ b a hz ht ha) ?_
  have hd' : s.outsideDseg a.first = true := by rw [State.outsideDseg, first]; exact hd
  simp only [State.placeOf, dsegOf_outside s k a.first hd', State.translateData, hx, Res.andThen]

end

/-- Settles O20. -/
theorem misalignedAccessTraps : Obligations.MisalignedAccessTraps := by
  intro base index rt off s hz
  exact ⟨fun ht p hp ha => (loads_raiseAccess base index rt off s p hp).misaligned hz ht ha,
    fun ht p hp ha => (stores_raiseAccess base index rt off s p hp).misaligned hz ht ha⟩

end Sys2Proof.Machine

/-! ## Address translation, and the accesses through it (20_memory.md sections 1 and 2; obligation O53) -/

namespace Sys2Proof.Machine

/-- The top bit of an address is that of its segment number. -/
theorem top_bit (va : Word) : va.getLsbD 31 = (va.extractLsb' 29 3).getLsbD 2 := by
  rw [BitVec.getLsbD_extractLsb']; rfl

section
variable {s : State} {va : Word} {m : Mode} (k : AccKind)

/-- A segment the mode may not touch (R202). -/
theorem translate_denied (hz : s.hazards = []) (hm : s.mode? = some m) (h : mayAccess m va = false) :
    s.translate k va = .exc (.addrError k.isStore va) s := by
  simp only [State.translate, view_eq _ s hz, hm, h, Bool.not_false, if_true]

theorem translate_inKseg0 (hz : s.hazards = []) (hm : s.mode? = some m) (h : mayAccess m va = true)
    (h0 : inKseg0 va = true) : s.translate k va = .ok (va &&& 0x1FFFFFFF, s.cp0.config.extractLsb' 0 3) s := by
  simp only [State.translate, view_eq _ s hz, hm, h, Bool.not_true, Bool.false_eq_true, if_false, h0, if_true]

theorem translate_inKseg1 (hz : s.hazards = []) (hm : s.mode? = some m) (h : mayAccess m va = true)
    (h1 : va.extractLsb' 29 3 = 5) : s.translate k va = .ok (va &&& 0x1FFFFFFF, 2) s := by
  have h0 : inKseg0 va = false := by rw [inKseg0, h1]; decide
  have h1' : inKseg1 va = true := by rw [inKseg1, h1]; decide
  simp only [State.translate, view_eq _ s hz, hm, h, Bool.not_true, Bool.false_eq_true, if_false, h0, h1', if_true]

theorem not_kseg_of_kuseg (h : va.getLsbD 31 = false) : inKseg0 va = false ∧ inKseg1 va = false := by
  rw [top_bit] at h
  have h4 : va.extractLsb' 29 3 ≠ 4 := fun e => by rw [e] at h; exact absurd h (by decide)
  have h5 : va.extractLsb' 29 3 ≠ 5 := fun e => by rw [e] at h; exact absurd h (by decide)
  exact ⟨decide_eq_false h4, decide_eq_false h5⟩

theorem translate_erl (hz : s.hazards = []) (hm : s.mode? = some m) (h : mayAccess m va = true)
    (hu : va.getLsbD 31 = false) (he : s.erl = true) : s.translate k va = .ok (va, 2) s := by
  obtain ⟨h0, h1⟩ := not_kseg_of_kuseg hu
  have hk : inKuseg va = true := by rw [inKuseg, hu]; rfl
  simp only [State.translate, view_eq _ s hz, hm, h, Bool.not_true, Bool.false_eq_true, if_false, h0, h1, hk, he,
    Bool.and_true, if_true]

/-- A mapped address goes through the fixed mapping or the TLB (R205, R211). -/
theorem translate_through (hz : s.hazards = []) (hm : s.mode? = some m) (h : mayAccess m va = true)
    (h0 : inKseg0 va = false) (h1 : inKseg1 va = false) (he : (inKuseg va && s.erl) = false) :
    (s.cfg.mmu = .fmt → s.translate k va =
      if va.getLsbD 31 then .ok (va, s.cp0.config.extractLsb' 28 3) s
      else .ok (va + 0x40000000, s.cp0.config.extractLsb' 25 3) s) ∧
    (s.cfg.mmu = .tlb → s.translate k va = s.tlbLookup s k va) := by
  constructor <;> intro hmmu
  · simp only [State.translate, view_eq _ s hz, hm, h, Bool.not_true, Bool.false_eq_true, if_false, h0, h1, he, hmmu]
    rw [inKuseg]
    cases va.getLsbD 31
    · rw [Bool.not_false, if_pos rfl, if_neg Bool.false_ne_true]
    · rw [Bool.not_true, if_neg Bool.false_ne_true, if_pos rfl]
  · simp only [State.translate, view_eq _ s hz, hm, h, Bool.not_true, Bool.false_eq_true, if_false, h0, h1, he, hmmu]

/-- What one matching entry answers (R212, R213). -/
theorem tlbLookup_one (i : Fin 64) (h : s.onlyMatch i (va.extractLsb' 13 19)) :
    s.tlbLookup s k va =
      if !((s.tlb.get i).page va).v then .exc (.tlbInvalid k.isStore va) s
      else if k = .store && !((s.tlb.get i).page va).d then .exc (.tlbMod va) s
      else .ok ((s.tlb.get i).physical ((s.tlb.get i).page va) va, ((s.tlb.get i).page va).c) s := by
  simp only [State.tlbLookup, matches_one s i _ h]

theorem tlbLookup_none (h : s.noMatch (va.extractLsb' 13 19)) :
    s.tlbLookup s k va = .exc (.tlbRefill k.isStore va) s := by
  simp only [State.tlbLookup, matches_none s _ h]

end

/-- The mapped segments a mode may touch: no unmapped window, and not kuseg under `ERL`. -/
theorem mapped_segment {s : State} {va : Word} {m : Mode} (hm : s.mode? = some m)
    (h : (va.getLsbD 31 = false ∧ s.erl = false) ∨
      ((va.extractLsb' 29 3 = 6 ∨ va.extractLsb' 29 3 = 7) ∧
        (s.mode? = some .kernel ∨ s.mode? = some .debug)) ∨
      (va.extractLsb' 29 3 = 6 ∧ s.mode? = some .supervisor)) :
    mayAccess m va = true ∧ inKseg0 va = false ∧ inKseg1 va = false ∧ (inKuseg va && s.erl) = false := by
  have high : ∀ t, va.extractLsb' 29 3 = t → (t = 6 ∨ t = 7) →
      inKseg0 va = false ∧ inKseg1 va = false ∧ (inKuseg va && s.erl) = false := by
    intro t ht hcase
    have hk : inKuseg va = false := by
      rw [inKuseg, top_bit, ht]; rcases hcase with rfl | rfl <;> decide
    refine ⟨?_, ?_, by rw [hk]; rfl⟩
    · rw [inKseg0, ht]; rcases hcase with rfl | rfl <;> decide
    · rw [inKseg1, ht]; rcases hcase with rfl | rfl <;> decide
  rcases h with ⟨hu, he⟩ | ⟨htop, hmode⟩ | ⟨htop, hmode⟩
  · obtain ⟨h0, h1⟩ := not_kseg_of_kuseg hu
    have hk : inKuseg va = true := by rw [inKuseg, hu]; rfl
    exact ⟨by cases m <;> simp [mayAccess, hk], h0, h1, by rw [he]; exact Bool.and_false _⟩
  · refine ⟨?_, high _ rfl htop⟩
    rw [hm] at hmode
    rcases hmode with h | h <;> cases h <;> rfl
  · refine ⟨?_, high _ rfl (.inl htop)⟩
    rw [hm] at hmode
    cases hmode
    have h2 : inKseg2 va = true := by rw [inKseg2, htop]; decide
    simp [mayAccess, h2]

/-- The first part of O53: the translation itself. -/
theorem translation_spec (s : State) (k : AccKind) (va : Word) (hz : s.hazards = []) :
    let top := va.extractLsb' 29 3
    (s.mode? = some .user → va.getLsbD 31 = true → s.translate k va = .exc (.addrError k.isStore va) s) ∧
    (s.mode? = some .supervisor → va.getLsbD 31 = true → top ≠ 6 → s.translate k va = .exc (.addrError k.isStore va) s) ∧
    (s.mode? = some .kernel ∨ s.mode? = some .debug →
      (top = 4 → s.translate k va = .ok (va &&& 0x1FFFFFFF, s.cp0.config.extractLsb' 0 3) s) ∧
      (top = 5 → s.translate k va = .ok (va &&& 0x1FFFFFFF, 2) s) ∧
      (va.getLsbD 31 = false → s.erl = true → s.translate k va = .ok (va, 2) s)) ∧
    (s.mode? ≠ none → (va.getLsbD 31 = false ∧ s.erl = false) ∨
        ((top = 6 ∨ top = 7) ∧ (s.mode? = some .kernel ∨ s.mode? = some .debug)) ∨
        (top = 6 ∧ s.mode? = some .supervisor) →
      (s.cfg.mmu = .fmt → s.translate k va =
        if va.getLsbD 31 then .ok (va, s.cp0.config.extractLsb' 28 3) s
        else .ok (va + 0x40000000, s.cp0.config.extractLsb' 25 3) s) ∧
      (s.cfg.mmu = .tlb →
        (s.noMatch (va.extractLsb' 13 19) → s.translate k va = .exc (.tlbRefill k.isStore va) s) ∧
        (∀ (i : Fin 64) (n : Nat), n ≤ 8 → (s.tlb.get i).mask = BitVec.ofNat 16 (4 ^ n - 1) →
          s.onlyMatch i (va.extractLsb' 13 19) →
          let p := if va.getLsbD (12 + 2 * n) then (s.tlb.get i).page1 else (s.tlb.get i).page0
          (p.v = false → s.translate k va = .exc (.tlbInvalid k.isStore va) s) ∧
          (p.v = true → p.d = false → k = .store → s.translate k va = .exc (.tlbMod va) s) ∧
          (p.v = true → p.d = true ∨ k ≠ .store →
            ∃ pa, s.translate k va = .ok (pa, p.c) s ∧
              ∀ j, j < 32 → pa.getLsbD j = if j < 12 + 2 * n then va.getLsbD j else p.pfn.getLsbD (j - 12))))) := by
  intro top
  have privileged : s.mode? = some .kernel ∨ s.mode? = some .debug → ∃ m, s.mode? = some m ∧ mayAccess m va = true :=
    fun h => h.elim (fun h => ⟨_, h, rfl⟩) (fun h => ⟨_, h, rfl⟩)
  refine ⟨fun hm hu => translate_denied k hz hm ?_, fun hm hu h6 => translate_denied k hz hm ?_, fun hm => ?_,
    fun hm hseg => ?_⟩
  · simp [mayAccess, inKuseg, hu]
  · have h2 : inKseg2 va = false := decide_eq_false h6
    simp [mayAccess, inKuseg, hu, h2]
  · obtain ⟨m, hm, hacc⟩ := privileged hm
    exact ⟨fun h4 => translate_inKseg0 k hz hm hacc (decide_eq_true h4), translate_inKseg1 k hz hm hacc,
      translate_erl k hz hm hacc⟩
  · obtain ⟨m, hm⟩ := Option.ne_none_iff_exists'.1 hm
    obtain ⟨hacc, h0, h1, he⟩ := mapped_segment hm hseg
    obtain ⟨fixed, tlb⟩ := translate_through k hz hm hacc h0 h1 he
    refine ⟨fixed, fun hmmu => ?_⟩
    rw [tlb hmmu]
    refine ⟨tlbLookup_none k, fun i n hn hmask hone => ?_⟩
    have hpage : (s.tlb.get i).page va =
        if va.getLsbD (12 + 2 * n) then (s.tlb.get i).page1 else (s.tlb.get i).page0 := by
      rw [TlbEntry.page, shift_of _ n hn hmask]
    rw [tlbLookup_one k i hone, hpage]
    intro p
    refine ⟨fun hv => ?_, fun hv hd hk => ?_, fun hv hd => ⟨_, ?_, physical_bits _ p va n hn hmask⟩⟩
    · show (if (!p.v) = true then _ else _) = _
      simp [hv]
    · show (if (!p.v) = true then _ else _) = _
      simp [hv, hd, hk, p]
    · show (if (!p.v) = true then _ else _) = _
      rcases hd with hd | hd <;> simp [hv, hd, p]

section
variable {s u : State} {e : Exc}

theorem synci_raises (base : Reg) (off : BitVec 16) (hd : s.outsideDseg (s.readGpr base + off.signExtend 32) = true)
    (h : s.translate .load (s.readGpr base + off.signExtend 32) = .exc e u) :
    exec (.synci base off) s = u.raise e := by
  have heff : s.effAddr base off = s.readGpr base + off.signExtend 32 := rfl
  show execSynci base off s = _
  simp only [execSynci, heff, dsegOf_outside s .load _ hd, Option.isSome_none, Bool.false_eq_true, if_false, h]
  rfl

theorem cache_raises (base op : Reg) (off : BitVec 16)
    (hd : s.outsideDseg (s.readGpr base + off.signExtend 32) = true)
    (h : s.translate .load (s.readGpr base + off.signExtend 32) = .exc e u) (hu : s.cp0Usable = true)
    (hop : cacheNoOp op = false) : exec (.cache base op off) s = u.raise e := by
  have heff : s.effAddr base off = s.readGpr base + off.signExtend 32 := rfl
  show execCache base op off s = _
  simp only [execCache, hu, Bool.not_true, hop, heff, dsegOf_outside s .load _ hd, Option.isSome_none,
    Bool.false_eq_true, if_false, h]
  rfl

end

/-- Settles O53: the translation, what the accesses raise of it, and where those that pass read and write. -/
theorem addressTranslation : Obligations.AddressTranslation := by
  unfold Obligations.AddressTranslation
  refine ⟨translation_spec, ?_, ?_, ?_⟩
  · intro base index rt off s u e hz va
    exact ⟨fun ht p hp ha hd => (loads_raiseAccess base index rt off s p hp).untranslated hz ht ha hd,
      fun ht p hp ha hd => (stores_raiseAccess base index rt off s p hp).untranslated hz ht ha hd,
      fun hd h => ⟨synci_raises base off hd h, cache_raises base rt off hd h⟩⟩
  · intro base rt off s pa hadv va x
    have loads : ∀ {i n f}, LoadsGpr i s rt va n f → 0 < n → n ≤ 4 →
        (MappedAccess s .load va pa 2 n → s.inputs.failData = false →
          ∃ t, exec i s = .next t ∧ LoadResult s t rt (f (s.memNat pa n))) ∧
        (∀ slot, MappedAccess s .load va pa 3 n → lineBytes s.cfg true ≠ 0 →
          s.dcache.lookup s.cfg true va pa = some slot →
          ∃ t, exec i s = .next t ∧ LoadResult (s.lineUsed slot) t rt (f (s.lineNat slot pa n))) :=
      fun hi hn hs => ⟨fun h hf => hi.uncached pa (reaches_of_mapped h rfl hn hs) hf h.gather,
        fun slot h hl hlook => hi.present pa slot (reaches_of_mapped h rfl hn hs) hl h.gather hlook⟩
    have stores : ∀ {i n}, Stores i s va n x → 0 < n → n ≤ 4 →
        (MappedAccess s .store va pa 2 n →
          ∃ t, exec i s = .next t ∧ StoreResult s t pa (natToBytes s.bigData n x)) ∧
        (∀ slot, MappedAccess s .store va pa 3 n → lineBytes s.cfg true ≠ 0 →
          s.dcache.lookup s.cfg true va pa = some slot →
          ∃ t, exec i s = .next t ∧ NoResult (s.lineWritten slot pa (natToBytes s.bigData n x)) t) :=
      fun hi hn hs => ⟨fun h => hi.uncached pa (reaches_of_mapped h rfl hn hs) h.gather,
        fun slot h hl hlook => hi.present pa slot (reaches_of_mapped h rfl hn hs) hl hlook⟩
    simp only [List.forall_mem_cons, List.not_mem_nil, false_imp_iff, implies_true, and_true]
    exact ⟨⟨loads (lb_loads base rt off s hadv) (by decide) (by decide),
        loads (lbu_loads base rt off s hadv) (by decide) (by decide),
        loads (lh_loads base rt off s hadv) (by decide) (by decide),
        loads (lhu_loads base rt off s hadv) (by decide) (by decide),
        loads (lw_loads base rt off s hadv) (by decide) (by decide)⟩,
      stores (stores_of_memWrite _ s va 1 x hadv rfl) (by decide) (by decide),
      stores (stores_of_memWrite _ s va 2 x hadv rfl) (by decide) (by decide),
      stores (stores_of_memWrite _ s va 4 x hadv rfl) (by decide) (by decide)⟩
  · intro s u e pa hz ht
    exact ⟨fun ha => runNext_exc (fetchWord_misaligned s _ hz ht ha),
      fun ha hd => ⟨fun h => runNext_exc (fetchWord_exc s u _ e hz ht ha hd h),
        fun h he hf hp => runNext_ok (fetchWord_uncached s _ pa hz ht ha hd h he hf hp)⟩⟩

end Sys2Proof.Machine

/-! ## Cache lines, prefetch, `sync` and `synci` (20_memory.md section 7, 43_load_store.md; obligations O22, O23, O24) -/

namespace Sys2Proof.Machine

/-! ### One operation on a line -/

@[simp] theorem Cache.tag_setTag (c : Cache) (slot : Nat) (t : CacheTag) (k : Nat) :
    (c.setTag slot t).tag k = if k = slot then t else c.tag k := sparseGet_set _ _ _ _ _

@[simp] theorem Cache.tag_used (c : Cache) (set k : Nat) : (c.used set).tag k = c.tag k := rfl
@[simp] theorem Cache.data_used (c : Cache) (set : Nat) : (c.used set).data = c.data := rfl
@[simp] theorem Cache.data_setTag (c : Cache) (slot : Nat) (t : CacheTag) : (c.setTag slot t).data = c.data := rfl
@[simp] theorem Cache.tag_setBytes (c : Cache) (line slot off : Nat) (bs : List Byte) (k : Nat) :
    (c.setBytes line slot off bs).tag k = c.tag k := rfl

theorem Memory.getD_readBytes (m : List Host.Cell) (a i n : Nat) (h : i < n) :
    (Memory.readBytes m a n).getD i 0 = Memory.read m (a + i) := by
  rw [Memory.readBytes_eq_map, List.getD_eq_getElem?_getD]
  simp [h]

/-- The slot of a hit holds a valid line with the tag of the address (R521). -/
theorem findWay_tag (c : Cache) (cfg : Cfg) (d : Bool) (set : Nat) (ptag : BitVec 20) (slot : Nat) :
    ∀ n, findWay c cfg d set ptag n = some slot → (c.tag slot).v = true ∧ (c.tag slot).ptag = ptag := by
  intro n
  induction n with
  | zero => intro h; cases h
  | succ n ih =>
    intro h
    rw [findWay] at h
    split at h
    · next w hw => exact ih (hw.trans h)
    · dsimp only at h
      split at h
      · next hv =>
        cases h
        simpa using hv
      · cases h

theorem lookup_valid {c : Cache} {cfg : Cfg} {d : Bool} {va pa : Word} {slot : Nat}
    (h : c.lookup cfg d va pa = some slot) : (c.tag slot).v = true := (findWay_tag c cfg d _ _ slot _ h).1

section
variable (s : State) (slot : Nat)

@[simp] theorem writebackSlot_data : (s.writebackSlot slot).dcache.data = s.dcache.data := by
  simp only [State.writebackSlot]
  split <;> rfl

@[simp] theorem writebackSlot_icache : (s.writebackSlot slot).icache = s.icache := by
  simp only [State.writebackSlot]
  split <;> rfl

@[simp] theorem writebackSlot_cfg : (s.writebackSlot slot).cfg = s.cfg := by
  simp only [State.writebackSlot]
  split <;> rfl

theorem writebackSlot_others (k : Nat) (h : k ≠ slot) : (s.writebackSlot slot).dcache.tag k = s.dcache.tag k := by
  simp only [State.writebackSlot]
  split
  · exact (Cache.tag_setTag _ _ _ _).trans (if_neg h)
  · rfl

/-- A valid line is clean after it was written back. -/
theorem writebackSlot_tag (hv : (s.dcache.tag slot).v = true) :
    (s.writebackSlot slot).dcache.tag slot = { s.dcache.tag slot with d := false } := by
  simp only [State.writebackSlot]
  split
  · exact (Cache.tag_setTag _ _ _ _).trans (if_pos rfl)
  · next h =>
    rw [hv, Bool.true_and, Bool.not_eq_true] at h
    rw [← h]

/-- The memory after a slot was written back (R260). -/
theorem slotWrittenBack_writebackSlot : SlotWrittenBack s (s.writebackSlot slot) slot := by
  intro a
  simp only [State.writebackSlot]
  by_cases h : ((s.dcache.tag slot).v && (s.dcache.tag slot).d) = true
  · rw [if_pos h]
    show Memory.read (physWrite _ _ _ _) a = _
    rw [read_physWrite, Cache.bytes, Memory.length_readBytes]
    by_cases hin : lineAddr s.cfg true slot (s.dcache.tag slot) ≤ a ∧
        a < lineAddr s.cfg true slot (s.dcache.tag slot) + lineBytes s.cfg true ∧ regionAt s.cfg.physMap a = some .ram
    · rw [if_pos hin, if_pos ⟨h, hin⟩, Memory.getD_readBytes _ _ _ _ (by omega), Nat.add_zero]
    · rw [if_neg hin, if_neg (fun hc => hin hc.2)]
  · rw [if_neg h, if_neg (fun hc => h hc.1)]

end

/-- What is written back of a line that is valid. -/
theorem lineWrittenBack_of {s t : State} {slot : Nat} (hv : (s.dcache.tag slot).v = true)
    (hm : SlotWrittenBack s t slot) (hd : t.dcache.data = s.dcache.data)
    (ho : ∀ k, k ≠ slot → t.dcache.tag k = s.dcache.tag k) : LineWrittenBack s t slot where
  dirty h a := by
    have ha := hm a
    simp only [hv, h, Bool.and_self, true_and] at ha
    exact ha
  clean h a := by
    have ha := hm a
    simp only [h, Bool.and_false, Bool.false_eq_true, false_and, if_false] at ha
    exact ha
  data := hd
  others := ho

section
variable (s : State) (d : Bool) (slot : Nat)

@[simp] theorem useSlot_cache (s : State) (d : Bool) (slot : Nat) :
    (s.useSlot d slot).cache d = (s.cache d).used (slot % numSets s.cfg d) := by
  cases d <;> rfl

@[simp] theorem setCache_cache (s : State) (d : Bool) (c : Cache) : (s.setCache d c).cache d = c := by
  cases d <;> rfl

@[simp] theorem setCache_cfg (s : State) (d : Bool) (c : Cache) : (s.setCache d c).cfg = s.cfg := by
  cases d <;> rfl

/-- An invalidated slot. -/
theorem invalidateSlot_tag (k : Nat) : ((s.invalidateSlot d slot).cache d).tag k =
    if k = slot then { (s.cache d).tag slot with v := false, d := false, l := false } else (s.cache d).tag k := by
  rw [State.invalidateSlot, useSlot_cache, setCache_cache, Cache.tag_used, Cache.tag_setTag]

theorem invalidateSlot_data : ((s.invalidateSlot d slot).cache d).data = (s.cache d).data := by
  rw [State.invalidateSlot, useSlot_cache, setCache_cache, Cache.data_used, Cache.data_setTag]

@[simp] theorem invalidateSlot_mem : (s.invalidateSlot d slot).mem = s.mem := by
  cases d <;> rfl

/-- A line written back and removed: its bytes are in memory and the slot is free. -/
theorem removed_line {s : State} {slot : Nat} (hv : (s.dcache.tag slot).v = true) :
    LineWrittenBack s ((s.writebackSlot slot).invalidateSlot true slot) slot ∧
      (((s.writebackSlot slot).invalidateSlot true slot).dcache.tag slot).v = false ∧
      (((s.writebackSlot slot).invalidateSlot true slot).dcache.tag slot).l = false := by
  have htag := invalidateSlot_tag (s.writebackSlot slot) true slot
  have hslot := htag slot
  rw [if_pos rfl] at hslot
  refine ⟨lineWrittenBack_of hv (fun a => ?_) ?_ (fun k hk => ?_), ?_, ?_⟩
  · rw [invalidateSlot_mem]; exact slotWrittenBack_writebackSlot s slot a
  · exact (invalidateSlot_data (s.writebackSlot slot) true slot).trans (writebackSlot_data s slot)
  · exact (htag k).trans ((if_neg hk).trans (writebackSlot_others s slot k hk))
  · exact congrArg CacheTag.v hslot
  · exact congrArg CacheTag.l hslot

end

/-! ### What an access through the data side leaves alone, field by field -/

/-- The state after an access through the data side. -/
theorem SideOnly.frame {s t : State} (h : SideOnly true s t) : t = { s with
    mem := t.mem, gather := t.gather, dcache := t.dcache, dspram := t.dspram, inputs := t.inputs, pendDBE := t.pendDBE,
    choices := t.choices } :=
  congrArg (fun u : State => { u with
    mem := t.mem, gather := t.gather, dcache := t.dcache, dspram := t.dspram, inputs := t.inputs, pendDBE := t.pendDBE,
    choices := t.choices }) h

theorem SideOnly.coreKept {s t : State} (h : SideOnly true s t) : CoreKept s t := by
  rw [h.frame]
  exact ⟨rfl, rfl, rfl, rfl, rfl, rfl, rfl, rfl, rfl, rfl, rfl, rfl⟩

theorem SideOnly.fpr {s t : State} (h : SideOnly true s t) : t.fpr = s.fpr := by rw [h.frame]

/-- The pc advances after an access through the data side. -/
theorem SideOnly.advance {s t : State} (h : SideOnly true s t) (ha : s.canAdvance = true) :
    t.advance = .next { t with pc := s.npc, npc := s.npc + 4, slot := .none, hazards := s.hazardsAfter } := by
  have hadv : t.canAdvance = true := by rw [h.frame]; exact ha
  have hz : t.hazardsAfter = s.hazardsAfter := by rw [h.frame]; rfl
  rw [advance_eq t hadv, hz, h.npc]

/-! ### A computation that raises nothing -/

/-- No exception is the answer. -/
def Res.noExc {α : Type} : Res α → Prop
  | .exc _ _ => False
  | _ => True

theorem Res.noExc.andThen {α β : Type} {r : Res α} {k : α → State → Res β} (h : r.noExc)
    (hk : ∀ a s, (k a s).noExc) : (r.andThen k).noExc := by
  cases r with
  | ok a s => exact hk a s
  | exc e s => exact h
  | wait s => trivial
  | ref q => trivial
  | flt f => trivial

/-- An instruction whose computation raises nothing completes in one of its states, the pc fields apart. -/
theorem Res.noExc.finish {α : Type} {P : State → Prop} {r : Res α} {t : State} (hn : r.noExc) (h : r.All P)
    (ht : r.finish = .next t) : ∃ u, P u ∧ t = { u with pc := t.pc, npc := t.npc, slot := t.slot, hazards := t.hazards } := by
  cases r with
  | ok a u =>
    refine ⟨u, h, ?_⟩
    obtain ⟨-, hu⟩ | ⟨-, hu⟩ := advance_cases u
    · cases hu.symm.trans ht; rfl
    · cases hu.symm.trans ht
  | exc e s => exact hn.elim
  | wait s => cases ht; exact ⟨t, h, rfl⟩
  | ref q => cases ht
  | flt f => cases ht

theorem noExc_busRead (s : State) (fetch : Bool) (pa n : Nat) : (s.busRead fetch pa n).noExc := by
  obtain ⟨-, inp, h⟩ | ⟨-, -, h⟩ | ⟨-, -, -, h⟩ | ⟨-, -, -, h⟩ := busRead_cases s fetch pa n <;> rw [h] <;> trivial

theorem noExc_refill (s : State) (d fetch : Bool) (va pa : Word) (allowed : Nat → Bool) :
    (s.refill d fetch va pa allowed).noExc := by
  unfold State.refill
  split
  · trivial
  · refine (noExc_busRead _ _ _ _).andThen fun bs s1 => ?_
    cases bs <;> trivial

theorem noExc_prefetchLine (s : State) (va pa : Word) (allowed : Nat → Bool) :
    (s.prefetchLine va pa allowed).noExc := by
  unfold State.prefetchLine
  split
  · trivial
  · split
    · trivial
    · exact (noExc_refill _ _ _ _ _ _).andThen fun _ _ => trivial

theorem noExc_prefetch (s : State) (hint : Reg) (va pa : Word) (cca : BitVec 3) :
    (s.prefetch hint va pa cca).noExc := by
  unfold State.prefetch
  split
  · trivial
  · split
    · trivial
    · split
      · trivial
      · split
        · exact noExc_prefetchLine s _ _ _
        · split
          · exact noExc_prefetchLine s _ _ _
          · split
            · exact noExc_prefetchLine s _ _ _
            · trivial

/-! ### Prefetch (R515, R516) -/

/-- A prefetch raises nothing, and keeps to the data side but for the note that an access took place. -/
theorem prefetchAt_quiet (s : State) (hint : Reg) (va : Word) :
    (s.prefetchAt hint va).noExc ∧ (s.prefetchAt hint va).All (SideOnly true { s with llTouched := true } ·) ∨
      s.prefetchAt hint va = .wait s := by
  have hstate := translate_state s .load va
  simp only [State.prefetchAt]
  split
  · exact .inl ⟨trivial, .refl _ _⟩
  · cases ht : s.translate .load va with
    | ok p u => exact .inl ⟨noExc_prefetch _ _ _ _ _, sideOnly_prefetch _ _ _ _ _⟩
    | exc e u => exact .inl ⟨trivial, .refl _ _⟩
    | wait u =>
      rw [ht] at hstate
      exact .inr (congrArg _ hstate)
    | ref q => exact .inl ⟨trivial, trivial⟩
    | flt f => exact .inl ⟨trivial, trivial⟩

theorem prefetch_keeps {s t : State} {hint : Reg} {va : Word} (h : (s.prefetchAt hint va).finish = .next t) :
    t.gpr = s.gpr ∧ t.fpr = s.fpr ∧ t.cp0 = s.cp0 ∧ CoreKept s t := by
  rcases prefetchAt_quiet s hint va with ⟨hn, hside⟩ | hw
  · obtain ⟨u, hu, ht⟩ := hn.finish hside h
    rw [ht]
    exact ⟨hu.gpr, hu.fpr, hu.cp0, hu.coreKept⟩
  · rw [hw] at h
    cases h
    exact ⟨rfl, rfl, rfl, rfl, rfl, rfl, rfl, rfl, rfl, rfl, rfl, rfl, rfl, rfl, rfl⟩

section
variable {s : State} {va : Word}

/-- A prefetch of kernel code through kseg1 runs its effect at the uncached address, or nothing. -/
theorem prefetchAt_kseg1 (hint : Reg) (hz : s.hazards = []) (hm : s.mode? = some .kernel) (hv : inKseg1 va = true) :
    s.prefetchAt hint va =
      if knownHint hint then { s with llTouched := true }.prefetch hint va (unmapped va) 2
      else .ok () { s with llTouched := true } := by
  simp only [State.prefetchAt, dsegOf_not_debug _ _ _ (kernel_not_debug s hm), Option.isSome_none, Bool.or_false,
    translate_kseg1 s .load va hz hm hv]
  cases knownHint hint <;> rfl

/-- On an uncached address a prefetch that nudges no line does nothing. -/
theorem prefetch_nothing (hint : Reg) (hz : s.hazards = []) (hm : s.mode? = some .kernel) (hv : inKseg1 va = true)
    (ha : s.canAdvance = true)
    (h25 : hint = 25 → lineBytes s.cfg true = 0 ∨ s.dcache.lookup s.cfg true va (unmapped va) = none) :
    ∃ t, (s.prefetchAt hint va).finish = .next t ∧ NoResult { s with llTouched := true } t := by
  have hnone : s.prefetchAt hint va = .ok () { s with llTouched := true } := by
    rw [prefetchAt_kseg1 hint hz hm hv]
    split
    · simp only [State.prefetch]
      split
      · rfl
      · split
        · next hh =>
          rcases h25 hh with h | h
          · simp only [h, if_true]; rfl
          · simp only [State.nudge, h, ite_self]; rfl
        · rfl
    · rfl
  rw [hnone]
  exact finish_noResult _ ha

/-- Hint 25 writes a line that is present back and removes it. -/
theorem prefetch_nudge (hz : s.hazards = []) (hm : s.mode? = some .kernel) (hv : inKseg1 va = true)
    (ha : s.canAdvance = true) (hr : s.plainRam (unmapped va) 1 = true) (hl : lineBytes s.cfg true ≠ 0) (slot : Nat)
    (hs : s.dcache.lookup s.cfg true va (unmapped va) = some slot) :
    ∃ t, (s.prefetchAt 25 va).finish = .next t ∧ t.gpr = s.gpr ∧ t.fpr = s.fpr ∧ t.cp0 = s.cp0 ∧ CoreKept s t ∧
      Moved s t ∧ LineWrittenBack s t slot ∧ (t.dcache.tag slot).v = false ∧ (t.dcache.tag slot).l = false := by
  let s0 : State := { s with llTouched := true }
  let u := (s0.writebackSlot slot).invalidateSlot true slot
  have h0 := (plainRam_iff s (unmapped va) 1).1 hr 0 (by decide)
  simp only [BitVec.add_zero] at h0
  have hrun : s.prefetchAt 25 va = .ok () u := by
    rw [prefetchAt_kseg1 25 hz hm hv, if_pos (by decide)]
    simp only [State.prefetch, h0.2.1, h0.2.2, Option.isSome_none, Bool.or_self, Bool.false_eq_true, if_false, if_true,
      if_neg hl, State.nudge, hs]
    rfl
  have hside : SideOnly true s0 u := (sideOnly_writebackSlot s0 slot).trans (sideOnly_invalidateSlot true _ slot)
  have hgone : LineWrittenBack s0 u slot ∧ (u.dcache.tag slot).v = false ∧ (u.dcache.tag slot).l = false :=
    removed_line (s := s0) (slot := slot) (lookup_valid hs)
  obtain ⟨hline, hv', hl'⟩ := hgone
  rw [hrun]
  clear_value u
  exact ⟨_, hside.advance ha, hside.gpr, hside.fpr, hside.cp0, hside.coreKept, ⟨rfl, rfl, rfl, rfl⟩,
    ⟨hline.dirty, hline.clean, hline.data, hline.others⟩, hv', hl'⟩

end

/-- Settles O22. -/
theorem prefetchHasNoResult : Obligations.PrefetchHasNoResult := by
  unfold Obligations.PrefetchHasNoResult
  intro base index hint off s
  have prefx : s.cp1Usable = true → ∀ h, exec (.prefx base index h) s =
      (s.prefetchAt h (s.readGpr base + s.readGpr index)).finish := fun hu h => cop1Instr_usable hu _
  refine ⟨fun t ht => prefetch_keeps ht, fun hu t ht => prefetch_keeps ((prefx hu hint).symm.trans ht),
    fun ha hz hm => ?_⟩
  intro nothing removed va vx
  refine ⟨fun hv h => prefetch_nothing hint hz hm hv ha h,
    fun hv hr hl slot hs => prefetch_nudge hz hm hv ha hr hl slot hs, fun hu => ⟨fun hv h => ?_, fun hv hr hl slot hs => ?_⟩⟩
  · rw [prefx hu]
    exact prefetch_nothing hint hz hm hv ha h
  · rw [prefx hu]
    exact prefetch_nudge hz hm hv ha hr hl slot hs

/-- Settles O23. -/
theorem syncFlushes : Obligations.SyncFlushes := by
  intro stype s ha
  have hadv : s.flushGather.canAdvance = true := by rw [flushGather_eq]; exact ha
  have hz : s.flushGather.hazardsAfter = s.hazardsAfter := by rw [flushGather_eq]; rfl
  refine ⟨_, advance_eq s.flushGather hadv, ?_, ⟨?_, ?_, rfl, hz⟩, ?_, gatherWritten_flushGather s _ rfl⟩
  · rw [flushGather_eq]
  · rw [flushGather_eq]
  · rw [flushGather_eq]
  · rw [flushGather_eq]

/-! ### `synci` (R519) -/

section
variable {s : State} {va pa : Word}

/-- What the instruction side of `synci` leaves of the state the data side left. -/
theorem synciLine_cached (cca : BitVec 3) (hc : (cca = 2 || cca = 7) = false) (hl : lineBytes s.cfg true ≠ 0) (slot : Nat)
    (hs : s.dcache.lookup s.cfg true va pa = some slot) :
    (∃ i z, s.synciLine va pa cca = { s.writebackSlot slot with icache := i, hazards := z }) ∧
    (lineBytes s.cfg false ≠ 0 → ∀ k, s.icache.lookup s.cfg false va pa = some k →
      ((s.synciLine va pa cca).icache.tag k).v = false) := by
  simp only [State.synciLine, hc, Bool.false_eq_true, if_false, if_neg hl, hs, writebackSlot_icache]
  generalize s.writebackSlot slot = w
  constructor
  · split
    · exact ⟨_, _, rfl⟩
    · cases s.icache.lookup s.cfg false va pa with
      | some k => exact ⟨_, _, rfl⟩
      | none => exact ⟨_, _, rfl⟩
  · intro hi k hk
    rw [if_neg hi, hk]
    show ((s.icache.setTag k _).tag k).v = false
    rw [Cache.tag_setTag, if_pos rfl]

end

/-- Settles O24. -/
theorem synciCleansAndInvalidates : Obligations.SynciCleansAndInvalidates := by
  unfold Obligations.SynciCleansAndInvalidates
  intro base off s ha hz hm va
  have hexec : ∀ p, s.translate .load va = .ok p s → exec (.synci base off) s = (s.synciLine va p.1 p.2).advance := by
    intro p hp
    have heff : s.effAddr base off = va := rfl
    show execSynci base off s = _
    simp only [execSynci, heff, dsegOf_not_debug _ _ _ (kernel_not_debug s hm), Option.isSome_none, Bool.false_eq_true,
      if_false, hp]
    rfl
  refine ⟨fun hv => ?_, fun slot h => ?_⟩
  · rw [hexec _ (translate_kseg1 s .load va hz hm hv)]
    exact advance_noResult s ha
  · obtain ⟨_, _, hv, _, _, hl, hk0, hs⟩ := (cachedBytes_iff false).1 h
    have htr := translate_kseg0 s .load va hz hm hv
    rw [hk0] at htr
    obtain ⟨⟨i, z, hu⟩, hik⟩ := synciLine_cached (s := s) 3 (by decide) hl slot hs
    have hw := sideOnly_writebackSlot s slot
    have hadv : (s.synciLine va (unmapped va) 3).canAdvance = true := by
      rw [hu]
      show (s.writebackSlot slot).canAdvance = true
      rw [hw.frame]
      exact ha
    refine ⟨_, (hexec _ htr).trans (advance_eq _ hadv), ?_, ?_, ?_, ?_, ?_, hik⟩
    · rw [hu]; exact hw.npc
    · rw [hu]; exact hw.gpr
    · rw [hu]; exact hw.coreKept
    · rw [hu]; exact writebackSlot_tag s slot (lookup_valid hs)
    · rw [hu]
      exact lineWrittenBack_of (lookup_valid hs) (slotWrittenBack_writebackSlot s slot) (writebackSlot_data s slot)
        (writebackSlot_others s slot)

end Sys2Proof.Machine

/-! ## What a load or store can change, whichever way it goes (obligation O21)

Two invariants run through the parts of an access: `Accessed`, the fields it never touches, and `MemFrom`, what it may
do to a byte of memory outside those it stores. Before the one eviction an access can cause the D-cache is as it was
(`Pending`), so that the line evicted is one of the state before. -/

namespace Sys2Proof.Machine

/-- Going on with what is known of the state so far. -/
theorem Res.All.bind {α β : Type} {P Q : State → Prop} {r : Res α} {k : α → State → Res β} (h : r.All P)
    (hpq : ∀ t, P t → Q t) (hk : ∀ a t, r = .ok a t → P t → (k a t).All Q) : (r.andThen k).All Q := by
  cases r with
  | ok a t => exact hk a t rfl h
  | exc e t => exact hpq t h
  | wait t => exact hpq t h
  | ref q => trivial
  | flt f => trivial

/-! ### Bytes of memory -/

/-- A byte that a run of gathered stores may have written reads as before, or as one of them left it (R244). -/
theorem read_physWriteCells_or (map : List Region) (cs : List Host.Cell) (x : Nat) : ∀ m : List Host.Cell,
    Memory.read (physWriteCells map m cs) x = Memory.read m x ∨ (x, Memory.read (physWriteCells map m cs) x) ∈ cs := by
  induction cs with
  | nil => intro m; exact .inl rfl
  | cons c t ih =>
    intro m
    obtain ⟨a, v⟩ := c
    simp only [physWriteCells]
    rcases ih (physWrite map m a [v]) with h | h
    · rw [h, read_physWrite]
      split
      · next hin =>
        obtain ⟨h1, h2, -⟩ := hin
        simp only [List.length_singleton] at h2
        obtain rfl : x = a := by omega
        right
        simp
      · exact .inl rfl
    · exact .inr (List.mem_cons_of_mem _ h)

theorem mem_sparsePut {α : Type} {l : List (Nat × α)} {k x : Nat} {v w : α} (h : (x, v) ∈ sparsePut l k w) :
    x = k ∨ (x, v) ∈ l := by
  induction l with
  | nil =>
    rw [sparsePut, List.mem_singleton, Prod.mk.injEq] at h
    exact .inl h.1
  | cons p t ih =>
    obtain ⟨k', v'⟩ := p
    simp only [sparsePut] at h
    split at h
    · rcases List.mem_cons.1 h with h | h
      · exact .inr (h ▸ List.mem_cons_self)
      · exact (ih h).imp_right (List.mem_cons_of_mem _)
    · split at h
      · rcases List.mem_cons.1 h with h | h
        · exact .inl (Prod.mk.injEq .. ▸ h).1
        · exact .inr (List.mem_cons_of_mem _ h)
      · rcases List.mem_cons.1 h with h | h
        · exact .inl (Prod.mk.injEq .. ▸ h).1
        · exact .inr h

theorem mem_gatherPut {x : Nat} {v : Byte} (bs : List Byte) : ∀ (cells : List Host.Cell) (a : Nat),
    (x, v) ∈ gatherPut cells a bs → (a ≤ x ∧ x < a + bs.length) ∨ (x, v) ∈ cells := by
  induction bs with
  | nil => intro cells a h; exact .inr h
  | cons b t ih =>
    intro cells a h
    rw [List.length_cons]
    rcases ih _ _ h with h | h
    · exact .inl (by omega)
    · rcases mem_sparsePut h with h | h
      · exact .inl (by omega)
      · exact .inr h

/-- What `MemoryMoved` says of one byte, by its value after the access. -/
def ByteFrom (s : State) (x : Nat) (v : Byte) : Prop :=
  v = Memory.read s.mem x ∨ (∃ g, s.gather = some g ∧ (x, v) ∈ g.cells) ∨
    ∃ slot, (s.dcache.tag slot).v = true ∧ (s.dcache.tag slot).d = true ∧
      lineAddr s.cfg true slot (s.dcache.tag slot) ≤ x ∧
      x < lineAddr s.cfg true slot (s.dcache.tag slot) + lineBytes s.cfg true ∧
      v = Memory.read s.dcache.data
        (slot * lineBytes s.cfg true + (x - lineAddr s.cfg true slot (s.dcache.tag slot)))

/-- `MemoryMoved` of the memory itself. -/
def MemFrom (s : State) (stored : Nat → Prop) (m : List Host.Cell) : Prop :=
  ∀ x : Nat, ¬stored x → ByteFrom s x (Memory.read m x)

/-- A byte outside `stored` is as it was or as a gathered store left it. -/
def GatherSent (s : State) (stored : Nat → Prop) (m : List Host.Cell) : Prop :=
  ∀ x : Nat, ¬stored x → Memory.read m x = Memory.read s.mem x ∨
    ∃ g, s.gather = some g ∧ (x, Memory.read m x) ∈ g.cells

/-- A state of an access that has evicted nothing yet. -/
structure Pending (s : State) (stored : Nat → Prop) (u : State) : Prop where
  cfg : u.cfg = s.cfg
  dcache : u.dcache = s.dcache
  gather : u.gather = s.gather ∨ u.gather = none
  sent : GatherSent s stored u.mem

section
variable {s u t : State} {stored : Nat → Prop} {m : List Host.Cell}

theorem memFrom_refl (s : State) (stored : Nat → Prop) : MemFrom s stored s.mem := fun _ _ => .inl rfl

theorem GatherSent.memFrom (h : GatherSent s stored m) : MemFrom s stored m :=
  fun x hx => (h x hx).imp_right .inl

/-- A write inside `stored`. -/
theorem MemFrom.physWrite (h : MemFrom s stored m) (map : List Region) (a : Nat) (bs : List Byte)
    (hs : ∀ x, a ≤ x → x < a + bs.length → stored x) : MemFrom s stored (physWrite map m a bs) := by
  intro x hx
  have e : Memory.read (Machine.physWrite map m a bs) x = Memory.read m x := by
    rw [read_physWrite, if_neg]
    rintro ⟨h1, h2, -⟩
    exact hx (hs x h1 h2)
  rw [e]
  exact h x hx

theorem GatherSent.physWrite (h : GatherSent s stored m) (map : List Region) (a : Nat) (bs : List Byte)
    (hs : ∀ x, a ≤ x → x < a + bs.length → stored x) : GatherSent s stored (physWrite map m a bs) := by
  intro x hx
  have e : Memory.read (Machine.physWrite map m a bs) x = Memory.read m x := by
    rw [read_physWrite, if_neg]
    rintro ⟨h1, h2, -⟩
    exact hx (hs x h1 h2)
  rw [e]
  exact h x hx

theorem pending_refl (s : State) (stored : Nat → Prop) : Pending s stored s :=
  ⟨rfl, rfl, .inl rfl, fun _ _ => .inl rfl⟩

/-- An update of other fields. -/
theorem Pending.congr (h : Pending s stored u) (hc : t.cfg = u.cfg) (hd : t.dcache = u.dcache)
    (hg : t.gather = u.gather) (hm : t.mem = u.mem) : Pending s stored t :=
  ⟨hc.trans h.cfg, hd.trans h.dcache, by rw [hg]; exact h.gather, by rw [hm]; exact h.sent⟩

theorem Pending.dropChoice (h : Pending s stored u) : Pending s stored u.dropChoice := h.congr rfl rfl rfl rfl

theorem Pending.flushGather (h : Pending s stored u) : Pending s stored u.flushGather := by
  unfold State.flushGather
  cases hg : u.gather with
  | none => exact h
  | some g =>
    refine ⟨h.cfg, h.dcache, .inr rfl, fun x hx => ?_⟩
    have hs : s.gather = some g := (h.gather.resolve_right (by rw [hg]; exact nofun)).symm.trans hg
    rcases read_physWriteCells_or u.cfg.physMap g.cells x u.mem with hr | hr
    · have hsent := h.sent x hx
      rw [← hr] at hsent
      exact hsent
    · exact .inr ⟨g, hs, hr⟩

theorem Pending.flushLine (h : Pending s stored u) (pa : Word) : Pending s stored (u.flushLine pa) := by
  obtain e | e := flushLine_cases u pa <;> rw [e]
  · exact h
  · exact h.flushGather

/-- The eviction of a line leaves its bytes, in the memory as it was sent out. -/
theorem Pending.writeback (h : Pending s stored u) (slot : Nat) : MemFrom s stored (u.writebackSlot slot).mem := by
  intro x hx
  have hw := slotWrittenBack_writebackSlot u slot x
  rw [h.cfg, h.dcache] at hw
  dsimp only at hw
  by_cases hin : ((s.dcache.tag slot).v && (s.dcache.tag slot).d) = true ∧
      lineAddr s.cfg true slot (s.dcache.tag slot) ≤ x ∧
      x < lineAddr s.cfg true slot (s.dcache.tag slot) + lineBytes s.cfg true ∧ regionAt s.cfg.physMap x = some .ram
  · rw [if_pos hin] at hw
    obtain ⟨hvd, h1, h2, -⟩ := hin
    obtain ⟨hv, hd⟩ := Bool.and_eq_true_iff.1 hvd
    exact .inr (.inr ⟨slot, hv, hd, h1, h2, hw⟩)
  · rw [if_neg hin] at hw
    have hsent := h.sent x hx
    rw [← hw] at hsent
    exact hsent.imp_right .inl

theorem pending_busRead (h : Pending s stored u) (fetch : Bool) (pa n : Nat) :
    (u.busRead fetch pa n).All (Pending s stored) := by
  obtain ⟨-, inp, e⟩ | ⟨-, -, e⟩ | ⟨-, -, -, e⟩ | ⟨-, -, -, e⟩ := busRead_cases u fetch pa n <;> rw [e]
  · exact h.congr rfl rfl rfl rfl
  · trivial
  · exact h
  · exact h

theorem memFrom_refill (h : Pending s stored u) (fetch : Bool) (va pa : Word) (allowed : Nat → Bool) :
    (u.refill true fetch va pa allowed).All (fun t => MemFrom s stored t.mem) := by
  unfold State.refill
  split
  · trivial
  · refine Res.All.bind (pending_busRead (h.flushLine pa).dropChoice _ _ _) (fun t ht => ht.sent.memFrom) fun bs t _ ht => ?_
    cases bs with
    | none => exact ht.sent.memFrom
    | some bs => exact ht.writeback _

theorem memFrom_ensureLine (h : Pending s stored u) (fetch : Bool) (va pa : Word) :
    (u.ensureLine true fetch va pa).All (fun t => MemFrom s stored t.mem) := by
  unfold State.ensureLine
  split
  · exact h.sent.memFrom
  · exact memFrom_refill h _ _ _ _

/-- A read stores nothing. -/
theorem memFrom_readPart (s : State) (stored : Nat → Prop) (va pa : Word) (cca : BitVec 3) (n : Nat) :
    (s.readPart va pa cca n).All (fun t => MemFrom s stored t.mem) := by
  have h0 := (pending_refl s stored).flushLine pa
  unfold State.readPart
  split
  · exact memFrom_refl s stored
  · split
    · trivial
    · split
      · refine Res.All.andThen (memFrom_ensureLine h0 _ _ _) fun slot t ht => ?_
        cases slot <;> exact ht
      · refine Res.All.andThen ((pending_busRead h0 _ _ _).mono fun t ht => ht.sent.memFrom) fun bs t ht => ?_
        cases bs <;> exact ht

/-- The state in which the gather buffer takes a store at `pa`: another line was sent out. -/
def State.gatherReady (s : State) (pa : Nat) : State :=
  match s.gather with
  | some g => if g.line = pa - pa % gatherLine s.cfg then s else s.flushGather
  | none => s

/-- The bytes in the gather buffer. -/
def State.gatherCells (s : State) : List Host.Cell :=
  match s.gather with
  | some g => g.cells
  | none => []

theorem gatherStore_eq (s : State) (pa : Nat) (bs : List Byte) : s.gatherStore pa bs =
    let s2 : State := { s.gatherReady pa with
      gather := some ⟨pa - pa % gatherLine s.cfg, gatherPut (s.gatherReady pa).gatherCells pa bs⟩ }
    if pa % gatherLine s.cfg + bs.length = gatherLine s.cfg then s2.flushGather else s2 := rfl

theorem pending_gatherReady (s : State) (stored : Nat → Prop) (pa : Nat) : Pending s stored (s.gatherReady pa) := by
  unfold State.gatherReady
  split
  · split
    · exact pending_refl s stored
    · exact (pending_refl s stored).flushGather
  · exact pending_refl s stored

/-- The gather buffer of an uncached accelerated store takes its bytes, and what it sends out was gathered before or is
stored (R244). -/
theorem memFrom_gatherStore (s : State) (stored : Nat → Prop) (pa : Nat) (bs : List Byte)
    (hs : ∀ x, pa ≤ x → x < pa + bs.length → stored x) : MemFrom s stored (s.gatherStore pa bs).mem := by
  have h1 := pending_gatherReady s stored pa
  rw [gatherStore_eq]
  generalize s.gatherReady pa = s1 at h1 ⊢
  dsimp only
  split
  · intro x hx
    show ByteFrom s x (Memory.read (physWriteCells s1.cfg.physMap s1.mem (gatherPut s1.gatherCells pa bs)) x)
    rcases read_physWriteCells_or s1.cfg.physMap (gatherPut s1.gatherCells pa bs) x s1.mem with hr | hr
    · rw [hr]
      exact (h1.sent x hx).imp_right .inl
    · rcases mem_gatherPut bs _ _ hr with hin | hin
      · exact absurd (hs x hin.1 hin.2) hx
      · generalize Memory.read (physWriteCells s1.cfg.physMap s1.mem (gatherPut s1.gatherCells pa bs)) x = v at hin ⊢
        unfold State.gatherCells at hin
        split at hin
        · next g hg =>
          have hsg : s.gather = some g := (h1.gather.resolve_right (by rw [hg]; exact nofun)).symm.trans hg
          exact .inr (.inl ⟨g, hsg, hin⟩)
        · cases hin
  · exact h1.sent.memFrom

/-- A write stores inside its bytes only. -/
theorem memFrom_writePart (s : State) (stored : Nat → Prop) (va pa : Word) (cca : BitVec 3) (whole : Bool)
    (bs : List Byte) (hs : ∀ x, pa.toNat ≤ x → x < pa.toNat + bs.length → stored x) :
    (s.writePart va pa cca whole bs).All (fun t => MemFrom s stored t.mem) := by
  have h0 := pending_refl s stored
  unfold State.writePart
  split
  · exact memFrom_refl s stored
  · split
    · trivial
    · dsimp only
      split
      · refine Res.All.andThen (memFrom_ensureLine h0 _ _ _) fun slot t ht => ?_
        cases slot with
        | some slot => exact ht
        | none => exact ht.physWrite _ _ _ hs
      · split
        · trivial
        · split
          · split
            · exact memFrom_gatherStore s stored _ _ hs
            · trivial
          · have h1 : Pending s stored { s.flushLine pa with
                mem := physWrite s.cfg.physMap (s.flushLine pa).mem pa.toNat bs } :=
              ⟨(h0.flushLine pa).cfg, (h0.flushLine pa).dcache, (h0.flushLine pa).gather,
                (h0.flushLine pa).sent.physWrite _ _ _ hs⟩
            have h2 := h1.sent.memFrom
            split
            · split
              · exact h2
              · split
                · refine Res.All.andThen (memFrom_refill h1.dropChoice _ _ _ _) fun slot t ht => ?_
                  cases slot <;> exact ht
                · exact h2
            · exact h2

end

/-! ### The fields an access never touches -/

/-- What an access of an integer load or store leaves alone, whatever it does: the state but the memories, the D-cache,
the debug unit, the watch bits, the pending errors, the hazards and the environment's choices. -/
structure Accessed (s t : State) : Prop where
  frame : t = { s with
    mem := t.mem, gather := t.gather, dcache := t.dcache, dspram := t.dspram, inputs := t.inputs, pendDBE := t.pendDBE,
    choices := t.choices, dbg := t.dbg, llTouched := t.llTouched, hazards := t.hazards,
    cp0 := { s.cp0 with watchHi := t.cp0.watchHi, cause := t.cp0.cause } }
  watch : ∀ i : Fin 4, t.cp0.watchHi.get i &&& 0xFFFFFFF8 = s.cp0.watchHi.get i &&& 0xFFFFFFF8
  cause : t.cp0.cause &&& 0xFFBFFFFF = s.cp0.cause &&& 0xFFBFFFFF

theorem Accessed.refl (s : State) : Accessed s s := ⟨rfl, fun _ => rfl, rfl⟩

theorem Accessed.trans {s t u : State} (h : Accessed s t) (h' : Accessed t u) : Accessed s u := by
  refine ⟨h'.frame.trans ?_, fun i => (h'.watch i).trans (h.watch i), h'.cause.trans h.cause⟩
  rw [h.frame]

/-- An update of fields that an access may change. -/
theorem Accessed.of_frame {s t : State} (h : t = { s with
    mem := t.mem, gather := t.gather, dcache := t.dcache, dspram := t.dspram, inputs := t.inputs, pendDBE := t.pendDBE,
    choices := t.choices, dbg := t.dbg, llTouched := t.llTouched, hazards := t.hazards }) : Accessed s t := by
  have hc : t.cp0 = s.cp0 := by rw [h]
  refine ⟨?_, fun i => by rw [hc], by rw [hc]⟩
  rw [hc]
  exact h

theorem SideOnly.accessed {s t : State} (h : SideOnly true s t) : Accessed s t := by
  refine .of_frame ?_
  rw [h.frame]

theorem accessed_recordDBreak (s : State) (ms : List (Fin 2)) : Accessed s (s.recordDBreak ms) := .of_frame rfl

theorem accessed_noteValueBreak (s s1 : State) (store : Bool) (dest : LoadDest) (va : Word) (bs : List Byte) :
    Accessed s1 (s.noteValueBreak s1 store dest va bs) := by
  unfold State.noteValueBreak
  split
  · exact .refl s1
  · exact .of_frame rfl

theorem noteValueBreak_mem (s s1 : State) (store : Bool) (dest : LoadDest) (va : Word) (bs : List Byte) :
    (s.noteValueBreak s1 store dest va bs).mem = s1.mem ∧ (s.noteValueBreak s1 store dest va bs).dspram = s1.dspram := by
  unfold State.noteValueBreak
  split <;> exact ⟨rfl, rfl⟩

theorem watchHi_marked (w : Word) (kind : Nat) (hk : kind ≤ 1) : (w ||| bitAt kind true) &&& 0xFFFFFFF8 = w &&& 0xFFFFFFF8 := by
  have hb : bitAt kind true &&& (0xFFFFFFF8 : Word) = 0 := by
    obtain rfl | rfl : kind = 0 ∨ kind = 1 := by omega
    · decide
    · decide
  rw [BitVec.and_or_distrib_right, hb]
  exact BitVec.or_zero

theorem accessed_markWatch (v s : State) (i : Fin 4) (kind : Nat) (vas : List Word) (hk : kind ≤ 1) :
    Accessed s (v.markWatch s i kind vas) := by
  unfold State.markWatch
  split
  · refine ⟨rfl, fun j => ?_, rfl⟩
    show (s.cp0.watchHi.set i (s.cp0.watchHi.get i ||| bitAt kind true)).get j &&& _ = _
    simp only [Vector.get_eq_getElem, Vector.getElem_set]
    split
    · next hij =>
      obtain rfl : i = j := Fin.ext hij
      exact watchHi_marked _ kind hk
    · rfl
  · exact .refl s

/-- The watchpoint check of a data access marks watch bits only. -/
theorem accessed_checkWatch (s : State) (c : Consumer) (i j : Fin 4) (kind : Nat) (vas : List Word) (hk : kind ≤ 1) :
    (s.checkWatch c i j kind vas).All (Accessed s) := by
  have hm := (accessed_markWatch (s.matchView c) s i kind vas hk).trans
    (accessed_markWatch (s.matchView c) _ j kind vas hk)
  obtain ⟨-, h⟩ | ⟨-, -, h⟩ | ⟨-, -, h⟩ := checkWatch_cases s c i j kind vas <;> rw [h]
  · exact .refl s
  · refine hm.trans ⟨rfl, fun _ => rfl, ?_⟩
    show (_ ||| (0x00400000 : Word)) &&& 0xFFBFFFFF = _
    rw [BitVec.and_or_distrib_right, show (0x00400000 : Word) &&& 0xFFBFFFFF = 0 by decide]
    exact BitVec.or_zero
  · exact hm

/-- What the checks before an access leave of the memories and of the debug unit. -/
def SameMemories (s t : State) : Prop :=
  t.mem = s.mem ∧ t.gather = s.gather ∧ t.dcache = s.dcache ∧ t.dspram = s.dspram

theorem markWatch_same (v s : State) (i : Fin 4) (kind : Nat) (vas : List Word) :
    SameMemories s (v.markWatch s i kind vas) ∧ (v.markWatch s i kind vas).dbg = s.dbg := by
  unfold State.markWatch
  split <;> exact ⟨⟨rfl, rfl, rfl, rfl⟩, rfl⟩

theorem checkWatch_same (s : State) (c : Consumer) (i j : Fin 4) (kind : Nat) (vas : List Word) :
    (s.checkWatch c i j kind vas).All (fun t => SameMemories s t ∧ t.dbg = s.dbg) := by
  obtain ⟨⟨m1, g1, d1, p1⟩, b1⟩ := markWatch_same (s.matchView c) s i kind vas
  obtain ⟨⟨m2, g2, d2, p2⟩, b2⟩ := markWatch_same (s.matchView c) ((s.matchView c).markWatch s i kind vas) j kind vas
  obtain ⟨-, h⟩ | ⟨-, -, h⟩ | ⟨-, -, h⟩ := checkWatch_cases s c i j kind vas <;> rw [h]
  · exact ⟨⟨rfl, rfl, rfl, rfl⟩, rfl⟩
  · exact ⟨⟨m2.trans m1, g2.trans g1, d2.trans d1, p2.trans p1⟩, b2.trans b1⟩
  · exact ⟨⟨m2.trans m1, g2.trans g1, d2.trans d1, p2.trans p1⟩, b2.trans b1⟩

/-- The checks before an access (R236). -/
theorem accessed_dataChecks (s : State) (store broken : Bool) (a : DataAccess) :
    (s.dataChecks store broken a).All (fun t => Accessed s t ∧ SameMemories s t) := by
  unfold State.dataChecks
  generalize (if broken = true then s.preciseBreaks store a.first a.size else []) = ms
  dsimp only
  split
  · exact ⟨accessed_recordDBreak s ms, rfl, rfl, rfl, rfl⟩
  · refine Res.All.andThen ((accessed_checkWatch s _ _ _ _ _ ?_).and (checkWatch_same s _ _ _ _ _)) ?_ |>.mono
      fun t ht => ⟨ht.1, ht.2.1⟩
    · split <;> omega
    · intro _ t ht
      split <;> exact ht

theorem dataChecks_dbg {s t : State} {store broken : Bool} {a : DataAccess}
    (h : s.dataChecks store broken a = .ok () t) : t.dbg = s.dbg := by
  unfold State.dataChecks at h
  generalize (if broken = true then s.preciseBreaks store a.first a.size else []) = ms at h
  dsimp only at h
  split at h
  · cases h
  · have hw := checkWatch_same s .data 2 3 (if store = true then 0 else 1) a.ends
    revert h hw
    cases s.checkWatch .data 2 3 (if store = true then 0 else 1) a.ends with
    | ok x u =>
      intro h hw
      simp only [Res.andThen] at h
      split at h
      · cases h
      · cases h; exact hw.2
    | exc e u => intro h; cases h
    | wait u => intro h; cases h
    | ref q => intro h; cases h
    | flt f => intro h; cases h

/-! ### The debug segment -/

/-- A state of an access to dseg: the memories are as they were. -/
def DsegOnly (s t : State) : Prop := t = { s with dbg := t.dbg, hazards := t.hazards }

theorem DsegOnly.accessed {s t : State} (h : DsegOnly s t) : Accessed s t := by
  refine .of_frame ?_
  rw [h]

theorem DsegOnly.same {s t : State} (h : DsegOnly s t) : SameMemories s t := by
  rw [h]
  exact ⟨rfl, rfl, rfl, rfl⟩

theorem DsegOnly.trans {s t u : State} (h : DsegOnly s t) (h' : DsegOnly t u) : DsegOnly s u := by
  refine Eq.trans h' ?_
  rw [h]

theorem dsegOnly_dsegLoad (s : State) (r : Dseg) (va : Word) (k n : Nat) : (s.dsegLoad r va k n).All (DsegOnly s) := by
  unfold State.dsegLoad State.dmsegRead
  split
  · split
    · rfl
    · split <;> rfl
  · split
    · trivial
    · split
      · trivial
      · rfl

theorem dsegOnly_drsegWrite {s t : State} {va w : Word} (h : s.drsegWrite va w = some t) : DsegOnly s t := by
  simp only [State.drsegWrite] at h
  split at h
  · cases h
  · split at h
    · cases h; rfl
    · split at h
      · cases h; rfl
      · split at h
        · cases h; rfl
        · split at h
          · cases h
          · cases h; rfl

theorem dsegOnly_dsegStore (s : State) (r : Dseg) (va : Word) (k : Nat) (bs : List Byte) :
    (s.dsegStore r va k bs).All (DsegOnly s) := by
  unfold State.dsegStore State.dmsegWrite
  split
  · dsimp only
    split
    · rfl
    · split <;> rfl
  · split
    · trivial
    · split
      · trivial
      · next h => exact dsegOnly_drsegWrite h

theorem dsegOnly_readParts (s : State) (r : Dseg) (va : Word) (n : Nat) : (s.dsegReadParts r va n).All (DsegOnly s) := by
  unfold State.dsegReadParts
  split
  · exact (dsegOnly_dsegLoad s _ _ _ _).andThen fun _ t ht =>
      ((dsegOnly_dsegLoad t _ _ _ _).mono fun u hu => ht.trans hu).andThen fun _ u hu => hu
  · exact dsegOnly_dsegLoad s _ _ _ _

theorem dsegOnly_writeParts (s : State) (r : Dseg) (va : Word) (bs : List Byte) :
    (s.dsegWriteParts r va bs).All (DsegOnly s) := by
  unfold State.dsegWriteParts
  split
  · exact (dsegOnly_dsegStore s _ _ _ _).andThen fun _ t ht =>
      (dsegOnly_dsegStore t _ _ _ _).mono fun u hu => ht.trans hu
  · exact dsegOnly_dsegStore s _ _ _ _

/-! ### The whole access -/

theorem MemFrom.of_same {s s1 : State} {stored : Nat → Prop} {m : List Host.Cell} (h : MemFrom s1 stored m)
    (hs : SameMemories s s1) (hc : s1.cfg = s.cfg) : MemFrom s stored m := by
  obtain ⟨hm, hg, hd, -⟩ := hs
  intro x hx
  have hb := h x hx
  unfold ByteFrom at hb ⊢
  rwa [hm, hg, hd, hc] at hb

theorem Accessed.cfg {s t : State} (h : Accessed s t) : t.cfg = s.cfg := by rw [h.frame]

/-- What a load leaves (R500). -/
def Loaded (s t : State) : Prop := Accessed s t ∧ MemFrom s (fun _ => False) t.mem ∧ t.dspram = s.dspram

theorem dspram_flushLine (s : State) (pa : Word) : (s.flushLine pa).dspram = s.dspram := by
  obtain e | e := flushLine_cases s pa <;> rw [e]
  rw [flushGather_eq]

theorem dspram_busRead (s : State) (fetch : Bool) (pa n : Nat) :
    (s.busRead fetch pa n).All (fun t => t.dspram = s.dspram) := by
  obtain ⟨-, inp, e⟩ | ⟨-, -, e⟩ | ⟨-, -, -, e⟩ | ⟨-, -, -, e⟩ := busRead_cases s fetch pa n <;> rw [e] <;> trivial

theorem dspram_writebackSlot (s : State) (slot : Nat) : (s.writebackSlot slot).dspram = s.dspram := by
  simp only [State.writebackSlot]
  split <;> rfl

theorem dspram_ensureLine (s : State) (fetch : Bool) (va pa : Word) :
    (s.ensureLine true fetch va pa).All (fun t => t.dspram = s.dspram) := by
  unfold State.ensureLine State.refill
  split
  · rfl
  · split
    · trivial
    · refine ((dspram_busRead (s.flushLine pa).dropChoice _ _ _).mono fun t ht =>
        ht.trans (dspram_flushLine s pa)).andThen fun bs t ht => ?_
      cases bs with
      | none => exact ht
      | some bs => exact (dspram_writebackSlot t _).trans ht

/-- A read leaves the DSPRAM as it is. -/
theorem dspram_readPart (s : State) (va pa : Word) (cca : BitVec 3) (n : Nat) :
    (s.readPart va pa cca n).All (fun t => t.dspram = s.dspram) := by
  unfold State.readPart
  split
  · rfl
  · split
    · trivial
    · split
      · refine ((dspram_ensureLine _ _ _ _).mono fun t ht => ht.trans (dspram_flushLine s pa)).andThen
          fun slot t ht => ?_
        cases slot <;> exact ht
      · refine ((dspram_busRead _ _ _ _).mono fun t ht => ht.trans (dspram_flushLine s pa)).andThen fun bs t ht => ?_
        cases bs <;> exact ht

/-- A load of at most a word, whichever way it goes. -/
theorem loaded_loadBytes (s : State) (a : DataAccess) (dest : LoadDest) (h4 : a.size ≤ 4) :
    (s.loadBytes a dest).All (Loaded s) := by
  unfold State.loadBytes
  refine Res.All.bind (accessed_dataChecks s _ _ _) (fun t ht => ⟨ht.1, ?_, ht.2.2.2.2⟩) fun _ s1 _ h1 => ?_
  · rw [ht.2.1]; exact memFrom_refl s _
  · obtain ⟨hacc, hsame⟩ := h1
    have loaded : ∀ t, Accessed s1 t → MemFrom s1 (fun _ => False) t.mem → t.dspram = s1.dspram → Loaded s t :=
      fun t h hm hd => ⟨hacc.trans h, hm.of_same hsame hacc.cfg, hd.trans hsame.2.2.2⟩
    refine Res.All.andThen (P := Loaded s) ?_ fun bs t ht => ?_
    · refine Res.All.bind (placeOf_state s1 _ _) (fun t ht => ?_) fun p t _ ht => ?_
      · rw [ht]; exact loaded s1 (.refl s1) (memFrom_refl s1 _) rfl
      · rw [ht]
        cases p with
        | dseg r =>
          refine Res.All.andThen ((dsegOnly_readParts s1 _ _ _).mono fun u hu => ?_) fun _ u hu => hu
          refine loaded u hu.accessed ?_ hu.same.2.2.2
          rw [hu.same.1]; exact memFrom_refl s1 _
        | phys pa cca =>
          show (s1.readParts _ _ _ _).All _
          have h8 : a.size ≠ 8 := by omega
          rw [State.readParts, if_neg h8]
          exact (((sideOnly_readPart s1 _ _ _ _).and (memFrom_readPart s1 (fun _ => False) _ _ _ _)).and
            (dspram_readPart s1 _ _ _ _)).mono fun u hu => loaded u hu.1.1.accessed hu.1.2 hu.2
    · obtain ⟨ha, hm, hd⟩ := ht
      let t' : State := { t with llTouched := true }
      have hv := noteValueBreak_mem s t' false dest a.first (bs.getD (s.freeBytes 0 a.size))
      refine ⟨(ha.trans (t := t) (u := t') (.of_frame rfl)).trans (accessed_noteValueBreak s t' _ _ _ _), ?_,
        hv.2.trans hd⟩
      rw [hv.1]; exact hm

/-- What a store leaves. -/
def Stored (s : State) (a : DataAccess) (t : State) : Prop := Accessed s t ∧ MemFrom s (s.storesTo a) t.mem

/-- A store of at most a word, whichever way it goes (R500). -/
theorem stored_storeBytes (s : State) (a : DataAccess) (whole : Bool) (bs : List Byte) (hb : bs.length = a.size)
    (h4 : a.size ≤ 4) : (s.storeBytes a whole bs).All (Stored s a) := by
  unfold State.storeBytes
  refine Res.All.bind (accessed_dataChecks s _ _ _) (fun t ht => ⟨ht.1, ?_⟩) fun _ s1 hc h1 => ?_
  · rw [ht.2.1]; exact memFrom_refl s _
  · obtain ⟨hacc, hsame⟩ := h1
    have stored : ∀ t, Accessed s1 t → MemFrom s1 (s.storesTo a) t.mem → Stored s a t :=
      fun t h hm => ⟨hacc.trans h, hm.of_same hsame hacc.cfg⟩
    refine Res.All.andThen (P := Stored s a) ?_ fun _ t ht => ?_
    · refine Res.All.bind (placeOf_state s1 _ _) (fun t ht => ?_) fun p t hp ht => ?_
      · rw [ht]; exact stored s1 (.refl s1) (memFrom_refl s1 _)
      · rw [ht] at hp ⊢
        cases p with
        | dseg r =>
          refine (dsegOnly_writeParts s1 _ _ _).mono fun u hu => ?_
          refine stored u hu.accessed ?_
          rw [hu.same.1]; exact memFrom_refl s1 _
        | phys pa cca =>
          show (s1.writeParts _ _ _ _ _).All _
          have h8 : bs.length ≠ 8 := by omega
          rw [State.writeParts, if_neg h8]
          refine ((sideOnly_writePart s1 _ _ _ _ _).and (memFrom_writePart s1 (s.storesTo a) _ _ _ _ _ ?_)).mono
            fun u hu => stored u hu.1.accessed hu.2
          intro x h1 h2
          exact ⟨s1, pa, cca, s1, hc, hp, h1, by rw [← hb]; exact h2⟩
    · obtain ⟨ha, hm⟩ := ht
      let t' : State := { t with llTouched := true }
      have hv := noteValueBreak_mem s t' true .none a.first bs
      refine ⟨(ha.trans (t := t) (u := t') (.of_frame rfl)).trans (accessed_noteValueBreak s t' _ _ _ _), ?_⟩
      rw [hv.1]; exact hm

/-! ### Waiting for a silent probe (R891) -/

/-- The answer is no wait, unless `p`. -/
def Res.waitsOnly {α : Type} (p : Prop) : Res α → Prop
  | .wait _ => p
  | _ => True

theorem Res.waitsOnly.andThen {α β : Type} {p : Prop} {r : Res α} {k : α → State → Res β} (h : r.waitsOnly p)
    (hk : ∀ a t, r = .ok a t → (k a t).waitsOnly p) : (r.andThen k).waitsOnly p := by
  cases r with
  | ok a t => exact hk a t rfl
  | exc e t => trivial
  | wait t => exact h
  | ref q => trivial
  | flt f => trivial

section
variable {p : Prop} (s : State)

theorem waits_busRead (fetch : Bool) (pa n : Nat) : (s.busRead fetch pa n).waitsOnly p := by
  obtain ⟨-, inp, e⟩ | ⟨-, -, e⟩ | ⟨-, -, -, e⟩ | ⟨-, -, -, e⟩ := busRead_cases s fetch pa n <;> rw [e] <;> trivial

theorem waits_refill (d fetch : Bool) (va pa : Word) (allowed : Nat → Bool) :
    (s.refill d fetch va pa allowed).waitsOnly p := by
  unfold State.refill
  split
  · trivial
  · refine (waits_busRead _ _ _ _).andThen fun bs t _ => ?_
    cases bs <;> trivial

theorem waits_ensureLine (d fetch : Bool) (va pa : Word) : (s.ensureLine d fetch va pa).waitsOnly p := by
  unfold State.ensureLine
  split
  · trivial
  · exact waits_refill s _ _ _ _ _

theorem waits_readPart (va pa : Word) (cca : BitVec 3) (n : Nat) : (s.readPart va pa cca n).waitsOnly p := by
  unfold State.readPart
  split
  · trivial
  · split
    · trivial
    · split
      · refine (waits_ensureLine _ _ _ _ _).andThen fun slot t _ => ?_
        cases slot <;> trivial
      · refine (waits_busRead _ _ _ _).andThen fun bs t _ => ?_
        cases bs <;> trivial

theorem waits_writePart (va pa : Word) (cca : BitVec 3) (whole : Bool) (bs : List Byte) :
    (s.writePart va pa cca whole bs).waitsOnly p := by
  unfold State.writePart
  split
  · trivial
  · split
    · trivial
    · dsimp only
      split
      · refine (waits_ensureLine _ _ _ _ _).andThen fun slot t _ => ?_
        cases slot <;> trivial
      · split
        · trivial
        · split
          · split <;> trivial
          · split
            · split
              · trivial
              · split
                · refine (waits_refill _ _ _ _ _ _).andThen fun slot t _ => ?_
                  cases slot <;> trivial
                · trivial
            · trivial

theorem waits_placeOf (k : AccKind) (a : DataAccess) : (s.placeOf k a).waitsOnly p := by
  have lookup : ∀ v : State, (s.tlbLookup v k a.va).waitsOnly p := by
    intro v
    unfold State.tlbLookup
    split
    · trivial
    · dsimp only
      split
      · trivial
      · split <;> trivial
    · trivial
  have translate : (s.translate k a.va).waitsOnly p := by
    unfold State.translate
    dsimp only
    split
    · trivial
    · split
      · trivial
      · split
        · trivial
        · split
          · trivial
          · split
            · trivial
            · split
              · split <;> trivial
              · exact lookup _
  unfold State.placeOf State.translateData
  split
  · split <;> trivial
  · refine (translate.andThen fun q t _ => ?_).andThen fun _ _ _ => trivial
    split
    · trivial
    · split <;> trivial

theorem waits_dataChecks (store broken : Bool) (a : DataAccess) : (s.dataChecks store broken a).waitsOnly p := by
  unfold State.dataChecks
  generalize (if broken = true then s.preciseBreaks store a.first a.size else []) = ms
  dsimp only
  split
  · trivial
  · refine Res.waitsOnly.andThen ?_ fun _ t _ => ?_
    · obtain ⟨-, h⟩ | ⟨-, -, h⟩ | ⟨-, -, h⟩ := checkWatch_cases s .data 2 3 (if store = true then 0 else 1) a.ends <;>
        rw [h] <;> trivial
    · split <;> trivial

theorem waits_dsegLoad (r : Dseg) (va : Word) (k n : Nat) :
    (s.dsegLoad r va k n).waitsOnly (s.dbg.probeAnswers = false) := by
  unfold State.dsegLoad State.dmsegRead
  split
  · split
    · trivial
    · split
      · next h =>
        have hp : s.dbg.probeAnswers = false := by simpa using h
        exact hp
      · trivial
  · split
    · trivial
    · split <;> trivial

theorem waits_dsegStore (r : Dseg) (va : Word) (k : Nat) (bs : List Byte) :
    (s.dsegStore r va k bs).waitsOnly (s.dbg.probeAnswers = false) := by
  unfold State.dsegStore State.dmsegWrite
  split
  · dsimp only
    split
    · trivial
    · split
      · next h =>
        have hp : s.dbg.probeAnswers = false := by simpa using h
        exact hp
      · trivial
  · split
    · trivial
    · split <;> trivial

end

section
variable (s : State) (a : DataAccess) (h4 : a.size ≤ 4)
include h4

theorem waits_loadBytes (dest : LoadDest) : (s.loadBytes a dest).waitsOnly (s.dbg.probeAnswers = false) := by
  have h8 : a.size ≠ 8 := by omega
  unfold State.loadBytes
  refine (waits_dataChecks s _ _ _).andThen fun _ s1 hc => ?_
  refine ((waits_placeOf s1 _ _).andThen fun p t hp => ?_).andThen fun _ _ _ => trivial
  have ht : t = s1 := by have := placeOf_state s1 .load a; rw [hp] at this; exact this
  rw [ht]
  cases p with
  | dseg r =>
    have hdbg := dataChecks_dbg hc
    refine Res.waitsOnly.andThen ?_ fun _ _ _ => trivial
    rw [State.dsegReadParts, if_neg (by simp [h8]), ← hdbg]
    exact waits_dsegLoad s1 r _ 1 _
  | phys pa cca =>
    show (s1.readParts _ _ _ _).waitsOnly _
    rw [State.readParts, if_neg h8]
    exact waits_readPart s1 _ _ _ _

theorem waits_storeBytes (whole : Bool) (bs : List Byte) (hb : bs.length = a.size) :
    (s.storeBytes a whole bs).waitsOnly (s.dbg.probeAnswers = false) := by
  have h8 : bs.length ≠ 8 := by omega
  unfold State.storeBytes
  refine (waits_dataChecks s _ _ _).andThen fun _ s1 hc => ?_
  refine ((waits_placeOf s1 _ _).andThen fun p t hp => ?_).andThen fun _ _ _ => trivial
  have ht : t = s1 := by have := placeOf_state s1 .store a; rw [hp] at this; exact this
  rw [ht]
  cases p with
  | dseg r =>
    have hdbg := dataChecks_dbg hc
    show (s1.dsegWriteParts _ _ _).waitsOnly _
    rw [State.dsegWriteParts, if_neg (by simp [h8]), ← hdbg]
    exact waits_dsegStore s1 r _ 1 _
  | phys pa cca =>
    show (s1.writeParts _ _ _ _ _).waitsOnly _
    rw [State.writeParts, if_neg h8]
    exact waits_writePart s1 _ _ _ _ _

end

/-! ### How the instruction ends -/

/-- Taking an exception counts it. -/
theorem raise_excCount (u : State) (e : Exc) : Next (fun t => t.excCount = u.excCount + 1) (u.raise e) := by
  have entered : ∀ vec, (u.enterAt vec).excCount = u.excCount + 1 := fun vec => by rw [enterAt_eq]
  have general : ∀ e, Next (fun t => t.excCount = u.excCount + 1) (u.takeGeneral e) := by
    intro e
    unfold State.takeGeneral
    split
    · trivial
    · next off set _ =>
      cases set with
      | none => exact entered (u.entryPoint off)
      | some n =>
        dsimp only
        split
        · trivial
        · exact entered (u.entryPoint off)
  unfold State.raise
  split
  · exact entered u.debugVector
  · cases e with
    | debug causes => exact entered u.debugVector
    | sdbbp => exact entered u.debugVector
    | cacheError => simp only [State.takeCacheError, Next, entered]
    | _ => exact general _

/-- A computation that ended without an exception: the pc advanced, or the instruction waits. -/
theorem finish_cases {α : Type} {P : State → Prop} {p : Prop} {r : Res α} {t : State} {n : Nat} (h : r.All P)
    (hw : r.waitsOnly p) (hn : ∀ u, P u → u.excCount = n) (ht : r.finish = .next t) (he : t.excCount = n) :
    (∃ a u, r = .ok a u ∧ P u ∧ u.advance = .next t) ∨ (P t ∧ p) := by
  cases r with
  | ok a u => exact .inl ⟨a, u, rfl, h, ht⟩
  | exc e u =>
    have hx := raise_excCount u e
    rw [show u.raise e = .next t from ht] at hx
    have hu := hn u h
    have hx' : t.excCount = u.excCount + 1 := hx
    omega
  | wait u => cases ht; exact .inr ⟨h, hw⟩
  | ref q => cases ht
  | flt f => cases ht

theorem Accessed.excCount {s t : State} (h : Accessed s t) : t.excCount = s.excCount := by rw [h.frame]
theorem Accessed.gpr {s t : State} (h : Accessed s t) : t.gpr = s.gpr := by rw [h.frame]

/-- The frame of an access, with the pc fields of the end of its instruction and another value in a register. -/
theorem Accessed.accessFrame {s u t : State} (h : Accessed s u)
    (ht : t = { u with gpr := t.gpr, pc := t.pc, npc := t.npc, slot := t.slot, hazards := t.hazards })
    (hc : Went s t ∨ Waits s t) : AccessFrame s t := by
  have hcp : t.cp0 = u.cp0 := by rw [ht]
  have hcore : CoreKept s t := by
    rw [ht, h.frame]
    exact ⟨rfl, rfl, rfl, rfl, rfl, rfl, rfl, rfl, rfl, rfl, rfl, rfl⟩
  refine ⟨hcore, ?_, fun i => by rw [hcp]; exact h.watch i, by rw [hcp]; exact h.cause, ?_, ?_, ?_, hc⟩
  · rw [hcp, h.frame]
  · rw [ht, h.frame]; exact ⟨rfl, rfl⟩
  · rw [ht, h.frame]; exact ⟨rfl, rfl⟩
  · rw [ht, h.frame]; exact ⟨rfl, rfl⟩

/-- The instruction waits where its access does (R891). -/
theorem Accessed.waits {s t : State} (h : Accessed s t) (hp : s.dbg.probeAnswers = false) : Waits s t := by
  rw [h.frame]
  exact ⟨hp, rfl, rfl, rfl, rfl⟩

theorem Accessed.went {s u t : State} (h : Accessed s u)
    (ht : t = { u with gpr := t.gpr, pc := u.npc, npc := u.npc + 4, slot := .none, hazards := t.hazards }) : Went s t := by
  rw [ht, h.frame]
  exact ⟨rfl, rfl, rfl⟩

theorem MemFrom.moved {s t u : State} {stored : Nat → Prop} (h : MemFrom s stored u.mem) (ht : t.mem = u.mem) :
    MemoryMoved s t stored := by
  intro x hx
  have hb := h x hx
  rw [← ht] at hb
  exact hb

/-- The frame of a load of at most a word into a general register. -/
theorem load_frame {i : Instr} {s t : State} {a : DataAccess} {dest : LoadDest} {rt : Reg}
    (f : Option (List Byte) → Word) (h4 : a.size ≤ 4)
    (hi : exec i s = ((s.loadBytes a dest).andThen fun bs s1 => .ok () (s1.writeGpr rt (f bs))).finish)
    (ht : exec i s = .next t) (he : t.excCount = s.excCount) :
    OtherGprsKept s t rt ∧ AccessFrame s t ∧ MemoryMoved s t (fun _ => False) ∧ t.dspram = s.dspram := by
  have hfin : (s.loadBytes a dest).finish = .next t ∧ (∀ bs u, s.loadBytes a dest ≠ .ok bs u) ∨
      ∃ bs u, s.loadBytes a dest = .ok bs u ∧ (u.writeGpr rt (f bs)).advance = .next t := by
    rw [hi] at ht
    cases hl : s.loadBytes a dest with
    | ok bs u => rw [hl] at ht; exact .inr ⟨bs, u, rfl, ht⟩
    | exc e u => rw [hl] at ht; exact .inl ⟨ht, fun _ _ => nofun⟩
    | wait u => rw [hl] at ht; exact .inl ⟨ht, fun _ _ => nofun⟩
    | ref q => rw [hl] at ht; cases ht
    | flt q => rw [hl] at ht; cases ht
  have hall := loaded_loadBytes s a dest h4
  rcases hfin with ⟨hf, hno⟩ | ⟨bs, u, hl, hadv⟩
  · rcases finish_cases hall (waits_loadBytes s a h4 dest) (fun u hu => hu.1.excCount) hf he with
      ⟨bs, u, hl, -⟩ | ⟨⟨hacc, hmem, hd⟩, hp⟩
    · exact absurd hl (hno bs u)
    · refine ⟨fun set q _ => readSet_of_gpr hacc.gpr set q, hacc.accessFrame rfl (.inr (hacc.waits hp)),
        hmem.moved rfl, hd⟩
  · rw [hl] at hall
    obtain ⟨hacc, hmem, hd⟩ : Loaded s u := hall
    obtain ⟨-, hu⟩ | ⟨-, hu⟩ := advance_cases (u.writeGpr rt (f bs))
    · cases hu.symm.trans hadv
      have hg := writeGpr_gpr_only u rt (f bs)
      generalize (f bs) = v at hg ⊢
      have hcur : u.curSet = s.curSet := by rw [hacc.frame]; rfl
      refine ⟨fun set q hq => ?_, hacc.accessFrame ?_ (.inl (hacc.went ?_)), hmem.moved ?_, ?_⟩
      · have hw := readSet_writeSet u u.curSet set rt q v
        show (u.writeGpr rt v).readSet set q = _
        unfold State.writeGpr
        rw [hw, hcur, readSet_of_gpr hacc.gpr]
        by_cases h0 : q = 0
        · simp [h0]
        · rw [if_neg h0, if_neg hq]
      · rw [hg]
      · rw [hg]
      · rw [hg]
      · show (u.writeGpr rt v).dspram = _
        rw [hg]; exact hd
    · cases hu.symm.trans hadv

/-- The frame of a store of at most a word. -/
theorem store_frame {i : Instr} {s t : State} {a : DataAccess} {whole : Bool} {bs : List Byte}
    (hb : bs.length = a.size) (h4 : a.size ≤ 4) (hi : exec i s = (s.storeBytes a whole bs).finish)
    (ht : exec i s = .next t) (he : t.excCount = s.excCount) :
    t.gpr = s.gpr ∧ AccessFrame s t ∧ MemoryMoved s t (s.storesTo a) := by
  rw [hi] at ht
  rcases finish_cases (stored_storeBytes s a whole bs hb h4) (waits_storeBytes s a h4 whole bs hb)
    (fun u hu => hu.1.excCount) ht he with ⟨_, u, -, ⟨hacc, hmem⟩, hadv⟩ | ⟨⟨hacc, hmem⟩, hp⟩
  · obtain ⟨-, hu⟩ | ⟨-, hu⟩ := advance_cases u
    · cases hu.symm.trans hadv
      exact ⟨hacc.gpr, hacc.accessFrame rfl (.inl (hacc.went rfl)), hmem.moved rfl⟩
    · cases hu.symm.trans hadv
  · exact ⟨hacc.gpr, hacc.accessFrame rfl (.inr (hacc.waits hp)), hmem.moved rfl⟩

theorem loadGpr_eq (s : State) (rt : Reg) (va : Word) (n : Nat) (f : Nat → Word) : s.loadGpr rt va n f =
    ((s.loadBytes (naturalAccess va n) (s.gprDest rt)).andThen fun bs s1 =>
      .ok () (s1.writeGpr rt (((bs.map (bytesToNat s.bigAccess)).map f).getD (s.failedLoad false)))).finish := by
  unfold State.loadGpr State.memRead
  cases s.loadBytes (naturalAccess va n) (s.gprDest rt) <;> rfl

/-- Settles O21. -/
theorem loadStoreFrame : Obligations.LoadStoreFrame := by
  unfold Obligations.LoadStoreFrame
  intro base rt off s t va
  have small : ∀ {big : Bool}, (leftAccess big va).size ≤ 4 ∧ (rightAccess big va).size ≤ 4 :=
    ⟨Nat.sub_le _ _, Nat.sub_le _ _⟩
  constructor
  · simp only [List.forall_mem_cons, List.not_mem_nil, false_imp_iff, implies_true, and_true]
    refine ⟨load_frame _ ?_ (loadGpr_eq s rt va 1 _), load_frame _ ?_ (loadGpr_eq s rt va 1 _),
      load_frame _ ?_ (loadGpr_eq s rt va 2 _), load_frame _ ?_ (loadGpr_eq s rt va 2 _),
      load_frame _ ?_ (loadGpr_eq s rt va 4 _), load_frame _ small.1 rfl, load_frame _ small.2 rfl⟩
    all_goals simp [naturalAccess]
  · simp only [List.forall_mem_cons, List.not_mem_nil, false_imp_iff, implies_true, and_true]
    refine ⟨store_frame (length_natToBytes _ _ _) ?_ rfl, store_frame (length_natToBytes _ _ _) ?_ rfl,
      store_frame (length_natToBytes _ _ _) ?_ rfl, store_frame (length_natToBytes _ _ _) small.1 rfl,
      store_frame (length_natToBytes _ _ _) small.2 rfl⟩
    all_goals simp [naturalAccess]

end Sys2Proof.Machine

/-! ## Code without coprocessor 0 (60_exceptions.md section 1; obligation O42)

Where coprocessor 0 is not usable the core is in no debug mode and at no exception level. The instructions of coprocessor
0 raise; each of the others keeps what `UserKeeps` says, or counts an exception. -/

namespace Sys2Proof.Machine

/-- What code without coprocessor 0 cannot change. -/
structure UserKeeps (s u : State) : Prop where
  cp0 : u.cp0 = s.cp0
  tlb : u.tlb = s.tlb
  cfg : u.cfg = s.cfg
  dcr : u.dbg.dcr = s.dbg.dcr
  count : u.excCount = s.excCount
  sets : ∀ (set : BitVec 4) (r : Reg), set ≠ s.curSet → u.readSet set r = s.readSet set r

/-- An instruction that takes no exception keeps it. -/
abbrev UserStep (s : State) (o : Out) : Prop := Next (fun t => t.excCount = s.excCount → UserKeeps s t) o

/-- A computation that keeps it, unless it raises. -/
def Res.User {α : Type} (s : State) : Res α → Prop
  | .ok _ u => UserKeeps s u
  | .exc _ u => u.excCount = s.excCount
  | .wait u => UserKeeps s u
  | .ref _ => True
  | .flt _ => True

section
variable {s t u : State}

theorem UserKeeps.refl (s : State) : UserKeeps s s := ⟨rfl, rfl, rfl, rfl, rfl, fun _ _ _ => rfl⟩

theorem UserKeeps.curSet (h : UserKeeps s t) : t.curSet = s.curSet := by
  unfold State.curSet State.css
  rw [h.cp0, h.cfg]

theorem UserKeeps.trans (h : UserKeeps s t) (h' : UserKeeps t u) : UserKeeps s u where
  cp0 := h'.cp0.trans h.cp0
  tlb := h'.tlb.trans h.tlb
  cfg := h'.cfg.trans h.cfg
  dcr := h'.dcr.trans h.dcr
  count := h'.count.trans h.count
  sets set r hs := (h'.sets set r (by rw [h.curSet]; exact hs)).trans (h.sets set r hs)

/-- An update of other fields. -/
theorem UserKeeps.of_same (h : (u.cp0, u.tlb, u.cfg, u.dbg.dcr, u.excCount, u.gpr) =
    (s.cp0, s.tlb, s.cfg, s.dbg.dcr, s.excCount, s.gpr)) : UserKeeps s u := by
  simp only [Prod.mk.injEq] at h
  obtain ⟨h1, h2, h3, h4, h5, h6⟩ := h
  exact ⟨h1, h2, h3, h4, h5, fun set r _ => readSet_of_gpr h6 set r⟩

theorem SideOnly.user {d : Bool} (h : SideOnly d s u) : UserKeeps s u :=
  ⟨h.cp0, h.tlb, h.cfg, congrArg Dbg.dcr h.dbg, h.excCount, fun set r _ => readSet_of_gpr h.gpr set r⟩

theorem user_writeGpr (s : State) (r : Reg) (v : Word) : UserKeeps s (s.writeGpr r v) := by
  have e := writeGpr_gpr_only s r v
  refine ⟨by rw [e], by rw [e], by rw [e], by rw [e], by rw [e], fun set q hs => ?_⟩
  unfold State.writeGpr
  rw [readSet_writeSet]
  by_cases h0 : q = 0
  · simp [h0]
  · rw [if_neg h0, if_neg fun h => hs h.1]

/-! ### The ends of an instruction -/

theorem user_next (h : UserKeeps s u) (pc npc : Word) (slot : Slot) (hz : List Hazard) :
    UserStep s (.next { u with pc := pc, npc := npc, slot := slot, hazards := hz }) :=
  fun _ => h.trans (.of_same rfl)

theorem user_advance (h : UserKeeps s u) : UserStep s u.advance := by
  obtain ⟨-, e⟩ | ⟨-, e⟩ := advance_cases u <;> rw [e]
  · exact user_next h _ _ _ _
  · trivial

theorem user_put (h : UserKeeps s u) (r : Reg) (v : Word) : UserStep s (u.put r v) :=
  user_advance (h.trans (user_writeGpr u r v))

/-- An exception counts itself. -/
theorem user_raise (h : u.excCount = s.excCount) (e : Exc) : UserStep s (u.raise e) := by
  have hx := raise_excCount u e
  cases hr : u.raise e with
  | next t =>
    rw [hr] at hx
    have hx' : t.excCount = u.excCount + 1 := hx
    intro he
    omega
  | fault f => trivial
  | refused q => trivial

theorem user_finish {α : Type} {r : Res α} (h : r.User s) : UserStep s r.finish := by
  cases r with
  | ok a u => exact user_advance h
  | exc e u => exact user_raise h e
  | wait u => exact fun _ => h
  | ref q => trivial
  | flt f => trivial

theorem user_ite {c : Prop} [Decidable c] {a b : Out} (ha : UserStep s a) (hb : UserStep s b) :
    UserStep s (if c then a else b) := by
  split
  · exact ha
  · exact hb

theorem user_enterSlot (h : UserKeeps s u) (taken : Option (Word × Bool)) : UserStep s (u.enterSlot taken) := by
  unfold State.enterSlot
  split
  · trivial
  · split
    · exact user_next h _ _ _ _
    · exact user_next h _ _ _ _

theorem user_branch (h : UserKeeps s u) (cond : Bool) (off : BitVec 16) : UserStep s (u.branch cond off) :=
  user_ite trivial (user_enterSlot h _)

theorem user_branchLikely (h : UserKeeps s u) (cond : Bool) (off : BitVec 16) : UserStep s (u.branchLikely cond off) := by
  refine user_ite trivial (user_ite (user_enterSlot h _) ?_)
  unfold State.skipSlot
  exact user_ite trivial (user_next h _ _ _ _)

theorem user_jump (h : UserKeeps s u) (target : Word) (hb : Bool) : UserStep s (u.jump target hb) :=
  user_ite trivial (user_enterSlot h _)

theorem user_jumpReg (h : UserKeeps s u) (target : Word) (hb : Bool) : UserStep s (u.jumpReg target hb) :=
  user_ite trivial (user_ite trivial (user_enterSlot h _))

theorem user_cop1Instr {k : Out} (h : UserStep s k) : UserStep s (s.cop1Instr k) := user_ite h (user_raise rfl _)

theorem user_cop2Instr {k : Out} (h : UserStep s k) : UserStep s (s.cop2Instr k) := user_ite h (user_raise rfl _)

theorem user_needRegs {k : Out} (h : UserStep s k) (rs : List (FpFmt × Reg)) : UserStep s (s.needRegs rs k) :=
  user_ite h trivial

theorem user_needFr1 {k : Out} (h : UserStep s k) : UserStep s (s.needFr1 k) := user_ite h trivial

/-! ### Accesses -/

theorem Res.User.andThen {α β : Type} {r : Res α} {k : α → State → Res β} (h : r.User s)
    (hk : ∀ a t, r = .ok a t → UserKeeps s t → (k a t).User s) : (r.andThen k).User s := by
  cases r with
  | ok a t => exact hk a t rfl h
  | exc e t => exact h
  | wait t => exact h
  | ref q => trivial
  | flt f => trivial

theorem Res.All.user {α : Type} {r : Res α} (h : r.All (UserKeeps s)) : r.User s := by
  cases r with
  | ok a t => exact h
  | exc e t => exact UserKeeps.count h
  | wait t => exact h
  | ref q => trivial
  | flt f => trivial

/-- Where coprocessor 0 is not usable the mode is not debug mode and no exception level is set (R592, R781). -/
theorem not_cp0Usable (h : s.cp0Usable = false) : s.dm = false ∧ s.exl = false ∧ s.erl = false := by
  simp only [State.cp0Usable, Bool.or_eq_false_iff] at h
  exact ⟨h.1.1.1.1, h.1.1.2, h.1.2⟩

theorem user_dataChecks (h : s.cp0Usable = false) (store broken : Bool) (a : DataAccess) :
    (s.dataChecks store broken a).User s := by
  obtain ⟨-, hexl, herl⟩ := not_cp0Usable h
  unfold State.dataChecks
  generalize (if broken = true then s.preciseBreaks store a.first a.size else []) = ms
  dsimp only
  split
  · rfl
  · refine Res.User.andThen ?_ fun _ t _ ht => ?_
    · obtain ⟨-, e⟩ | ⟨-, hl, -⟩ | ⟨-, -, e⟩ :=
        checkWatch_cases s .data 2 3 (if store = true then 0 else 1) a.ends
      · rw [e]; exact .refl s
      · rw [hexl, herl] at hl; cases hl
      · rw [e]
        have hm := fun v u i => (accessed_markWatch v u i (if store = true then 0 else 1) a.ends
          (by split <;> omega)).excCount
        exact (hm _ _ _).trans (hm _ _ _)
    · split
      · exact ht.count
      · exact ht

theorem placeOf_phys {k : AccKind} {a : DataAccess} {p : Place} (hd : s.dm = false)
    (h : s.placeOf k a = .ok p t) : ∃ pa cca, p = .phys pa cca := by
  simp only [State.placeOf, dsegOf_not_debug s k a.first hd] at h
  revert h
  cases s.translateData k a.linked a.va with
  | ok q u => intro h; cases h; exact ⟨_, _, rfl⟩
  | exc e u => intro h; cases h
  | wait u => intro h; cases h
  | ref q => intro h; cases h
  | flt f => intro h; cases h

theorem UserKeeps.dm (h : UserKeeps s t) : t.dm = s.dm := by
  unfold State.dm
  rw [h.cp0]

theorem user_placeOf (h : UserKeeps s t) (k : AccKind) (a : DataAccess) : (t.placeOf k a).User s :=
  ((placeOf_state t k a).mono fun u hu => by rw [hu]; exact h).user

theorem user_noteValueBreak (s0 : State) (h : UserKeeps s t) (store : Bool) (dest : LoadDest) (va : Word)
    (bs : List Byte) : UserKeeps s (s0.noteValueBreak { t with llTouched := true } store dest va bs) := by
  have h' : UserKeeps s { t with llTouched := true } := h.trans (.of_same rfl)
  unfold State.noteValueBreak
  split
  · exact h'
  · exact h'.trans (.of_same rfl)

theorem user_loadBytes (h : s.cp0Usable = false) (a : DataAccess) (dest : LoadDest) : (s.loadBytes a dest).User s := by
  obtain ⟨hdm, -, -⟩ := not_cp0Usable h
  unfold State.loadBytes
  refine (user_dataChecks h _ _ _).andThen fun _ s1 _ h1 => ?_
  refine ((user_placeOf h1 _ _).andThen fun p s2 hp h2 => ?_).andThen fun bs s3 _ h3 => user_noteValueBreak s h3 _ _ _ _
  obtain ⟨pa, cca, rfl⟩ := placeOf_phys (h1.dm.trans hdm) hp
  exact ((sideOnly_readParts s2 _ _ _ _).mono fun u hu => h2.trans hu.user).user

theorem user_storeBytes (h : s.cp0Usable = false) (a : DataAccess) (whole : Bool) (bs : List Byte) :
    (s.storeBytes a whole bs).User s := by
  obtain ⟨hdm, -, -⟩ := not_cp0Usable h
  unfold State.storeBytes
  refine (user_dataChecks h _ _ _).andThen fun _ s1 _ h1 => ?_
  refine ((user_placeOf h1 _ _).andThen fun p s2 hp h2 => ?_).andThen fun bs s3 _ h3 => user_noteValueBreak s h3 _ _ _ _
  obtain ⟨pa, cca, rfl⟩ := placeOf_phys (h1.dm.trans hdm) hp
  exact ((sideOnly_writeParts s2 _ _ _ _ _).mono fun u hu => h2.trans hu.user).user

theorem user_memRead (h : s.cp0Usable = false) (va : Word) (n : Nat) (dest : LoadDest) : (s.memRead va n dest).User s :=
  (user_loadBytes h _ _).andThen fun _ _ _ ht => ht

theorem user_memWrite (h : s.cp0Usable = false) (va : Word) (n v : Nat) : (s.memWrite va n v).User s :=
  user_storeBytes h _ _ _

theorem user_loadGpr (h : s.cp0Usable = false) (rt : Reg) (va : Word) (n : Nat) (f : Nat → Word) :
    UserStep s (s.loadGpr rt va n f) :=
  user_finish ((user_memRead h _ _ _).andThen fun _ t _ ht => ht.trans (user_writeGpr t _ _))

/-- A load whose bytes go into a general register. -/
theorem user_loadBytes_gpr (h : s.cp0Usable = false) (a : DataAccess) (dest : LoadDest) (rt : Reg)
    (f : Option (List Byte) → Word) :
    UserStep s ((s.loadBytes a dest).andThen fun bs s1 => .ok () (s1.writeGpr rt (f bs))).finish :=
  user_finish ((user_loadBytes h _ _).andThen fun _ t _ ht => ht.trans (user_writeGpr t _ _))

theorem user_ll (h : s.cp0Usable = false) (base rt : Reg) (imm : BitVec 16) : UserStep s (execLl base rt imm s) :=
  user_finish ((user_loadBytes h _ _).andThen fun _ t _ ht =>
    (ht.trans (user_writeGpr t _ _)).trans (.of_same rfl))

theorem user_sc (h : s.cp0Usable = false) (base rt : Reg) (imm : BitVec 16) : UserStep s (execSc base rt imm s) := by
  have hw : ∀ (t : State) (v : Word), UserKeeps t ({ t with llBit := false }.writeGpr rt v) := fun t v =>
    UserKeeps.trans (t := { t with llBit := false }) (.of_same rfl) (user_writeGpr _ _ _)
  refine user_ite (user_finish ((user_storeBytes h _ _ _).andThen fun _ t _ ht => ht.trans (hw t 1))) (user_finish ?_)
  refine Res.User.andThen ?_ fun _ t _ ht => ht.trans (hw t 0)
  exact (user_dataChecks h _ _ _).andThen fun _ s1 _ h1 => (user_placeOf h1 _ _).andThen fun _ _ _ ht => ht

theorem user_prefetchAt (hint : Reg) (va : Word) : (s.prefetchAt hint va).User s := by
  rcases prefetchAt_quiet s hint va with ⟨-, hside⟩ | hw
  · have h0 : UserKeeps s { s with llTouched := true } := .of_same rfl
    exact Res.All.user (s := s) (hside.mono fun u hu => h0.trans hu.user)
  · rw [hw]; exact UserKeeps.refl s

theorem user_synciLine (s : State) (va pa : Word) (cca : BitVec 3) : UserKeeps s (s.synciLine va pa cca) := by
  have h1 : UserKeeps s (if lineBytes s.cfg true = 0 then s else
      match s.dcache.lookup s.cfg true va pa with
      | some slot => s.writebackSlot slot
      | none => s) := by
    split
    · exact .refl s
    · split
      · exact (sideOnly_writebackSlot s _).user
      · exact .refl s
  have hpush : ∀ t q n, UserKeeps t (State.pushILine t q n) := fun _ _ _ => .of_same rfl
  have hinv : ∀ (t : State) c n, UserKeeps t ((t.setCache false c).useSlot false n) := fun _ _ _ =>
    ((sideOnly_setCache false _ _).trans (sideOnly_useSlot false _ _)).user
  unfold State.synciLine
  split
  · exact .refl s
  · dsimp only
    split
    · exact h1
    · split
      · exact h1.trans ((hpush _ _ _).trans (hinv _ _ _))
      · exact h1

theorem user_synci (base : Reg) (imm : BitVec 16) (s : State) : UserStep s (execSynci base imm s) :=
  user_ite (user_advance (.refl s)) (user_finish
    (((translate_state s _ _).mono fun u hu => by rw [hu]; exact UserKeeps.refl s).user.andThen fun _ t _ ht =>
      ht.trans (user_synciLine t _ _ _)))

/-! ### Floating point and the other coprocessors -/

theorem user_writeFpr (s : State) (f : FpFmt) (r : Reg) (v : DWord) : UserKeeps s (s.writeFpr f r v) := by
  rw [writeFpr_frame]
  exact .of_same rfl

theorem user_writeFprW (s : State) (r : Reg) (v : Word) : UserKeeps s (s.writeFprW r v) := by
  unfold State.writeFprW State.setFprLow
  split <;> exact .of_same rfl

theorem user_fcsr (s : State) (w : Word) : UserKeeps s { s with fcsr := w } := .of_same rfl

theorem user_fpEnd (s : State) (dst : FpFmt) (fd : Reg) (r : FpOut) : UserStep s (s.fpEnd dst fd r) := by
  unfold State.fpEnd
  split
  · exact user_raise (user_fcsr s _).count _
  · dsimp only
    split
    · exact user_raise (user_fcsr s _).count _
    · exact user_advance ((user_fcsr s _).trans (user_writeFpr _ _ _ _))

theorem user_fpOp1 (s : State) (src dst : FpFmt) (fs fd : Reg) (op : FpEnv → DWord → FpOut) :
    UserStep s (s.fpOp1 src dst fs fd op) := user_cop1Instr (user_needRegs (user_fpEnd s _ _ _) _)

theorem user_fpOpL (s : State) (src dst : FpFmt) (fs fd : Reg) (op : FpEnv → DWord → FpOut) :
    UserStep s (s.fpOpL src dst fs fd op) := user_cop1Instr (user_needFr1 (user_fpEnd s _ _ _))

theorem user_fpOp2 (s : State) (f : FpFmt) (fs ft fd : Reg) (op : FpEnv → DWord → DWord → FpOut) :
    UserStep s (s.fpOp2 f fs ft fd op) := user_cop1Instr (user_needRegs (user_fpEnd s _ _ _) _)

theorem user_fpOp3 (s : State) (f : FpFmt) (fr fs ft fd : Reg) (op : FpEnv → DWord → DWord → DWord → FpOut) :
    UserStep s (s.fpOp3 f fr fs ft fd op) := user_cop1Instr (user_needRegs (user_fpEnd s _ _ _) _)

theorem user_fpCond (s : State) (f : FpFmt) (cond : BitVec 4) (fs ft : Reg) (cc : BitVec 3) :
    UserStep s (s.fpCond f cond fs ft cc) :=
  user_cop1Instr (user_needRegs
    (user_ite (user_raise (user_fcsr s _).count _) (user_advance (user_fcsr s _))) _)

theorem user_fpMove (s : State) (f : FpFmt) (go : Bool) (fs fd : Reg) : UserStep s (s.fpMove f go fs fd) :=
  user_cop1Instr (user_needRegs (user_ite (user_advance (user_writeFpr s _ _ _)) (user_advance (.refl s))) _)

theorem user_fpLoad (h : s.cp0Usable = false) (f : FpFmt) (ft : Reg) (va : Word) : UserStep s (s.fpLoad f ft va) := by
  refine user_needRegs (user_finish ?_) _
  exact (user_memRead h _ _ _).andThen fun v t _ ht => ht.trans (user_writeFpr t f ft _)

theorem user_fpStore (h : s.cp0Usable = false) (f : FpFmt) (ft : Reg) (va : Word) : UserStep s (s.fpStore f ft va) :=
  user_needRegs (user_finish (user_memWrite h _ _ _)) _

theorem user_mthc1 (rt fs : Reg) (s : State) : UserStep s (execMthc1 rt fs s) :=
  have hfpr : ∀ q w, UserKeeps s (s.setFprLow q w) := fun _ _ => .of_same rfl
  user_cop1Instr (user_ite (user_advance (.of_same rfl)) (user_needRegs (user_advance (hfpr _ _)) _))

theorem user_cfc1 (rt fs : Reg) (s : State) : UserStep s (execCfc1 rt fs s) := by
  refine user_cop1Instr ?_
  split
  · exact user_put (.refl s) _ _
  · trivial

theorem user_ctc1 (rt fs : Reg) (s : State) : UserStep s (execCtc1 rt fs s) := by
  refine user_cop1Instr ?_
  split
  · exact user_ite (user_raise (user_fcsr s _).count _) (user_advance (user_fcsr s _))
  · trivial

theorem user_cop2 (impl : BitVec 25) (s : State) : UserStep s (execCop2 impl s) := by
  refine user_cop2Instr ?_
  split
  · exact user_advance (.of_same rfl)
  · exact user_raise rfl _

theorem user_udi (impl : BitVec 20) (impl2 : BitVec 4) (s : State) : UserStep s (execUdi impl impl2 s) := by
  refine user_ite (user_raise rfl _) (user_ite (user_raise rfl _) ?_)
  split
  · exact user_raise rfl _
  · exact user_advance (.of_same rfl)
  · rename_i st v _
    exact user_put (s := s) (u := { s with udiState := st }) (.of_same rfl) _ _

theorem user_cop2Load (h : s.cp0Usable = false) (va : Word) (n : Nat) (f : Option Nat → Nat) :
    UserStep s (s.cop2Instr ((s.memRead va n .cp2).andThen fun v s1 => .ok () { s1 with cp2State := f v }).finish) :=
  user_cop2Instr (user_finish ((user_memRead h _ _ _).andThen fun _ _ _ ht => ht.trans (.of_same rfl)))

end

/-- Every instruction of code without coprocessor 0. -/
theorem user_exec (i : Instr) (s : State) (h : s.cp0Usable = false) : UserStep s (exec i s) := by
  have hraise : i.cop = some 0 → UserStep s (exec i s) := fun hc => by
    rw [exec_of_not_copUsable i s 0 hc h]
    exact user_raise rfl _
  have hlink : ∀ r, UserKeeps s (s.link r) := fun r => user_writeGpr s r _
  have hrefl := UserKeeps.refl s
  cases i
  case mfhi | mflo | seb | seh | wsbh | addu | subu | and | or | xor | nor | slt | sltu | sll | srl | sra | sllv |
      srlv | srav | rotr | rotrv | lui | addiu | andi | ori | xori | slti | sltiu => exact user_put hrefl _ _
  case add | sub | addi => exact user_ite (user_raise rfl _) (user_put hrefl _ _)
  case mthi | mtlo | ehb => exact user_advance (.of_same rfl)
  case nop | ssnop => exact user_advance hrefl
  case mult | multu | madd | maddu | msub | msubu => exact user_advance (.of_same rfl)
  case div | divu => exact user_ite (user_advance (.of_same rfl)) (user_advance (.of_same rfl))
  case mul => exact user_put (s := s) (u := s.freeAfterMul) (.of_same rfl) _ _
  case movz | movn => exact user_ite (user_put hrefl _ _) (user_advance hrefl)
  case movf => exact user_ite (user_raise rfl _) (user_ite (user_advance hrefl) (user_put hrefl _ _))
  case movt => exact user_ite (user_raise rfl _) (user_ite (user_put hrefl _ _) (user_advance hrefl))
  case clz | clo | ext | ins => exact user_ite trivial (user_put hrefl _ _)
  case blez | bgtz | bltz | bgez | beq | bne => exact user_branch hrefl _ _
  case blezl | bgtzl | bltzl | bgezl | beql | bnel => exact user_branchLikely hrefl _ _
  case bltzal | bgezal => exact user_ite trivial (user_branch (hlink _) _ _)
  case bltzall | bgezall => exact user_ite trivial (user_branchLikely (hlink _) _ _)
  case jr | jr_hb => exact user_jumpReg hrefl _ _
  case jalr | jalr_hb => exact user_ite trivial (user_jumpReg (hlink _) _ _)
  case j => exact user_jump hrefl _ _
  case jal => exact user_jump (hlink _) _ _
  case jalx => trivial
  case syscall => exact user_raise rfl .sys
  case break_ => exact user_raise rfl .bp
  case sdbbp => exact user_raise rfl .sdbbp
  case tge | tgeu | tlt | tltu | teq | tne | tgei | tgeiu | tlti | tltiu | teqi | tnei =>
    exact user_ite (user_raise rfl _) (user_advance hrefl)
  case lb | lbu | lh | lhu | lw => exact user_loadGpr h _ _ _ _
  case lwl | lwr => exact user_loadBytes_gpr h _ _ _ _
  case sb | sh | sw => exact user_finish (user_memWrite h _ _ _)
  case swl | swr => exact user_finish (user_storeBytes h _ _ _)
  case ll => exact user_ll h _ _ _
  case sc => exact user_sc h _ _ _
  case pref => exact user_finish (user_prefetchAt _ _)
  case sync => exact user_advance (sideOnly_flushGather true s).user
  case synci => exact user_synci _ _ s
  case cache | eret | deret | wait | mfc0 | mtc0 | di | ei | rdpgpr | wrpgpr | tlbr | tlbwi | tlbwr | tlbp =>
    exact hraise rfl
  case rdhwr => exact user_ite (user_raise rfl _) (user_ite (user_raise rfl _) (user_put hrefl _ _))
  case cfc2 | mfc2 | mfhc2 => exact user_cop2Instr (user_put hrefl _ _)
  case ctc2 | mtc2 | mthc2 => exact user_cop2Instr (user_advance (.of_same rfl))
  case bc2f | bc2t => exact user_cop2Instr (user_branch hrefl _ _)
  case bc2fl | bc2tl => exact user_cop2Instr (user_branchLikely hrefl _ _)
  case lwc2 | ldc2 => exact user_cop2Load h _ _ _
  case swc2 | sdc2 => exact user_cop2Instr (user_finish (user_memWrite h _ _ _))
  case cop2 => exact user_cop2 _ s
  case udi => exact user_udi _ _ s
  case mfc1 => exact user_cop1Instr (user_put hrefl _ _)
  case mtc1 rt fs => exact user_cop1Instr (user_advance (user_writeFprW s fs (s.readGpr rt)))
  case mfhc1 => exact user_cop1Instr (user_ite (user_put hrefl _ _) (user_needRegs (user_put hrefl _ _) _))
  case mthc1 => exact user_mthc1 _ _ s
  case cfc1 => exact user_cfc1 _ _ s
  case ctc1 => exact user_ctc1 _ _ s
  case lwxc1 | ldxc1 | lwc1 | ldc1 => exact user_cop1Instr (user_fpLoad h _ _ _)
  case swxc1 | sdxc1 | swc1 | sdc1 => exact user_cop1Instr (user_fpStore h _ _ _)
  case luxc1 => exact user_cop1Instr (user_needFr1 (user_fpLoad h _ _ _))
  case suxc1 => exact user_cop1Instr (user_needFr1 (user_fpStore h _ _ _))
  case prefx => exact user_cop1Instr (user_finish (user_prefetchAt _ _))
  case bc1f | bc1t => exact user_cop1Instr (user_branch hrefl _ _)
  case bc1fl | bc1tl => exact user_cop1Instr (user_branchLikely hrefl _ _)
  case mov_s | mov_d | movf_s | movt_s | movf_d | movt_d | movz_s | movz_d | movn_s | movn_d =>
    exact user_fpMove s _ _ _ _
  case sqrt_s | sqrt_d | recip_s | recip_d | rsqrt_s | rsqrt_d | round_w_s | round_w_d | trunc_w_s | trunc_w_d |
      ceil_w_s | ceil_w_d | floor_w_s | floor_w_d | cvt_s_d | cvt_s_w | cvt_d_s | cvt_d_w | cvt_w_s | cvt_w_d =>
    exact user_fpOp1 s _ _ _ _ _
  case round_l_s | round_l_d | trunc_l_s | trunc_l_d | ceil_l_s | ceil_l_d | floor_l_s | floor_l_d | cvt_s_l |
      cvt_d_l | cvt_l_s | cvt_l_d => exact user_fpOpL s _ _ _ _ _
  case add_s | add_d | sub_s | sub_d | mul_s | mul_d | div_s | div_d => exact user_fpOp2 s _ _ _ _ _
  case madd_s | madd_d | msub_s | msub_d => exact user_fpOp3 s _ _ _ _ _ _
  case abs_s => exact user_fpOp1 s .single .single _ _ (fun _ => fpSign .single fun _ => false)
  case neg_s => exact user_fpOp1 s .single .single _ _ (fun _ => fpSign .single not)
  case nmadd_s =>
    exact user_fpOp3 s .single _ _ _ _ (fun e c x y => (fpMulAdd .single false e c x y).negated .single)
  case nmsub_s =>
    exact user_fpOp3 s .single _ _ _ _ (fun e c x y => (fpMulAdd .single true e c x y).negated .single)
  case abs_d => exact user_fpOp1 s .double .double _ _ (fun _ => fpSign .double fun _ => false)
  case neg_d => exact user_fpOp1 s .double .double _ _ (fun _ => fpSign .double not)
  case nmadd_d =>
    exact user_fpOp3 s .double _ _ _ _ (fun e c x y => (fpMulAdd .double false e c x y).negated .double)
  case nmsub_d =>
    exact user_fpOp3 s .double _ _ _ _ (fun e c x y => (fpMulAdd .double true e c x y).negated .double)
  case c_f_s | c_un_s | c_eq_s | c_ueq_s | c_olt_s | c_ult_s | c_ole_s | c_ule_s | c_sf_s | c_ngle_s | c_seq_s |
      c_ngl_s | c_lt_s | c_nge_s | c_le_s | c_ngt_s | c_f_d | c_un_d | c_eq_d | c_ueq_d | c_olt_d | c_ult_d |
      c_ole_d | c_ule_d | c_sf_d | c_ngle_d | c_seq_d | c_ngl_d | c_lt_d | c_nge_d | c_le_d | c_ngt_d =>
    exact user_fpCond s _ _ _ _ _

/-- Settles O42: by `user_exec`, instruction by instruction. -/
theorem unprivilegedCodeKeepsCp0 : Obligations.UnprivilegedCodeKeepsCp0 := by
  intro i s t hu _ ht he
  have h := user_exec i s hu
  rw [ht] at h
  have hk : UserKeeps s t := h he
  exact ⟨hk.cp0, hk.tlb, hk.cfg, hk.dcr, fun set r hs => hk.sets set r hs⟩

end Sys2Proof.Machine

/-! ## The cache instruction (R520, R521; obligation O25)

Each operation answers a state of `Through`: the caches, the memory and the pending hazards may be new, nothing else but
the note of the access. `Through.advance` turns it into the outcome of the instruction; what the operation did to the
line is then read off its answer. -/

namespace Sys2Proof.Machine

/-- What a cache operation other than a tag load can change of the state before the instruction. -/
def Through (s u : State) : Prop := u = { s with
  llTouched := true, mem := u.mem, icache := u.icache, dcache := u.dcache, hazards := u.hazards, choices := u.choices }

section
variable {s t u : State}

theorem Through.touched (s : State) : Through s { s with llTouched := true } := rfl

theorem Through.trans (h : Through s t) (hu : u = { t with
    mem := u.mem, icache := u.icache, dcache := u.dcache, hazards := u.hazards, choices := u.choices }) :
    Through s u := by
  unfold Through at h ⊢
  conv_lhs => rw [hu, h]

/-- What a completed operation shows of the state it answered. -/
structure Ended (s u t : State) : Prop where
  gpr : t.gpr = s.gpr
  core : CoreKept s t
  mem : t.mem = u.mem
  caches : ∀ d, t.cache d = u.cache d

theorem Through.advance (h : Through s u) (ha : s.canAdvance = true) : ∃ t, u.advance = .next t ∧ Ended s u t := by
  have hu : u.canAdvance = true := by rw [h]; exact ha
  refine ⟨_, advance_eq u hu, ?_, ?_, rfl, fun d => by cases d <;> rfl⟩
  · rw [h]
  · rw [h]
    exact ⟨rfl, rfl, rfl, rfl, rfl, rfl, rfl, rfl, rfl, rfl, rfl, rfl⟩

theorem Ended.icache (h : Ended s u t) : t.icache = u.icache := h.caches false
theorem Ended.dcache (h : Ended s u t) : t.dcache = u.dcache := h.caches true

theorem Ended.memoryKept (h : Ended s u t) (hm : u.mem = s.mem) : MemoryKept s t := fun a => by rw [h.mem, hm]

theorem kernel_cp0Usable (hm : s.mode? = some .kernel) : s.cp0Usable = true := by
  cases h : s.cp0Usable with
  | true => rfl
  | false =>
    have hk : s.ksu ≠ 0 := by
      simp only [State.cp0Usable, Bool.or_eq_false_iff, decide_eq_false_iff_not] at h
      exact h.1.1.1.2
    obtain ⟨hdm, hexl, herl⟩ := not_cp0Usable h
    simp only [State.mode?, hdm, hexl, herl, Bool.or_self, decide_eq_false hk, Bool.false_eq_true,
      if_false] at hm
    split at hm
    · cases hm
    · split at hm <;> cases hm

/-! ### The operation that runs -/

theorem exec_cache_noOp (base op : Reg) (off : BitVec 16) (hm : s.mode? = some .kernel) (hn : cacheNoOp op = true) :
    exec (.cache base op off) s = State.advance { s with llTouched := true } := by
  show execCache base op off s = _
  simp only [execCache, kernel_cp0Usable hm, hn, Bool.not_true, Bool.false_eq_true, if_false, if_true]

theorem exec_cache {va : Word} (base op : Reg) (off : BitVec 16) (hz : s.hazards = []) (hm : s.mode? = some .kernel)
    (hn : cacheNoOp op = false) (heff : s.effAddr base off = va) (hv : inKseg0 va = true) :
    exec (.cache base op off) s = ({ s with llTouched := true }.cacheOp op va (unmapped va)).finish := by
  show execCache base op off s = _
  simp only [execCache, heff, kernel_cp0Usable hm, hn, Bool.not_true, Bool.false_eq_true, if_false,
    dsegOf_not_debug _ _ _ (kernel_not_debug s hm), Option.isSome_none, translate_kseg0 s .load va hz hm hv]
  rfl

/-- An operation that answers a state completes in it. -/
theorem exec_cache_through {va : Word} {base op : Reg} {off : BitVec 16} (ha : s.canAdvance = true)
    (hz : s.hazards = []) (hm : s.mode? = some .kernel) (heff : s.effAddr base off = va) (hv : inKseg0 va = true)
    (hn : cacheNoOp op = false) (hop : { s with llTouched := true }.cacheOp op va (unmapped va) = .ok () u)
    (h : Through s u) : ∃ t, exec (.cache base op off) s = .next t ∧ Ended s u t := by
  rw [exec_cache base op off hz hm hn heff hv, hop]
  exact h.advance ha

end

/-! ### Slots -/

theorem numSets_pos (cfg : Cfg) (d : Bool) : 0 < numSets cfg d :=
  Nat.mul_pos (by decide) (Nat.pow_pos (by decide))

/-- Different ways of a set are different slots. -/
theorem slotOf_inj {cfg : Cfg} {d : Bool} {w n set : Nat} (h : slotOf cfg d w set = slotOf cfg d n set) : w = n :=
  Nat.eq_of_mul_eq_mul_right (numSets_pos cfg d) (Nat.add_right_cancel h)

/-- Whether the line in a slot is the valid one of a tag. -/
def Cache.holds (c : Cache) (slot : Nat) (ptag : BitVec 20) : Bool := (c.tag slot).v && (c.tag slot).ptag = ptag

section
variable {c : Cache} {cfg : Cfg} {d : Bool} {set : Nat} {ptag : BitVec 20}

theorem findWay_succ (n : Nat) : findWay c cfg d set ptag (n + 1) =
    match findWay c cfg d set ptag n with
    | some w => some w
    | none => if c.holds (slotOf cfg d n set) ptag then some (slotOf cfg d n set) else none := rfl

/-- A miss says that no way holds the tag. -/
theorem findWay_none : ∀ {n}, findWay c cfg d set ptag n = none ↔
    ∀ w, w < n → c.holds (slotOf cfg d w set) ptag = false := by
  intro n
  induction n with
  | zero => exact ⟨fun _ w h => absurd h (Nat.not_lt_zero w), fun _ => rfl⟩
  | succ n ih =>
    rw [findWay_succ]
    cases hn : findWay c cfg d set ptag n with
    | some k =>
      refine iff_of_false (by simp) fun h => ?_
      have := ih.2 fun w hw => h w (by omega)
      rw [hn] at this
      cases this
    | none =>
      have hb := ih.1 hn
      cases hc : c.holds (slotOf cfg d n set) ptag with
      | true => exact iff_of_false (by simp) fun h => by rw [h n (by omega)] at hc; cases hc
      | false =>
        refine iff_of_true (by simp) fun w hw => ?_
        rcases Nat.lt_succ_iff_lt_or_eq.1 hw with h | rfl
        · exact hb w h
        · exact hc

/-- Where one way alone holds the tag the lookup finds it. -/
theorem findWay_only {w : Nat} (hw : c.holds (slotOf cfg d w set) ptag = true) :
    ∀ n, w < n → (∀ j, j < w → c.holds (slotOf cfg d j set) ptag = false) →
      findWay c cfg d set ptag n = some (slotOf cfg d w set) := by
  intro n
  induction n with
  | zero => exact fun h _ => absurd h (Nat.not_lt_zero w)
  | succ n ih =>
    intro hn ho
    rw [findWay_succ]
    rcases Nat.lt_succ_iff_lt_or_eq.1 hn with h | rfl
    · rw [ih h ho]
    · rw [findWay_none.2 ho]
      exact if_pos hw

end

/-! ### The index operations (R521) -/

section
variable {s : State} {d : Bool} {va : Word}

/-- The test modes of `ErrCtl` are off (R140). -/
theorem errCtl_off {w : Word} (h : w &&& 0x78000000 = 0) : w.getLsbD 27 = false ∧ w.getLsbD 28 = false ∧
    w.getLsbD 29 = false ∧ w.getLsbD 30 = false := by
  have hb : ∀ i : Nat, (0x78000000 : Word).getLsbD i = true → w.getLsbD i = false := fun i hi => by
    have hand : (w &&& 0x78000000).getLsbD i = (0#32).getLsbD i := congrArg (fun v : Word => v.getLsbD i) h
    simpa only [BitVec.getLsbD_and, hi, Bool.and_true, BitVec.getLsbD_zero] using hand
  exact ⟨hb 27 (by decide), hb 28 (by decide), hb 29 (by decide), hb 30 (by decide)⟩

theorem indexOp_invalidate (hz : s.hazards = []) (he : s.cp0.errCtl &&& 0x78000000 = 0) (hl : lineBytes s.cfg d ≠ 0) :
    s.indexOp d 0 va = .ok () ((if d then s.writebackSlot (indexSlot s.cfg d va)
      else s.pushILine .tag (indexSlot s.cfg d va)).invalidateSlot d (indexSlot s.cfg d va)) := by
  obtain ⟨h27, h28, h29, -⟩ := errCtl_off he
  simp only [State.indexOp, view_eq _ s hz, h27, h28, h29, Bool.false_and, Bool.false_eq_true, if_false, if_neg hl]
  rfl

theorem indexOp_loadTag (hz : s.hazards = []) (he : s.cp0.errCtl &&& 0x78000000 = 0) (hl : lineBytes s.cfg d ≠ 0) :
    s.indexOp d 1 va = .ok () (s.indexLoadTag d va) := by
  obtain ⟨h27, h28, h29, -⟩ := errCtl_off he
  simp only [State.indexOp, view_eq _ s hz, h27, h28, h29, Bool.false_and, Bool.false_eq_true, if_false, if_neg hl]
  rfl

theorem indexOp_storeTag (hz : s.hazards = []) (he : s.cp0.errCtl &&& 0x78000000 = 0) (hl : lineBytes s.cfg d ≠ 0) :
    s.indexOp d 2 va = .ok () (((if d then s else s.pushILine .tag (indexSlot s.cfg d va)).setCache d
      ((s.cache d).setTag (indexSlot s.cfg d va)
        (tagOfWord (if d then s.cp0.tagLo1 else s.cp0.tagLo0) d))).useSlot d (indexSlot s.cfg d va)) := by
  obtain ⟨h27, h28, h29, h30⟩ := errCtl_off he
  simp only [State.indexOp, view_eq _ s hz, h27, h28, h29, h30, Bool.false_and, Bool.false_eq_true, if_false,
    if_neg hl, Cache.forceTagP]
  rfl

/-- The staging word of a tag, field by field (R142). -/
theorem tagWord_fields (s : State) (t : CacheTag) (p : Option Bool) (d : Bool) :
    (s.tagWord t p d).extractLsb' 12 20 = t.ptag ∧ (s.tagWord t p d).getLsbD 7 = t.v ∧
      (s.tagWord t p d).getLsbD 6 = (d && t.d) ∧ (s.tagWord t p d).getLsbD 5 = t.l := by
  unfold State.tagWord
  have hlow : ∀ (b : Bool) (i : Nat), i ≠ 0 → (bitAt 0 b).getLsbD i = false := fun b i hi => by
    cases b <;> simp [bitAt, hi]
  refine ⟨BitVec.eq_of_getLsbD_eq fun i hi => ?_, ?_, ?_, ?_⟩
  · have h12 : 12 + i < 32 := by omega
    rw [BitVec.getLsbD_extractLsb', BitVec.getLsbD_or, hlow _ _ (by omega), Bool.or_false]
    simp only [BitVec.getLsbD_append, hi, decide_true, Bool.true_and]
    rw [if_neg (by omega), if_neg (by omega), if_neg (by omega), if_neg (by omega), if_neg (by omega), if_neg (by omega)]
    exact congrArg _ (by omega)
  · rw [BitVec.getLsbD_or, hlow _ _ (by decide), Bool.or_false]
    simp only [BitVec.getLsbD_append]
    simp
  · rw [BitVec.getLsbD_or, hlow _ _ (by decide), Bool.or_false]
    simp only [BitVec.getLsbD_append]
    simp
  · rw [BitVec.getLsbD_or, hlow _ _ (by decide), Bool.or_false]
    simp only [BitVec.getLsbD_append]
    simp

/-- Two words that are the halves of a number. -/
theorem halves_toNat {n : Nat} (h : n < 2 ^ 64) :
    (((BitVec.ofNat 64 n).extractLsb' 32 32 : Word) ++ ((BitVec.ofNat 64 n).setWidth 32 : Word)).toNat = n := by
  rw [BitVec.toNat_append, BitVec.extractLsb'_toNat, BitVec.toNat_setWidth, BitVec.toNat_ofNat,
    Nat.mod_eq_of_lt h, Nat.shiftRight_eq_div_pow, Nat.mod_eq_of_lt (by omega), Nat.shiftLeft_eq,
    ← Nat.shiftLeft_eq, ← Nat.shiftLeft_add_eq_or_of_lt (by omega), Nat.shiftLeft_eq]
  omega

/-- What the tag load of the I-cache leaves in the staging registers. -/
theorem indexLoadTag_icache (s : State) (va : Word) :
    let k := indexSlot s.cfg false va
    let line := lineBytes s.cfg false
    let c := (s.indexLoadTag false va).cp0
    c = { s.cp0 with tagLo0 := c.tagLo0, dataLo0 := c.dataLo0, dataHi0 := c.dataHi0, errCtl := c.errCtl } ∧
      c.tagLo0.extractLsb' 12 20 = (s.icache.tag k).ptag ∧ c.tagLo0.getLsbD 7 = (s.icache.tag k).v ∧
      c.tagLo0.getLsbD 6 = false ∧ c.tagLo0.getLsbD 5 = (s.icache.tag k).l ∧
      (c.dataHi0 ++ c.dataLo0).toNat =
        bytesToNat s.cfg.bigEndian (s.icache.bytes line k (va.toNat % line / 8 * 8) 8) := by
  intro k line c
  obtain ⟨h1, h2, h3, h4⟩ := tagWord_fields s (s.icache.tag k) (sparseGet none s.icache.tagP k) false
  have hlt := bytesToNat_lt s.cfg.bigEndian (s.icache.bytes line k (va.toNat % line / 8 * 8) 8)
  rw [Cache.bytes, Memory.length_readBytes] at hlt
  have hlo : c.dataLo0 = (BitVec.ofNat 64 (bytesToNat s.cfg.bigEndian
      (s.icache.bytes line k (va.toNat % line / 8 * 8) 8))).setWidth 32 := rfl
  have hhi : c.dataHi0 = (BitVec.ofNat 64 (bytesToNat s.cfg.bigEndian
      (s.icache.bytes line k (va.toNat % line / 8 * 8) 8))).extractLsb' 32 32 := rfl
  have hframe : ∃ e t a b, c = { s.cp0 with errCtl := e, tagLo0 := t, dataLo0 := a, dataHi0 := b } :=
    ⟨_, _, _, _, rfl⟩
  refine ⟨?_, h1, h2, h3, h4, ?_⟩
  · obtain ⟨e, t, a, b, hc⟩ := hframe
    rw [hc]
  · rw [hlo, hhi]
    exact halves_toNat (lt_of_lt_of_eq hlt (by norm_num))

/-- What the tag load of the D-cache leaves in the staging registers. -/
theorem indexLoadTag_dcache (s : State) (va : Word) :
    let k := indexSlot s.cfg true va
    let line := lineBytes s.cfg true
    let c := (s.indexLoadTag true va).cp0
    c = { s.cp0 with tagLo1 := c.tagLo1, dataLo1 := c.dataLo1, errCtl := c.errCtl } ∧
      c.tagLo1.extractLsb' 12 20 = (s.dcache.tag k).ptag ∧ c.tagLo1.getLsbD 7 = (s.dcache.tag k).v ∧
      c.tagLo1.getLsbD 6 = (s.dcache.tag k).d ∧ c.tagLo1.getLsbD 5 = (s.dcache.tag k).l ∧
      c.dataLo1.toNat = bytesToNat s.cfg.bigEndian (s.dcache.bytes line k (va.toNat % line / 4 * 4) 4) := by
  intro k line c
  obtain ⟨h1, h2, h3, h4⟩ := tagWord_fields s (s.dcache.tag k) (sparseGet none s.dcache.tagP k) true
  refine ⟨rfl, h1, h2, h3, h4, ?_⟩
  have hlt := bytesToNat_lt s.cfg.bigEndian (s.dcache.bytes line k (va.toNat % line / 4 * 4) 4)
  rw [Cache.bytes, Memory.length_readBytes] at hlt
  exact (BitVec.toNat_ofNat _ _).trans (Nat.mod_eq_of_lt (lt_of_lt_of_eq hlt (by norm_num)))

/-- What the tag load of a cache writes only a later `mfc0` may see late (R974). -/
theorem readBack_indexLoadTag (s : State) (d : Bool) (va : Word) (hz : s.hazards = []) :
    ReadBack s (s.indexLoadTag d va) := by
  cases d
  · exact ((((ReadBack.of_nil hz).setCp _ _ _).setCp _ _ _).setCp _ _ _).setCp _ _ _
  · exact (((ReadBack.of_nil hz).setCp _ _ _).setCp _ _ _).setCp _ _ _

end

/-! ### What the operations do to a line -/

section
variable {s w u t : State} {d lock : Bool} {k : Nat}

theorem Through.invalidated (h : Through s w) (d : Bool) (k : Nat) : Through s (w.invalidateSlot d k) :=
  h.trans (by cases d <;> rfl)

theorem Through.wroteBack (h : Through s w) (k : Nat) : Through s (w.writebackSlot k) := by
  refine h.trans ?_
  simp only [State.writebackSlot]
  split <;> rfl

theorem Through.pushed (h : Through s w) (p : LinePart) (k : Nat) : Through s (w.pushILine p k) := h.trans rfl

theorem Through.used (h : Through s w) (d : Bool) (k : Nat) : Through s (w.useSlot d k) :=
  h.trans (by cases d <;> rfl)

theorem Through.setCache (h : Through s w) (d : Bool) (c : Cache) : Through s (w.setCache d c) :=
  h.trans (by cases d <;> rfl)

theorem Through.locked (h : Through s w) (d lock : Bool) (k : Nat) : Through s (w.lockSlot d lock k) := by
  unfold State.lockSlot
  split
  · exact h.setCache d _
  · exact h

theorem Through.ite (c : Bool) (ha : Through s w) (hb : Through s u) : Through s (if c then w else u) := by
  cases c
  · exact hb
  · exact ha

/-- The tags where slot `k` was invalidated in a state whose other tags are those of before. -/
theorem Ended.invalidated (h : Ended s (w.invalidateSlot d k) t)
    (ho : ∀ j, j ≠ k → (w.cache d).tag j = (s.cache d).tag j) :
    ((t.cache d).tag k).v = false ∧ ((t.cache d).tag k).l = false ∧
      ∀ j, j ≠ k → (t.cache d).tag j = (s.cache d).tag j := by
  rw [h.caches]
  refine ⟨?_, ?_, fun j hj => ?_⟩
  · rw [invalidateSlot_tag, if_pos rfl]
  · rw [invalidateSlot_tag, if_pos rfl]
  · rw [invalidateSlot_tag, if_neg hj, ho j hj]

/-- The tags of a locked slot. -/
theorem lockSlot_tag (j : Nat) : ((w.lockSlot d lock k).cache d).tag j =
    if j = k ∧ lock = true then { (w.cache d).tag j with l := true } else (w.cache d).tag j := by
  unfold State.lockSlot
  cases lock
  · rw [if_neg (by decide), if_neg (fun h => Bool.false_ne_true h.2)]
  · rw [if_pos rfl, setCache_cache, Cache.tag_setTag]
    by_cases h : j = k
    · rw [if_pos h, if_pos ⟨h, rfl⟩, h]
    · rw [if_neg h, if_neg (fun hc => h hc.1)]

/-- A line that was put into the cache, and locked where that was asked for. -/
theorem lockSlot_fresh {p : BitVec 20} {old : Nat → CacheTag}
    (h : ∀ j, (w.cache d).tag j = if j = k then ⟨p, true, false, false⟩ else old j) (j : Nat) :
    ((w.lockSlot d lock k).cache d).tag j = if j = k then ⟨p, true, false, lock⟩ else old j := by
  rw [lockSlot_tag, h j]
  by_cases hj : j = k
  · cases lock <;> simp [hj]
  · rw [if_neg hj, if_neg (fun hc => hj hc.1), if_neg hj]

theorem lockSlot_data : ((w.lockSlot d lock k).cache d).data = (w.cache d).data := by
  unfold State.lockSlot
  cases lock
  · rfl
  · rw [if_pos rfl, setCache_cache, Cache.data_setTag]

theorem lockSlot_mem : (w.lockSlot d lock k).mem = w.mem := by
  unfold State.lockSlot
  cases lock
  · rfl
  · cases d <;> rfl

end

/-! ### A refill (R260) -/

section
variable {s : State} {d : Bool} {va pa : Word}

/-- Where a way is unlocked a refill has a victim, an unlocked way. -/
theorem victim_unlocked {set : Nat}
    (h : ∃ w, w < numWays s.cfg d ∧ ((s.cache d).tag (slotOf s.cfg d w set)).l = false) :
    ∃ w, s.victim d set (fun _ => true) = some w ∧ w < numWays s.cfg d ∧
      ((s.cache d).tag (slotOf s.cfg d w set)).l = false := by
  have hmem : ∀ w, w ∈ refillWays s d set (fun _ => true) ↔
      w < numWays s.cfg d ∧ ((s.cache d).tag (slotOf s.cfg d w set)).l = false := fun w => by simp [refillWays]
  obtain ⟨w0, hw0⟩ := h
  have hpos : 0 < (refillWays s d set (fun _ => true)).length := List.length_pos_of_mem ((hmem w0).2 hw0)
  have hlt := Nat.mod_lt s.choice hpos
  exact ⟨_, List.getElem?_eq_getElem hlt, (hmem _).1 (List.getElem_mem hlt)⟩

/-- A data read of plain memory answers its bytes. -/
theorem busRead_plain {a n : Nat} (ha : a < 2 ^ 32) (hf : s.inputs.failData = false)
    (h : s.plainRam (BitVec.ofNat 32 a) n = true) :
    s.busRead false a n = .ok (some (Memory.readBytes s.mem a n)) s := by
  have hr : ∀ j, j < n → regionAt s.cfg.physMap (a + j) = some .ram := fun j hj => by
    have := ((plainRam_iff _ _ _).1 h j hj).1
    rwa [BitVec.toNat_ofNat, Nat.mod_eq_of_lt ha] at this
  simp [State.busRead, touchesDevice_of_ram _ _ _ hr, touchesNothing_of_ram _ _ _ hr, hf]

/-- The refill of a line from plain memory. -/
theorem refill_plain {w : Nat} (hg : s.gather = none) (hf : s.inputs.failData = false)
    (h : s.plainRam (BitVec.ofNat 32 (lineBase s.cfg d pa)) (lineBytes s.cfg d) = true)
    (hw : s.victim d (setIndex s.cfg d va pa) (fun _ => true) = some w) :
    s.refill d false va pa (fun _ => true) = .ok (some (slotOf s.cfg d w (setIndex s.cfg d va pa)))
      (s.dropChoice.installLine d va pa w (Memory.readBytes s.mem (lineBase s.cfg d pa) (lineBytes s.cfg d))
        false).2 := by
  have hflush : (if d then s.flushLine pa else s) = s := by
    unfold State.flushLine
    rw [hg, ite_self]
  have hbase : lineBase s.cfg d pa < 2 ^ 32 := Nat.lt_of_le_of_lt (Nat.sub_le _ _) pa.isLt
  have hread := busRead_plain (s := s.dropChoice) hbase hf h
  unfold State.refill
  simp only [hw, hflush]
  rw [hread]
  rfl

variable {way : Nat} {bs : List Byte} {slot : Nat}

/-- The cache after a line was put into it. -/
theorem installLine_cache (hs : slotOf s.cfg d way (setIndex s.cfg d va pa) = slot) :
    ((s.installLine d va pa way bs false).2.cache d) = ((((if d then s.writebackSlot slot else s).cache d).setBytes
      (lineBytes s.cfg d) slot 0 bs).setTag slot ⟨pa.extractLsb' 12 20, true, false, false⟩).used
        (slot % numSets s.cfg d) := by
  subst hs
  simp only [State.installLine, useSlot_cache, setCache_cache, setCache_cfg]
  cases d
  · rfl
  · simp only [if_true, writebackSlot_cfg]

theorem installLine_tag (hs : slotOf s.cfg d way (setIndex s.cfg d va pa) = slot) (k : Nat) :
    ((s.installLine d va pa way bs false).2.cache d).tag k =
      if k = slot then ⟨pa.extractLsb' 12 20, true, false, false⟩ else (s.cache d).tag k := by
  rw [installLine_cache hs, Cache.tag_used, Cache.tag_setTag, Cache.tag_setBytes]
  split
  · rfl
  · next hk =>
    cases d
    · rfl
    · exact writebackSlot_others s slot k hk

theorem installLine_bytes (hs : slotOf s.cfg d way (setIndex s.cfg d va pa) = slot) :
    ((s.installLine d va pa way bs false).2.cache d).bytes (lineBytes s.cfg d) slot 0 bs.length = bs := by
  rw [installLine_cache hs]
  have hall := Memory.readBytes_writeBytes ((if d then s.writebackSlot slot else s).cache d).data
    (slot * lineBytes s.cfg d + 0) 0 bs.length bs (by omega)
  show Memory.readBytes (Memory.writeBytes _ _ bs) _ _ = bs
  rw [Nat.add_zero] at hall ⊢
  rw [hall, List.take_zero, List.nil_append, Nat.zero_add, List.drop_eq_nil_of_le (Memory.length_readBytes ..).le,
    List.append_nil]

theorem Through.installed {u : State} (h : Through s u) : Through s (u.installLine d va pa way bs false).2 :=
  ((Through.ite d (h.wroteBack _) h).setCache d _).used d _

end

/-! ### The operations on the line of an address (R521) -/

section
variable {s : State} {d lock : Bool} {va pa : Word} {slot : Nat}

theorem hitOp_miss (op : BitVec 3) (hs : (s.cache d).lookup s.cfg d va pa = none) : s.hitOp d op va pa = s := by
  simp only [State.hitOp, hs, ite_self]

theorem hitOp_invalidate (hl : lineBytes s.cfg d ≠ 0) (hs : (s.cache d).lookup s.cfg d va pa = some slot) :
    s.hitOp d 4 va pa = (if d then s else s.pushILine .tag slot).invalidateSlot d slot := by
  simp only [State.hitOp, if_neg hl, hs]
  rfl

theorem hitOp_remove (hl : lineBytes s.cfg true ≠ 0) (hs : s.dcache.lookup s.cfg true va pa = some slot) :
    s.hitOp true 5 va pa = (s.writebackSlot slot).invalidateSlot true slot := by
  have hs' : (s.cache true).lookup s.cfg true va pa = some slot := hs
  simp only [State.hitOp, if_neg hl, hs']
  rfl

theorem hitOp_writeback (hl : lineBytes s.cfg true ≠ 0) (hs : s.dcache.lookup s.cfg true va pa = some slot) :
    s.hitOp true 6 va pa = (s.writebackSlot slot).useSlot true slot := by
  have hs' : (s.cache true).lookup s.cfg true va pa = some slot := hs
  simp only [State.hitOp, if_neg hl, hs']
  rfl

theorem fillLine_present (hl : lineBytes s.cfg d ≠ 0) (hs : (s.cache d).lookup s.cfg d va pa = some slot) :
    s.fillLine d lock va pa =
      .ok () (((if d || !lock then s else s.pushILine .lock slot).useSlot d slot).lockSlot d lock slot) := by
  simp only [State.fillLine, if_neg hl, hs]

theorem fillLine_absent {u : State} (hl : lineBytes s.cfg d ≠ 0) (hs : (s.cache d).lookup s.cfg d va pa = none)
    (hr : s.refill d false va pa (fun _ => true) = .ok (some slot) u) : s.fillLine d lock va pa =
      .ok () ((if d then u else u.pushHazard (s.ilineOld .line slot)).lockSlot d lock slot) := by
  simp only [State.fillLine, if_neg hl, hs, hr]
  rfl

end

/-! ### The instruction, operation by operation -/

section
variable {s : State} {base op : Reg} {off : BitVec 16} {va : Word} {d lock : Bool}

section
variable (ha : s.canAdvance = true) (hz : s.hazards = []) (hm : s.mode? = some .kernel)
  (heff : s.effAddr base off = va) (hv : inKseg0 va = true) (hn : cacheNoOp op = false)
include ha hz hm heff hv hn

/-- Index Store Tag. -/
theorem cache_storeTag (he : s.cp0.errCtl &&& 0x78000000 = 0) (hl : lineBytes s.cfg d ≠ 0)
    (hop : { s with llTouched := true }.cacheOp op va (unmapped va) =
      State.indexOp { s with llTouched := true } d 2 va) :
    ∃ t, exec (.cache base op off) s = .next t ∧ MemoryKept s t ∧ t.gpr = s.gpr ∧ CoreKept s t ∧
      ∀ k, (t.cache d).tag k = if k = indexSlot s.cfg d va then
        tagOfWord (if d then s.cp0.tagLo1 else s.cp0.tagLo0) d else (s.cache d).tag k := by
  have hthru := Through.touched s
  obtain ⟨t, ht, hend⟩ := exec_cache_through ha hz hm heff hv hn (hop.trans (indexOp_storeTag hz he hl))
    ((Through.setCache (.ite d hthru (hthru.pushed _ _)) d _).used d _)
  refine ⟨t, ht, hend.memoryKept (by cases d <;> rfl), hend.gpr, hend.core, fun k => ?_⟩
  rw [hend.caches, useSlot_cache, setCache_cache, Cache.tag_used, Cache.tag_setTag]
  cases d <;> rfl

/-- Index Invalidate and Index Writeback Invalidate. -/
theorem cache_indexInvalidate (he : s.cp0.errCtl &&& 0x78000000 = 0) (hl : lineBytes s.cfg d ≠ 0)
    (hop : { s with llTouched := true }.cacheOp op va (unmapped va) =
      State.indexOp { s with llTouched := true } d 0 va) :
    ∃ t, exec (.cache base op off) s = .next t ∧
      (if d then SlotWrittenBack s t (indexSlot s.cfg d va) else MemoryKept s t) ∧ t.gpr = s.gpr ∧ CoreKept s t ∧
      ((t.cache d).tag (indexSlot s.cfg d va)).v = false ∧ ((t.cache d).tag (indexSlot s.cfg d va)).l = false ∧
      ∀ j, j ≠ indexSlot s.cfg d va → (t.cache d).tag j = (s.cache d).tag j := by
  have hthru := Through.touched s
  obtain ⟨t, ht, hend⟩ := exec_cache_through ha hz hm heff hv hn (hop.trans (indexOp_invalidate hz he hl))
    ((Through.ite d (hthru.wroteBack _) (hthru.pushed _ _)).invalidated d _)
  have htags := hend.invalidated fun j hj => by
    cases d
    · rfl
    · exact writebackSlot_others _ _ j hj
  refine ⟨t, ht, ?_, hend.gpr, hend.core, htags⟩
  cases d
  · exact hend.memoryKept rfl
  · intro a
    rw [hend.mem, invalidateSlot_mem]
    exact slotWrittenBack_writebackSlot { s with llTouched := true } _ a

/-- The tag loads, before what each puts into which register: only a later `mfc0` may see it late. -/
theorem cache_loadTag (he : s.cp0.errCtl &&& 0x78000000 = 0) (hl : lineBytes s.cfg d ≠ 0)
    (hop : { s with llTouched := true }.cacheOp op va (unmapped va) =
      State.indexOp { s with llTouched := true } d 1 va) :
    ∃ t, exec (.cache base op off) s = .next t ∧
      t.cp0 = (State.indexLoadTag { s with llTouched := true } d va).cp0 ∧
      t = { s with llTouched := true, cp0 := t.cp0, pc := t.pc, npc := t.npc, slot := t.slot, hazards := t.hazards } ∧
      ∀ c : Consumer, c ≠ .readReg → t.view c = t := by
  obtain ⟨t, ht, ⟨-, hview, hframe⟩, hcp⟩ := (readBack_indexLoadTag { s with llTouched := true } d va hz).advance ha
  have hrun := congrArg Res.finish (hop.trans (indexOp_loadTag hz he hl))
  exact ⟨t, (exec_cache base op off hz hm hn heff hv).trans (hrun.trans ht), hcp, hframe, hview⟩

/-- Hit Invalidate of a line that is present. -/
theorem cache_hitInvalidate {slot : Nat} (hl : lineBytes s.cfg d ≠ 0)
    (hs : (s.cache d).lookup s.cfg d va (unmapped va) = some slot)
    (hop : { s with llTouched := true }.cacheOp op va (unmapped va) =
      .ok () (State.hitOp { s with llTouched := true } d 4 va (unmapped va))) :
    ∃ t, exec (.cache base op off) s = .next t ∧ MemoryKept s t ∧ t.gpr = s.gpr ∧ CoreKept s t ∧
      ((t.cache d).tag slot).v = false ∧ ((t.cache d).tag slot).l = false ∧
      ∀ k, k ≠ slot → (t.cache d).tag k = (s.cache d).tag k := by
  have hthru := Through.touched s
  obtain ⟨t, ht, hend⟩ := exec_cache_through ha hz hm heff hv hn (hop.trans (congrArg _
    (hitOp_invalidate (s := { s with llTouched := true }) hl hs))) ((Through.ite d hthru (hthru.pushed _ _)).invalidated d _)
  have htags := hend.invalidated fun j _ => by cases d <;> rfl
  exact ⟨t, ht, hend.memoryKept (by rw [invalidateSlot_mem]; cases d <;> rfl), hend.gpr, hend.core, htags⟩

/-- Hit Invalidate of a line that is absent. -/
theorem cache_hitMiss (hs : (s.cache d).lookup s.cfg d va (unmapped va) = none)
    (hop : { s with llTouched := true }.cacheOp op va (unmapped va) =
      .ok () (State.hitOp { s with llTouched := true } d 4 va (unmapped va))) :
    ∃ t, exec (.cache base op off) s = .next t ∧ NoResult { s with llTouched := true } t := by
  have hrun := hitOp_miss (s := { s with llTouched := true }) 4 hs
  rw [exec_cache base op off hz hm hn heff hv, hop, hrun]
  exact finish_noResult _ ha

/-- Hit Writeback Invalidate of a line that is present. -/
theorem cache_hitRemove {slot : Nat} (hl : lineBytes s.cfg true ≠ 0)
    (hs : s.dcache.lookup s.cfg true va (unmapped va) = some slot)
    (hop : { s with llTouched := true }.cacheOp op va (unmapped va) =
      .ok () (State.hitOp { s with llTouched := true } true 5 va (unmapped va))) :
    ∃ t, exec (.cache base op off) s = .next t ∧ t.gpr = s.gpr ∧ CoreKept s t ∧
      (t.dcache.tag slot).v = false ∧ (t.dcache.tag slot).l = false ∧ LineWrittenBack s t slot := by
  let s0 : State := { s with llTouched := true }
  have hrun := hitOp_remove (s := s0) hl hs
  obtain ⟨t, ht, hend⟩ := exec_cache_through ha hz hm heff hv hn (hop.trans (congrArg _ hrun))
    (((Through.touched s).wroteBack slot).invalidated true slot)
  obtain ⟨hline, hv', hl'⟩ := removed_line (s := s0) (slot := slot) (lookup_valid hs)
  refine ⟨t, ht, hend.gpr, hend.core, ?_, ?_, ?_⟩
  · rw [hend.dcache]; exact hv'
  · rw [hend.dcache]; exact hl'
  · refine lineWrittenBack_of (lookup_valid hs) (fun a => ?_) ?_ fun k hk => ?_
    · rw [hend.mem, invalidateSlot_mem]
      exact slotWrittenBack_writebackSlot s0 slot a
    · rw [hend.dcache]; exact hline.data
    · rw [hend.dcache]; exact hline.others k hk

/-- Hit Writeback of a line that is present. -/
theorem cache_hitWriteback {slot : Nat} (hl : lineBytes s.cfg true ≠ 0)
    (hs : s.dcache.lookup s.cfg true va (unmapped va) = some slot)
    (hop : { s with llTouched := true }.cacheOp op va (unmapped va) =
      .ok () (State.hitOp { s with llTouched := true } true 6 va (unmapped va))) :
    ∃ t, exec (.cache base op off) s = .next t ∧ t.gpr = s.gpr ∧ CoreKept s t ∧
      t.dcache.tag slot = { s.dcache.tag slot with d := false } ∧ LineWrittenBack s t slot := by
  let s0 : State := { s with llTouched := true }
  have hrun := hitOp_writeback (s := s0) hl hs
  obtain ⟨t, ht, hend⟩ := exec_cache_through ha hz hm heff hv hn (hop.trans (congrArg _ hrun))
    (((Through.touched s).wroteBack slot).used true slot)
  refine ⟨t, ht, hend.gpr, hend.core, ?_, ?_⟩
  · rw [hend.dcache]
    exact writebackSlot_tag s0 slot (lookup_valid hs)
  · refine lineWrittenBack_of (lookup_valid hs) (fun a => ?_) ?_ fun k hk => ?_
    · rw [hend.mem]
      exact slotWrittenBack_writebackSlot s0 slot a
    · rw [hend.dcache]; exact writebackSlot_data s0 slot
    · rw [hend.dcache]; exact writebackSlot_others s0 slot k hk

/-- Fill and Fetch and Lock of a line that is present. -/
theorem cache_fillPresent {slot : Nat} (hl : lineBytes s.cfg d ≠ 0)
    (hs : (s.cache d).lookup s.cfg d va (unmapped va) = some slot)
    (hop : { s with llTouched := true }.cacheOp op va (unmapped va) =
      State.fillLine { s with llTouched := true } d lock va (unmapped va)) :
    ∃ t, exec (.cache base op off) s = .next t ∧ MemoryKept s t ∧ t.gpr = s.gpr ∧ CoreKept s t ∧
      (t.cache d).data = (s.cache d).data ∧ ∀ k, (t.cache d).tag k =
        if k = slot ∧ lock = true then { (s.cache d).tag k with l := true } else (s.cache d).tag k := by
  let s0 : State := { s with llTouched := true }
  have hrun := fillLine_present (s := s0) (lock := lock) hl hs
  have hcache : (if d || !lock then s0 else s0.pushILine .lock slot).cache d = s.cache d := by
    cases d <;> cases lock <;> rfl
  have hthru := Through.touched s
  obtain ⟨t, ht, hend⟩ := exec_cache_through ha hz hm heff hv hn (hop.trans hrun)
    (((Through.ite _ hthru (hthru.pushed _ _)).used d slot).locked d lock slot)
  refine ⟨t, ht, hend.memoryKept ?_, hend.gpr, hend.core, ?_, fun k => ?_⟩
  · rw [lockSlot_mem]
    cases d <;> cases lock <;> rfl
  · rw [hend.caches, lockSlot_data, useSlot_cache, Cache.data_used, hcache]
  · rw [hend.caches, lockSlot_tag, useSlot_cache, Cache.tag_used, hcache]

/-- Fill and Fetch and Lock of a line that is absent: it comes from memory into an unlocked way. -/
theorem cache_fillAbsent (hl : lineBytes s.cfg d ≠ 0) (hs : (s.cache d).lookup s.cfg d va (unmapped va) = none)
    (hg : s.gather = none) (hf : s.inputs.failData = false)
    (hr : s.plainRam (BitVec.ofNat 32 (lineBase s.cfg d (unmapped va))) (lineBytes s.cfg d) = true)
    (hfree : ∃ w, w < numWays s.cfg d ∧
      ((s.cache d).tag (slotOf s.cfg d w (setIndex s.cfg d va (unmapped va)))).l = false)
    (hop : { s with llTouched := true }.cacheOp op va (unmapped va) =
      State.fillLine { s with llTouched := true } d lock va (unmapped va)) :
    ∃ t w, let slot := slotOf s.cfg d w (setIndex s.cfg d va (unmapped va))
      w < numWays s.cfg d ∧ ((s.cache d).tag slot).l = false ∧ exec (.cache base op off) s = .next t ∧
      t.gpr = s.gpr ∧ CoreKept s t ∧ (t.cache d).lookup s.cfg d va (unmapped va) = some slot ∧
      (t.cache d).tag slot = ⟨(unmapped va).extractLsb' 12 20, true, false, lock⟩ ∧
      (∀ k, k ≠ slot → (t.cache d).tag k = (s.cache d).tag k) ∧
      (t.cache d).bytes (lineBytes s.cfg d) slot 0 (lineBytes s.cfg d) =
        Memory.readBytes s.mem (lineBase s.cfg d (unmapped va)) (lineBytes s.cfg d) ∧
      (if d then SlotWrittenBack s t slot else MemoryKept s t) := by
  let s0 : State := { s with llTouched := true }
  obtain ⟨w, hvictim, hw, hunlocked⟩ := victim_unlocked (s := s0) (d := d) hfree
  let slot := slotOf s.cfg d w (setIndex s.cfg d va (unmapped va))
  let bs := Memory.readBytes s.mem (lineBase s.cfg d (unmapped va)) (lineBytes s.cfg d)
  let u := (s0.dropChoice.installLine d va (unmapped va) w bs false).2
  have hrun : s0.fillLine d lock va (unmapped va) =
      .ok () ((if d then u else u.pushHazard (s0.ilineOld .line slot)).lockSlot d lock slot) :=
    fillLine_absent hl hs (refill_plain hg hf hr hvictim)
  have hthru : Through s u := Through.installed ((Through.touched s).trans rfl)
  obtain ⟨t, ht, hend⟩ := exec_cache_through ha hz hm heff hv hn (hop.trans hrun)
    ((Through.ite d hthru (hthru.trans (u := u.pushHazard (s0.ilineOld .line slot)) rfl)).locked d lock slot)
  have hcache : (if d then u else u.pushHazard (s0.ilineOld .line slot)).cache d = u.cache d := by cases d <;> rfl
  have htag : ∀ k, (t.cache d).tag k =
      if k = slot then ⟨(unmapped va).extractLsb' 12 20, true, false, lock⟩ else (s.cache d).tag k := fun k => by
    rw [hend.caches]
    exact lockSlot_fresh (fun j => by rw [hcache]; exact installLine_tag rfl j) k
  have hdata : (t.cache d).data = (u.cache d).data := by rw [hend.caches, lockSlot_data, hcache]
  have hmiss := findWay_none.1 hs
  refine ⟨t, w, hw, hunlocked, ht, hend.gpr, hend.core, ?_, ?_, fun k hk => ?_, ?_, ?_⟩
  · refine findWay_only ?_ _ hw fun j hj => ?_
    · rw [Cache.holds, htag, if_pos rfl]
      simp
    · rw [Cache.holds, htag, if_neg fun h => Nat.ne_of_lt hj (slotOf_inj h)]
      exact hmiss j (Nat.lt_trans hj hw)
  · exact (htag slot).trans (if_pos rfl)
  · exact (htag k).trans (if_neg hk)
  · have hbytes := installLine_bytes (s := s0.dropChoice) (d := d) (va := va) (pa := unmapped va) (way := w) (bs := bs) rfl
    rw [Memory.length_readBytes] at hbytes
    rw [Cache.bytes, hdata]
    exact hbytes
  · cases d
    · exact hend.memoryKept lockSlot_mem
    · intro a
      rw [hend.mem, lockSlot_mem]
      exact slotWrittenBack_writebackSlot s0.dropChoice slot a

end

end

/-- Settles O25: an operation at a time, each a use of the lemma of that name above. -/
theorem cacheOperations : Obligations.CacheOperations := by
  unfold Obligations.CacheOperations
  intro base op off s ha hz hm va
  have heff : s.effAddr base off = va := rfl
  refine ⟨fun hn => ?_, fun hv he => ⟨fun hl => ?_, fun hl => ?_, fun hl => ?_, fun hl => ?_⟩, fun hv hl => ⟨?_, ?_⟩, ?_, ?_⟩
  · rw [exec_cache_noOp base op off hm hn]
    exact advance_noResult _ ha
  · exact cache_storeTag (d := true) ha hz hm heff hv (by decide) he hl rfl
  · exact cache_storeTag (d := false) ha hz hm heff hv (by decide) he hl rfl
  · intro k line
    refine ⟨cache_indexInvalidate (d := false) ha hz hm heff hv (by decide) he hl rfl, ?_⟩
    obtain ⟨t, ht, hcp, hframe, hview⟩ := cache_loadTag (d := false) (op := 0x04) ha hz hm heff hv (by decide) he hl rfl
    obtain ⟨hc, hp, hvalid, hd, hlock, hdata⟩ := indexLoadTag_icache { s with llTouched := true } va
    rw [← hcp] at hc hp hvalid hd hlock hdata
    refine ⟨t, ht, ?_, ?_, ?_, ?_, ?_, hc, hp, hvalid, hd, hlock, hdata, hview⟩
    · intro a; rw [hframe]
    · rw [hframe]
    · rw [hframe, hc]
      exact ⟨rfl, rfl, rfl, rfl, rfl, rfl, rfl, rfl, rfl, rfl, rfl, rfl⟩
    · rw [hframe]
    · rw [hframe]
  · intro k line
    refine ⟨cache_indexInvalidate (d := true) ha hz hm heff hv (by decide) he hl rfl, ?_⟩
    obtain ⟨t, ht, hcp, hframe, hview⟩ := cache_loadTag (d := true) (op := 0x05) ha hz hm heff hv (by decide) he hl rfl
    obtain ⟨hc, hp, hvalid, hd, hlock, hdata⟩ := indexLoadTag_dcache { s with llTouched := true } va
    rw [← hcp] at hc hp hvalid hd hlock hdata
    refine ⟨t, ht, ?_, ?_, ?_, ?_, ?_, hc, hp, hvalid, hd, hlock, hdata, hview⟩
    · intro a; rw [hframe]
    · rw [hframe]
    · rw [hframe, hc]
      exact ⟨rfl, rfl, rfl, rfl, rfl, rfl, rfl, rfl, rfl, rfl, rfl, rfl⟩
    · rw [hframe]
    · rw [hframe]
  · exact fun slot hs => cache_hitInvalidate (d := false) ha hz hm heff hv (by decide) hl hs rfl
  · exact fun hs => cache_hitMiss (d := false) ha hz hm heff hv (by decide) hs rfl
  · intro hv p hp
    have hop : State.cacheOp { s with llTouched := true } p.1 va (unmapped va) =
        State.fillLine { s with llTouched := true } p.2.1 p.2.2 va (unmapped va) ∧ cacheNoOp p.1 = false := by
      simp only [List.mem_cons, List.not_mem_nil, or_false] at hp
      rcases hp with rfl | rfl | rfl <;> exact ⟨rfl, by decide⟩
    intro d lock line first hl
    exact ⟨fun slot hs => cache_fillPresent ha hz hm heff hv hop.2 hl hs hop.1, fun hs hg hf hr hfree =>
      cache_fillAbsent ha hz hm heff hv hop.2 hl hs hg hf hr hfree hop.1⟩
  · intro slot h
    obtain ⟨_, _, hv, _, _, hl, _, hs⟩ := (cachedBytes_iff false).1 h
    exact ⟨cache_hitInvalidate (d := true) ha hz hm heff hv (by decide) hl hs rfl,
      cache_hitWriteback ha hz hm heff hv (by decide) hl hs rfl, cache_hitRemove ha hz hm heff hv (by decide) hl hs rfl⟩

end Sys2Proof.Machine

/-! ## Moves to and from CP0 (R578 to R581; obligation O50) -/

namespace Sys2Proof.Machine

/-! ### The registers by number and select -/

/-- The registers with the number and the select that name them (R81), in the order of the field tables. -/
def cpTable : List (CpReg × Reg × BitVec 3) :=
  [(.index, 0, 0), (.random, 1, 0), (.entryLo0, 2, 0), (.entryLo1, 3, 0), (.context, 4, 0), (.pageMask, 5, 0),
    (.wired, 6, 0), (.hwrena, 7, 0), (.badVAddr, 8, 0), (.count, 9, 0), (.entryHi, 10, 0), (.compare, 11, 0),
    (.status, 12, 0), (.intCtl, 12, 1), (.srsCtl, 12, 2), (.srsMap, 12, 3), (.cause, 13, 0), (.epc, 14, 0),
    (.prid, 15, 0), (.ebase, 15, 1), (.config, 16, 0), (.config1, 16, 1), (.config2, 16, 2), (.config3, 16, 3),
    (.config7, 16, 7), (.watchLo 0, 18, 0), (.watchLo 1, 18, 1), (.watchLo 2, 18, 2), (.watchLo 3, 18, 3),
    (.watchHi 0, 19, 0), (.watchHi 1, 19, 1), (.watchHi 2, 19, 2), (.watchHi 3, 19, 3), (.debug, 23, 0),
    (.traceControl, 23, 1), (.traceControl2, 23, 2), (.userTraceData, 23, 3), (.traceIBPC, 23, 4), (.traceDBPC, 23, 5),
    (.depc, 24, 0), (.perfCtl0, 25, 0), (.perfCnt0, 25, 1), (.perfCtl1, 25, 2), (.perfCnt1, 25, 3), (.errCtl, 26, 0),
    (.cacheErr, 27, 0), (.tagLo0, 28, 0), (.dataLo0, 28, 1), (.tagLo1, 28, 2), (.dataLo1, 28, 3), (.tagLo2, 28, 4),
    (.dataLo2, 28, 5), (.dataHi0, 29, 0), (.errorEPC, 30, 0), (.desave, 31, 0)]

/-- A register that a pair names stands in the table beside it. -/
theorem cpRegOf_mem {rd : Reg} {sel : BitVec 3} {r : CpReg} (h : cpRegOf rd sel = some r) : (r, rd, sel) ∈ cpTable := by
  have hall : ∀ (rd : Reg) (sel : BitVec 3), ∀ r ∈ cpRegOf rd sel, (r, rd, sel) ∈ cpTable := by decide
  exact hall rd sel r h

/-- The low bits that number the entries of a TLB (R83). -/
theorem tlbIndexBits_eq (n : Nat) : tlbIndexBits n = indexMask n := by
  have hclog : ∀ k m : Nat, 2 ^ k < m → m ≤ 2 ^ (k + 1) → Nat.clog 2 m = k + 1 := fun k m hlo hhi =>
    Nat.le_antisymm (Nat.clog_le_of_le_pow hhi) ((Nat.lt_clog_iff_pow_lt (by decide)).2 hlo)
  unfold tlbIndexBits indexMask
  split_ifs with h1 h2 h4 h8 h16 h32
  · rw [Nat.clog_of_right_le_one (by omega)]; rfl
  · rw [hclog 0 _ (by omega) (by omega)]; rfl
  · rw [hclog 1 _ (by omega) (by omega)]; rfl
  · rw [hclog 2 _ (by omega) (by omega)]; rfl
  · rw [hclog 3 _ (by omega) (by omega)]; rfl
  · rw [hclog 4 _ (by omega) (by omega)]; rfl
  · rw [hclog 5 _ (by omega) (by omega)]; rfl

/-- The field tables give each register the bits that the model writes. -/
theorem cp0Fields_eq (cfg : Cfg) : cp0Fields cfg = cpTable.map fun p => (p.2.1, p.2.2, cpWriteMask cfg p.1) := by
  unfold cp0Fields
  rw [tlbIndexBits_eq]
  rfl

section
variable {rd : Reg} {sel : BitVec 3} {r : CpReg} (h : cpRegOf rd sel = some r)
include h

theorem cp0Fields_mem (cfg : Cfg) : (rd, sel, cpWriteMask cfg r) ∈ cp0Fields cfg := by
  rw [cp0Fields_eq]
  exact List.mem_map_of_mem (f := fun p : CpReg × Reg × BitVec 3 => (p.2.1, p.2.2, cpWriteMask cfg p.1)) (cpRegOf_mem h)

theorem clearedByZero_eq : cp0ClearedByZero rd sel = cpClearMask r := by
  have hall : ∀ p ∈ cpTable, cp0ClearedByZero p.2.1 p.2.2 = cpClearMask p.1 := by decide
  exact hall _ (cpRegOf_mem h)

theorem clearedByOne_eq : cp0ClearedByOne rd = cpOneClearMask r := by
  have hall : ∀ p ∈ cpTable, cp0ClearedByOne p.2.1 = cpOneClearMask p.1 := by decide
  exact hall _ (cpRegOf_mem h)

/-- The rows of R974, but that an interrupt may see `Cause[TI]` old, which no `mtc0` writes. -/
theorem mtc0Seen_eq (c : Consumer) : consumerMask c r = mtc0Seen c rd sel ||| (if c = .interrupt ∧ r = .cause then
    0x40000000 else 0) := by
  have hall : ∀ p ∈ cpTable, consumerMask c p.1 = mtc0Seen c p.2.1 p.2.2 |||
      (if c = .interrupt ∧ p.1 = .cause then 0x40000000 else 0) := by cases c <;> decide
  exact hall _ (cpRegOf_mem h)

end

/-! ### The word written (R82, R579) -/

/-- The word after `mtc0`, mask by mask. -/
theorem cpNewWord_eq (cfg : Cfg) (r : CpReg) (old x : Word) : cpNewWord cfg r old x =
    (x &&& cpWriteMask cfg r) ||| (old &&& ~~~cpWriteMask cfg r &&& ~~~(cpClearMask r &&& ~~~x) &&&
      ~~~(cpOneClearMask r &&& x)) := by
  apply BitVec.eq_of_getLsbD_eq
  intro j hj
  have hdis := masks_disjoint cfg r j
  simp only [cpNewWord, BitVec.getLsbD_and, BitVec.getLsbD_or, BitVec.getLsbD_not, getLsbD_merge, hj, decide_true,
    Bool.true_and]
  cases hm : (cpWriteMask cfg r).getLsbD j with
  | true =>
    rw [(hdis hm).1, (hdis hm).2]
    simp
  | false => simp

/-- The registers that store nothing. -/
theorem cpNewWord_stored (c : Cp0) (cfg : Cfg) (r : CpReg) (x : Word) :
    (c.put r (cpNewWord cfg r (c.get r) x)).get r = cpNewWord cfg r (c.get r) x := by
  by_cases h : r ≠ .prid ∧ r ≠ .config1 ∧ r ≠ .config2 ∧ r ≠ .config3
  · exact put_get_same _ _ _ h
  · cases r <;> simp_all [Cp0.get, cpNewWord, merge, cpWriteMask]

/-- `Status[TS]` and `Status[NMI]` can only be cleared, and the bit 31 is not written (R97). -/
theorem cpNewWord_status (cfg : Cfg) (old x : Word) : cpNewWord cfg .status old x &&& 0x80280000 =
    old &&& x &&& 0x00280000 ||| (old &&& 0x80000000) := by
  have hm : cpWriteMask cfg .status &&& 0x80280000 = 0 := by
    show (if cfg.hasFPU then (0x7E42FF1F : Word) else 0x7A42FF1F) &&& 0x80280000 = 0
    cases cfg.hasFPU <;> decide
  have hk : (0x80280000 : Word) = 0x00280000 ||| 0x80000000 := by decide
  have hd : (0x00280000 : Word) &&& 0x80000000 = 0 := by decide
  rw [cpNewWord_eq]
  apply BitVec.eq_of_getLsbD_eq
  intro j hj
  have hmj : ((cpWriteMask cfg .status).getLsbD j && (0x80280000 : Word).getLsbD j) = false := by
    rw [← BitVec.getLsbD_and, hm]; exact BitVec.getLsbD_zero
  have hdj : ((0x00280000 : Word).getLsbD j && (0x80000000 : Word).getLsbD j) = false := by
    rw [← BitVec.getLsbD_and, hd]; exact BitVec.getLsbD_zero
  have hkj : (0x80280000 : Word).getLsbD j = ((0x00280000 : Word).getLsbD j || (0x80000000 : Word).getLsbD j) := by
    rw [hk, BitVec.getLsbD_or]
  have h1 : cpClearMask .status = 0x00280000 := rfl
  have h2 : cpOneClearMask .status = 0 := rfl
  simp only [h1, h2, BitVec.getLsbD_and, BitVec.getLsbD_or, BitVec.getLsbD_not, hj, decide_true, Bool.true_and, hkj]
    at hmj ⊢
  generalize (cpWriteMask cfg .status).getLsbD j = m at *
  generalize (0x00280000 : Word).getLsbD j = a at *
  generalize (0x80000000 : Word).getLsbD j = b at *
  generalize old.getLsbD j = o
  generalize x.getLsbD j = v
  have hz : (0 : Word).getLsbD j = false := BitVec.getLsbD_zero
  rw [hz]
  clear hkj
  revert hmj hdj m a b o v
  decide

/-! ### What `mtc0` leaves in CP0 -/

theorem cpSideEffect_other (s : State) {r : CpReg} (hc : r ≠ .compare) (hw : r ≠ .wired) : s.cpSideEffect r = s := by
  unfold State.cpSideEffect
  split
  · exact absurd rfl hc
  · exact absurd rfl hw
  · rfl

/-- The state after a write that is neither ignored nor refused. -/
def State.cpWritten (s : State) (r : CpReg) (x : Word) : State :=
  (s.setCp .mtc0 r (cpWrote s.cfg r x) (cpNewWord s.cfg r (s.cp0.get r) x)).cpSideEffect r

theorem cpWritten_frame (s : State) (r : CpReg) (x : Word) : s.cpWritten r x =
    { s with cp0 := (s.cpWritten r x).cp0, hazards := (s.cpWritten r x).hazards } := by
  unfold State.cpWritten State.cpSideEffect
  split <;> rfl

theorem cpWritten_cp0 (s : State) (r : CpReg) (x : Word) : (s.cpWritten r x).cp0 =
    let c := s.cp0.put r (cpNewWord s.cfg r (s.cp0.get r) x)
    if r = .compare then c.put .cause (s.cp0.cause &&& 0xBFFFFFFF)
    else if r = .wired then c.put .random (BitVec.ofNat 32 (s.cfg.tlbEntries - 1)) else c := by
  by_cases hc : r = .compare
  · rw [hc]; rfl
  by_cases hw : r = .wired
  · rw [hw]; rfl
  dsimp only
  rw [if_neg hc, if_neg hw, State.cpWritten, cpSideEffect_other _ hc hw]
  rfl

theorem cpWritten_same (s : State) (r : CpReg) (x : Word) :
    (s.cpWritten r x).cp0.get r = cpNewWord s.cfg r (s.cp0.get r) x := by
  rw [cpWritten_cp0]
  dsimp only
  split_ifs with hc hw
  · rw [put_get_other _ _ _ _ (by rw [hc]; decide), cpNewWord_stored]
  · rw [put_get_other _ _ _ _ (by rw [hw]; decide), cpNewWord_stored]
  · exact cpNewWord_stored _ _ _ _

theorem cpWritten_other (s : State) (r q : CpReg) (x : Word) (hq : q ≠ r) (hc : q ≠ .cause) (hr : q ≠ .random) :
    (s.cpWritten r x).cp0.get q = s.cp0.get q := by
  rw [cpWritten_cp0]
  dsimp only
  split_ifs
  · rw [put_get_other _ _ _ _ hc, put_get_other _ _ _ _ hq]
  · rw [put_get_other _ _ _ _ hr, put_get_other _ _ _ _ hq]
  · exact put_get_other _ _ _ _ hq

theorem cpWritten_cause (s : State) (r : CpReg) (x : Word) (hr : r ≠ .cause) :
    (s.cpWritten r x).cp0.cause = if r = .compare then s.cp0.cause &&& 0xBFFFFFFF else s.cp0.cause := by
  have hkept := put_get_other s.cp0 r .cause (cpNewWord s.cfg r (s.cp0.get r) x) (Ne.symm hr)
  rw [cpWritten_cp0]
  dsimp only
  split_ifs
  · rfl
  · exact hkept
  · exact hkept

theorem cpWritten_random (s : State) (r : CpReg) (x : Word) (hr : r ≠ .random) :
    (s.cpWritten r x).cp0.random =
      if r = .wired then BitVec.ofNat 32 (s.cfg.tlbEntries - 1) else s.cp0.random := by
  have hkept := put_get_other s.cp0 r .random (cpNewWord s.cfg r (s.cp0.get r) x) (Ne.symm hr)
  rw [cpWritten_cp0]
  dsimp only
  by_cases hc : r = .compare
  · rw [if_pos hc, if_neg (by rw [hc]; decide)]
    exact hkept
  · rw [if_neg hc]
    split_ifs
    · rfl
    · exact hkept

/-! ### What each consumer may see late (R974) -/

theorem merge_none (a b : Word) : merge a b 0 = a := by
  apply BitVec.eq_of_getLsbD_eq
  intro j _
  rw [getLsbD_merge, show (0 : Word).getLsbD j = false from BitVec.getLsbD_zero]
  rfl

theorem merge_same (a m : Word) : merge a a m = a := by
  apply BitVec.eq_of_getLsbD_eq
  intro j _
  rw [getLsbD_merge, ite_self]

theorem put_get_self (c : Cp0) (r : CpReg) : c.put r (c.get r) = c := by
  cases r <;> first | rfl | simp [Cp0.put, Cp0.get, Vector.get_eq_getElem]

/-- A register put back in some of its bits, also one that stores nothing. -/
theorem restored_get (c old : Cp0) (r : CpReg) (m : Word) :
    (c.put r (merge (c.get r) (old.get r) m)).get r = merge (c.get r) (old.get r) m := by
  by_cases h : r ≠ .prid ∧ r ≠ .config1 ∧ r ≠ .config2 ∧ r ≠ .config3
  · exact put_get_same _ _ _ h
  · cases r <;> simp_all [Cp0.get, merge]

/-- With one register hazard pending, a consumer sees the bits it may see old all new or all old. -/
theorem view_one (c : Consumer) (t : State) (p : Producer) (r : CpReg) (wrote old : Word)
    (h : t.hazards = [] ∨ t.hazards = [⟨.reg p r wrote old, true, true⟩]) :
    ∃ w ∈ [0, wrote &&& producerMask p c r],
      t.view c = { t with cp0 := t.cp0.put r (merge (t.cp0.get r) old w) } := by
  have hsame : t = { t with cp0 := t.cp0.put r (merge (t.cp0.get r) old 0) } := by rw [merge_none, put_get_self]
  have hmask : Hazard.mask ⟨.reg p r wrote old, true, true⟩ c = wrote &&& producerMask p c r := by
    unfold Hazard.mask
    rw [ite_self, if_pos rfl]
    exact BitVec.and_comm _ _
  rcases h with h | h
  · exact ⟨0, List.mem_cons_self, (view_eq c t h).trans hsame⟩
  · rw [show t.view c = viewHazards c t.freeCtr 0 [] _ t from congrArg (viewHazards c t.freeCtr 0 [] · t) h]
    simp only [viewHazards, hmask]
    split
    · exact ⟨_, List.mem_cons_of_mem _ List.mem_cons_self, rfl⟩
    · exact ⟨0, List.mem_cons_self, hsame⟩

/-- What a consumer sees of CP0 after a write of `Compare`: `Compare` and `Cause[TI]` each new or old. -/
theorem view_compare (c : Consumer) (t : State) (wrote old oldCause : Word)
    (h : t.hazards = [] ∨ t.hazards = [⟨.reg .timerClear .cause 0x40000000 oldCause, true, true⟩,
      ⟨.reg .mtc0 .compare wrote old, true, true⟩]) :
    ∃ w ∈ [0, wrote &&& consumerMask c .compare], ∃ v ∈ [0, 0x40000000 &&& producerMask .timerClear c .cause],
      t.view c = { t with cp0 := { t.cp0 with
        compare := merge t.cp0.compare old w, cause := merge t.cp0.cause oldCause v } } := by
  have hsame : t = { t with cp0 := { t.cp0 with
      compare := merge t.cp0.compare old 0, cause := merge t.cp0.cause oldCause 0 } } := by
    rw [merge_none, merge_none]
  have hmask : ∀ p r w o, Hazard.mask ⟨.reg p r w o, true, true⟩ c = w &&& producerMask p c r := fun p r w o => by
    unfold Hazard.mask
    rw [ite_self, if_pos rfl]
    exact BitVec.and_comm _ _
  have hnone : ∀ m : Word, (0 : Word) ∈ [0, m] := fun _ => List.mem_cons_self
  have hall : ∀ m : Word, m ∈ [0, m] := fun _ => List.mem_cons_of_mem _ List.mem_cons_self
  rcases h with h | h
  · exact ⟨0, hnone _, 0, hnone _, (view_eq c t h).trans hsame⟩
  · rw [show t.view c = viewHazards c t.freeCtr 0 [] _ t from congrArg (viewHazards c t.freeCtr 0 [] · t) h]
    simp only [viewHazards, hmask]
    split
    · split
      · exact ⟨_, hall _, _, hall _, rfl⟩
      · refine ⟨0, hnone _, _, hall _, ?_⟩
        rw [merge_none]
        rfl
    · split
      · refine ⟨_, hall _, 0, hnone _, ?_⟩
        rw [merge_none]
        simp only [keepAll, List.foldl, HazardOld.keep, Hazard.restore]
        show ({ t with cp0 := _ } : State) = _
        rw [put_get_other _ _ .cause _ (by decide), merge_same]
        rfl
      · exact ⟨0, hnone _, 0, hnone _, hsame⟩

/-- The bits that a consumer may see old are those of the rows of R974 among the bits written. -/
theorem seen_eq {rd : Reg} {sel : BitVec 3} {r : CpReg} (h : cpRegOf rd sel = some r) (cfg : Cfg) (x : Word)
    (c : Consumer) : cpWrote cfg r x &&& consumerMask c r = cpWrote cfg r x &&& mtc0Seen c rd sel := by
  rw [mtc0Seen_eq h c]
  by_cases hti : c = .interrupt ∧ r = .cause
  · rw [if_pos hti, hti.2, BitVec.and_or_distrib_left]
    have hnone : cpWrote cfg .cause x &&& 0x40000000 = 0 := by
      show ((0x08800300 : Word) ||| ((0x00400000 : Word) &&& ~~~x) ||| ((0 : Word) &&& x)) &&& 0x40000000 = 0
      have h0 : (0x08800300 : Word) &&& 0x40000000 = 0 := by decide
      have h1 : (0x00400000 : Word) &&& 0x40000000 = 0 := by decide
      rw [BitVec.and_or_distrib_right, BitVec.and_or_distrib_right, h0, BitVec.and_assoc, BitVec.and_comm (~~~x),
        ← BitVec.and_assoc, h1]
      simp
    rw [hnone]
    exact BitVec.or_zero
  · rw [if_neg hti]
    rw [show mtc0Seen c rd sel ||| (0 : Word) = mtc0Seen c rd sel from BitVec.or_zero]

section
variable {s t : State} {rd : Reg} {sel : BitVec 3} {r : CpReg} {x : Word}

theorem mtc0Hazard_plain (hz : s.hazards = []) (h : cpRegOf rd sel = some r) (hc : r ≠ .compare)
    (hh : t.hazards = [] ∨ t.hazards = (s.cpWritten r x).hazards) :
    Mtc0Hazard s t r rd sel (cpWrote s.cfg r x) := by
  have hone : (s.cpWritten r x).hazards = [⟨.reg .mtc0 r (cpWrote s.cfg r x) (s.cp0.get r), true, true⟩] := by
    by_cases hw : r = .wired
    · rw [hw, ← hz]; rfl
    · rw [State.cpWritten, cpSideEffect_other _ hc hw, ← hz]; rfl
  rw [hone] at hh
  intro c ti
  obtain ⟨w, hw, hview⟩ := view_one c t .mtc0 r _ _ hh
  rw [show producerMask .mtc0 c r = consumerMask c r from rfl, seen_eq h] at hw
  refine ⟨w, hw, 0, List.mem_cons_self, ?_, fun hr => ?_, fun q hq _ => ?_, ?_⟩ <;> rw [hview]
  · exact restored_get t.cp0 s.cp0 r w
  · exact (put_get_other t.cp0 r .cause _ (Ne.symm hr)).trans (merge_none _ _).symm
  · exact put_get_other t.cp0 r q _ hq

theorem mtc0Hazard_compare (hz : s.hazards = []) (h : cpRegOf rd sel = some .compare)
    (hh : t.hazards = [] ∨ t.hazards = (s.cpWritten .compare x).hazards) :
    Mtc0Hazard s t .compare rd sel (cpWrote s.cfg .compare x) := by
  have htwo : (s.cpWritten .compare x).hazards = [⟨.reg .timerClear .cause 0x40000000 s.cp0.cause, true, true⟩,
      ⟨.reg .mtc0 .compare (cpWrote s.cfg .compare x) s.cp0.compare, true, true⟩] := by
    rw [← hz]; rfl
  rw [htwo] at hh
  intro c ti
  obtain ⟨w, hw, v, hv, hview⟩ := view_compare c t _ _ _ hh
  rw [seen_eq h] at hw
  have hti : 0x40000000 &&& producerMask .timerClear c .cause = ti := by cases c <;> rfl
  rw [hti] at hv
  refine ⟨w, hw, v, hv, ?_, fun _ => ?_, fun q hq hq' => ?_, ?_⟩ <;> rw [hview]
  · rfl
  · rfl
  · show ((t.cp0.put .compare (merge t.cp0.compare s.cp0.compare w)).put .cause
      (merge t.cp0.cause s.cp0.cause v)).get q = _
    rw [put_get_other _ _ _ _ hq', put_get_other _ _ _ _ hq]

/-- What is pending after an `mtc0` (R974). -/
theorem mtc0Hazard (hz : s.hazards = []) (h : cpRegOf rd sel = some r)
    (hh : t.hazards = [] ∨ t.hazards = (s.cpWritten r x).hazards) :
    Mtc0Hazard s t r rd sel (cpWrote s.cfg r x) := by
  by_cases hc : r = .compare
  · subst hc
    exact mtc0Hazard_compare hz h hh
  · exact mtc0Hazard_plain hz h hc hh

end

/-! ### What `mfc0` reads (R578) -/

section
variable {s : State} {r : CpReg}

theorem cpRead_absent (h : cpPresent s.cfg r = false) : s.cpRead r = 0 := by
  unfold State.cpRead
  rw [h]
  rfl

theorem cpRead_plain (hz : s.hazards = []) (h : cpPresent s.cfg r = true) (hr : r ≠ .random) (hc : r ≠ .cause)
    (he : r ≠ .cacheErr) : s.cpRead r = s.cp0.get r ||| cpConst s.cfg r := by
  unfold State.cpRead
  rw [h, view_eq _ s hz]
  dsimp only [Bool.not_true]
  rw [if_neg (by decide)]
  split
  · exact absurd rfl hr
  · exact absurd rfl hc
  · exact absurd rfl he
  · rfl

theorem cpRead_cause (hz : s.hazards = []) : s.cpRead .cause = s.causeRead s.cp0.cause := by
  unfold State.cpRead
  rw [view_eq _ s hz]
  exact congrArg s.causeRead BitVec.or_zero

/-- `Cause` as read: the stored bits beside the requests and `PCI`. -/
theorem causeRead_kept (w : Word) : s.causeRead w &&& 0xFBFF03FF = w &&& 0xFBFF03FF := by
  unfold State.causeRead
  dsimp only
  split
  · exact putBit_and_out _ _ _ (by decide)
  · rw [merge_and_out _ _ (by decide), putBit_and_out _ _ _ (by decide)]

theorem causeRead_pci (w : Word) : (s.causeRead w).getLsbD 26 = s.pciPending := by
  have hput : (putBit w 26 s.pciPending).getLsbD 26 = s.pciPending := getLsbD_putBit _ _ _ _ (by decide)
  unfold State.causeRead
  dsimp only
  split
  · exact hput
  · rw [getLsbD_merge, show (0x0000FC00 : Word).getLsbD 26 = false by decide]
    exact hput

theorem causeRead_ripl (w : Word) (h : s.cfg.eicPresent = true) :
    (s.causeRead w).extractLsb' 10 6 = w.extractLsb' 10 6 := by
  unfold State.causeRead
  rw [h]
  exact extract_merge_out _ _ _ _ _ (by decide)

/-- The requests of R815 and the stored software requests. -/
theorem causeRead_requests (w : Word) (h : s.cfg.eicPresent = false) :
    (s.causeRead w).extractLsb' 8 8 = (s.ip &&& 0xFC) ||| (w.extractLsb' 8 2).setWidth 8 := by
  have h10 : ∀ j, j < 8 → (0x0000FC00 : Word).getLsbD (8 + j) = (0xFC : Byte).getLsbD j := by decide
  have hlow : ∀ j, j < 8 → (0xFC : Byte).getLsbD j = !decide (j < 2) := by decide
  unfold State.causeRead
  rw [h]
  apply BitVec.eq_of_getLsbD_eq
  intro j hj
  have h26 : 8 + j ≠ 26 := by omega
  have h32 : 8 + j < 32 := by omega
  have hnot : ¬8 + j < 8 := by omega
  simp only [Bool.false_eq_true, if_false, BitVec.getLsbD_extractLsb', hj, decide_true, Bool.true_and, getLsbD_merge,
    h10 j hj, getLsbD_putBit _ _ _ _ (show 26 < 32 by decide), if_neg h26, BitVec.getLsbD_or, BitVec.getLsbD_and,
    BitVec.getLsbD_setWidth, BitVec.getLsbD_shiftLeft, h32, hnot, decide_false, Bool.not_false, Nat.add_sub_cancel_left,
    hlow j hj]
  by_cases h2 : j < 2 <;> simp [h2]
  omega

/-- A value in the range of `Random` (R84). -/
theorem cpRead_random (hm : s.cfg.mmu = .tlb) (hlt : s.cp0.wired.toNat % 64 < s.cfg.tlbEntries)
    (hn : s.cfg.tlbEntries ≤ 64) :
    s.cp0.wired.toNat % 64 ≤ (s.cpRead .random).toNat ∧ (s.cpRead .random).toNat < s.cfg.tlbEntries := by
  have hpresent : cpPresent s.cfg .random = true := by simp [cpPresent, hm]
  have hval : s.cpRead .random = BitVec.ofNat 32 (s.cp0.wired.toNat % 64 +
      Config.freeNat s.freeCtr .random % (s.cfg.tlbEntries - s.cp0.wired.toNat % 64)) := by
    unfold State.cpRead
    rw [hpresent]
    show BitVec.ofNat 32 (s.drawRandom (s.cp0.wired.toNat % 64)) = _
    exact congrArg _ (if_pos hlt)
  have hmod := Nat.mod_lt (Config.freeNat s.freeCtr .random)
    (show 0 < s.cfg.tlbEntries - s.cp0.wired.toNat % 64 by omega)
  rw [hval]
  generalize Config.freeNat s.freeCtr .random % (s.cfg.tlbEntries - s.cp0.wired.toNat % 64) = f at hmod ⊢
  generalize s.cp0.wired.toNat % 64 = w at hmod hlt ⊢
  rw [BitVec.toNat_ofNat, Nat.mod_eq_of_lt (by omega)]
  omega

theorem pridWord_processor (cfg : Cfg) : (cpConst cfg .prid).extractLsb' 8 8 = 0x93 := by
  show (cfg.pridOptions ++ cfg.pridCompany ++ 0x93#8 ++ cfg.pridRevision).extractLsb' 8 8 = 0x93
  apply BitVec.eq_of_getLsbD_eq
  intro j hj
  simp only [BitVec.getLsbD_extractLsb', hj, decide_true, Bool.true_and, BitVec.getLsbD_append]
  rw [if_neg (by omega), if_pos (by omega), Nat.add_sub_cancel_left]
  rfl

end

/-! ### `di` and `ei` (R580, R581) -/

/-- The interrupt enable bit written, the old `Status` answered. -/
theorem irqEnable_put (s : State) (rt : Reg) (w : Word) (ha : s.canAdvance = true) (hz : s.hazards = []) :
    ∃ t, (s.setCp .irqEnable .status 0x00000001 w).put rt s.cp0.status = .next t ∧
      t.readGpr rt = (if rt = 0 then 0 else s.cp0.status) ∧ OtherGprsKept s t rt ∧
      t.cp0 = { s.cp0 with status := w } ∧ Went s t ∧ MemoryKept s t ∧
      (∀ c : Consumer, c ≠ .interrupt → t.view c = t) ∧
      t = { s with gpr := t.gpr, cp0 := t.cp0, pc := t.pc, npc := t.npc, slot := t.slot, hazards := t.hazards } := by
  let u := s.setCp .irqEnable .status 0x00000001 w
  have hadv : (u.writeGpr rt s.cp0.status).canAdvance = true := by rw [writeGpr_gpr_only]; exact ha
  obtain ⟨t, ht, hres⟩ := put_gprResult u rt s.cp0.status ha
  have hframe := hres.frame
  obtain ⟨hpc, hnpc, hslot, hhaz⟩ := hres.moved
  have hcp : t.cp0 = { s.cp0 with status := w } := by rw [hframe]; rfl
  refine ⟨t, ht, hres.value, hres.others, hcp, ⟨hpc, hnpc, hslot⟩, hres.memory, fun c hc => ?_, ?_⟩
  · refine view_unseen c t fun g hg => ?_
    rw [hhaz] at hg
    have hg' : g ∈ (⟨.reg .irqEnable .status 0x00000001 s.cp0.status, true, true⟩ :: s.hazards : List Hazard) :=
      hazardsAfter_sub u g hg
    rw [hz, List.mem_singleton] at hg'
    rw [hg']
    simp [Hazard.mask, producerMask_irqEnable c .status hc]
  · rw [hframe]; rfl

/-- `mtc0` of a register that is there and not refused. -/
theorem exec_mtc0_written {s : State} {rt rd : Reg} {sel : BitVec 3} {r : CpReg} (hu : s.cp0Usable = true)
    (h : cpRegOf rd sel = some r) (hp : cpPresent s.cfg r = true) (hr : s.cpWriteRefused r (s.readGpr rt) = none) :
    exec (.mtc0 rt rd sel) s = (s.cpWritten r (s.readGpr rt)).advance := by
  have hwrite : s.cpWrite r (s.readGpr rt) = .ok () (s.cpWritten r (s.readGpr rt)) := by
    unfold State.cpWrite
    rw [hp, hr]
    rfl
  refine (privileged_usable hu _).trans ?_
  rw [h]
  dsimp only
  rw [hwrite]
  rfl

/-- The value `mfc0` reads. -/
def State.mfc0Value (s : State) (rd : Reg) (sel : BitVec 3) : Word :=
  match cpRegOf rd sel with
  | some r => s.cpRead r
  | none => 0

theorem mfc0Value_some {s : State} {rd : Reg} {sel : BitVec 3} {r : CpReg} (h : cpRegOf rd sel = some r) :
    s.mfc0Value rd sel = s.cpRead r := by
  unfold State.mfc0Value
  rw [h]

/-- A register that the configuration adds nothing to. -/
theorem mfc0Value_stored {s : State} {rd : Reg} {sel : BitVec 3} {r : CpReg} (hz : s.hazards = [])
    (h : cpRegOf rd sel = some r) (hp : cpPresent s.cfg r = true) (hconst : cpConst s.cfg r = 0)
    (hne : r ≠ .random ∧ r ≠ .cause ∧ r ≠ .cacheErr) : s.mfc0Value rd sel = s.cp0.get r := by
  rw [mfc0Value_some h, cpRead_plain hz hp hne.1 hne.2.1 hne.2.2, hconst]
  exact BitVec.or_zero

theorem mfc0Value_cause {s : State} (hz : s.hazards = []) : s.mfc0Value 13 0 = s.causeRead s.cp0.cause :=
  (mfc0Value_some rfl).trans (cpRead_cause hz)

theorem exec_mfc0 (rt rd : Reg) (sel : BitVec 3) {s : State} (ha : s.canAdvance = true) (hu : s.cp0Usable = true)
    (hz : s.hazards = []) :
    ∃ t v, exec (.mfc0 rt rd sel) s = .next t ∧ GprResult s t rt v ∧
      (cpRegOf rd sel = none → v = 0) ∧ (∀ r, cpRegOf rd sel = some r → cpPresent s.cfg r = false → v = 0) ∧
      (∀ r, cpRegOf rd sel = some r → cpPresent s.cfg r = true → r ≠ .random → r ≠ .cause → r ≠ .cacheErr →
        v = s.cp0.get r ||| cpConst s.cfg r) ∧
      (rd = 8 → sel = 0 → v = s.cp0.badVAddr) ∧ (rd = 9 → sel = 0 → v = s.cp0.count) ∧
      (rd = 11 → sel = 0 → v = s.cp0.compare) ∧ (rd = 12 → sel = 0 → v = s.cp0.status) ∧
      (rd = 14 → sel = 0 → v = s.cp0.epc) ∧ (rd = 30 → sel = 0 → v = s.cp0.errorEPC) ∧
      (rd = 15 → sel = 0 → v.extractLsb' 8 8 = 0x93) ∧
      (rd = 15 → sel = 1 → v = s.cp0.ebase ||| 0x80000000 ||| s.cfg.cpuNum.setWidth 32) ∧
      (rd = 13 → sel = 0 → s.cfg.eicPresent = false →
        v.extractLsb' 8 8 = (s.ip &&& 0xFC) ||| (s.cp0.cause.extractLsb' 8 2).setWidth 8) ∧
      (rd = 13 → sel = 0 → v &&& 0xFBFF03FF = s.cp0.cause &&& 0xFBFF03FF ∧ v.getLsbD 26 = s.pciPending ∧
        (s.cfg.eicPresent = true → v.extractLsb' 10 6 = s.cp0.cause.extractLsb' 10 6)) ∧
      (rd = 1 → sel = 0 → s.cfg.mmu = .tlb → s.cp0.wired.toNat % 64 < s.cfg.tlbEntries → s.cfg.tlbEntries ≤ 64 →
        s.cp0.wired.toNat % 64 ≤ v.toNat ∧ v.toNat < s.cfg.tlbEntries) := by
  obtain ⟨t, ht, hres⟩ := put_gprResult s rt (s.mfc0Value rd sel) ha
  refine ⟨t, s.mfc0Value rd sel, (privileged_usable hu _).trans ht, hres, fun h => ?_, fun r h hp => ?_,
    fun r h hp h1 h2 h3 => ?_, ?_, ?_, ?_, ?_, ?_, ?_, ?_, ?_, ?_, ?_, ?_⟩
  · unfold State.mfc0Value
    rw [h]
  · rw [mfc0Value_some h, cpRead_absent hp]
  · rw [mfc0Value_some h, cpRead_plain hz hp h1 h2 h3]
  · rintro rfl rfl; exact mfc0Value_stored (r := .badVAddr) hz rfl rfl rfl (by decide)
  · rintro rfl rfl; exact mfc0Value_stored (r := .count) hz rfl rfl rfl (by decide)
  · rintro rfl rfl; exact mfc0Value_stored (r := .compare) hz rfl rfl rfl (by decide)
  · rintro rfl rfl; exact mfc0Value_stored (r := .status) hz rfl rfl rfl (by decide)
  · rintro rfl rfl; exact mfc0Value_stored (r := .epc) hz rfl rfl rfl (by decide)
  · rintro rfl rfl; exact mfc0Value_stored (r := .errorEPC) hz rfl rfl rfl (by decide)
  · rintro rfl rfl
    rw [mfc0Value_some (r := .prid) rfl, cpRead_plain hz rfl (by decide) (by decide) (by decide)]
    exact (congrArg (BitVec.extractLsb' 8 8) BitVec.zero_or).trans (pridWord_processor s.cfg)
  · rintro rfl rfl
    rw [mfc0Value_some (r := .ebase) rfl, cpRead_plain hz rfl (by decide) (by decide) (by decide)]
    exact (BitVec.or_assoc _ _ _).symm
  · rintro rfl rfl he
    rw [mfc0Value_cause hz]
    exact causeRead_requests _ he
  · rintro rfl rfl
    rw [mfc0Value_cause hz]
    exact ⟨causeRead_kept _, causeRead_pci _, causeRead_ripl _⟩
  · rintro rfl rfl hm hlt hn
    rw [mfc0Value_some (r := .random) rfl]
    exact cpRead_random hm hlt hn

/-- Settles O50: `mfc0` by the word each register reads, `mtc0` by the table of registers and the hazards of R974. -/
theorem cp0Moves : Obligations.Cp0Moves := by
  unfold Obligations.Cp0Moves
  intro rt rd sel s ha hu hz x only
  refine ⟨?_, fun hnone => ?_, fun r h hp => ?_, fun r h hp hr => ?_, ?_, ?_⟩
  · exact exec_mfc0 rt rd sel ha hu hz
  · have hrun : exec (.mtc0 rt rd sel) s = s.advance := (privileged_usable hu _).trans (by rw [hnone])
    rw [hrun]
    exact advance_noResult s ha
  · have hrun : exec (.mtc0 rt rd sel) s = s.advance := (privileged_usable hu _).trans (by
      rw [h]
      dsimp only
      rw [State.cpWrite, hp]
      rfl)
    rw [hrun]
    exact advance_noResult s ha
  · have hframe := cpWritten_frame s r x
    have hadv : (s.cpWritten r x).canAdvance = true := by rw [hframe]; exact ha
    have hwrote : cpWriteMask s.cfg r ||| (cp0ClearedByZero rd sel &&& ~~~x) ||| (cp0ClearedByOne rd &&& x) =
        cpWrote s.cfg r x := by rw [clearedByZero_eq h, clearedByOne_eq h]; rfl
    have hnpc : (s.cpWritten r x).npc = s.npc := by rw [hframe]
    refine ⟨_, cpWriteMask s.cfg r, cp0Fields_mem h s.cfg, (exec_mtc0_written hu h hp hr).trans (advance_eq _ hadv),
      ⟨?_, hnpc, congrArg (· + 4) hnpc, rfl⟩, ?_, fun q => cpWritten_other s r q x, fun hne => cpWritten_cause s r x hne,
      fun hne => cpWritten_random s r x hne, ?_, fun hstatus => ?_⟩
    · rw [hframe]
    · rw [clearedByZero_eq h, clearedByOne_eq h, ← cpNewWord_eq]
      exact cpWritten_same s r x
    · rw [hwrote]
      refine mtc0Hazard hz h ?_
      show (s.cpWritten r x).hazardsAfter = [] ∨ (s.cpWritten r x).hazardsAfter = _
      unfold State.hazardsAfter
      split
      · exact .inl rfl
      · exact .inr rfl
    · subst hstatus
      exact (congrArg (· &&& 0x80280000) (cpWritten_same s .status x)).trans (cpNewWord_status _ _ _)
  · obtain ⟨t, ht, h⟩ := irqEnable_put s rt (s.cp0.status &&& 0xFFFFFFFE) ha hz
    exact ⟨t, (privileged_usable hu _).trans ht, h⟩
  · obtain ⟨t, ht, h⟩ := irqEnable_put s rt (s.cp0.status ||| 0x00000001) ha hz
    exact ⟨t, (privileged_usable hu _).trans ht, h⟩

end Sys2Proof.Machine

/-! ## The frame of an FP instruction, and the compares (45_fpu.md sections 2 and 7; obligation O58) -/

namespace Sys2Proof.Machine

/-! ### `FCSR` (R624) -/

theorem cause_field : ∀ b : BitVec 5, (b.setWidth 32 <<< 12 : Word) &&& (0x0003F000 : Word) = b.setWidth 32 <<< 12 := by
  decide

/-- `FCSR` with the conditions in `Cause`. -/
theorem setCause_val (f : Word) (c : FpFlags) :
    setCause f false c = (f &&& (0xFFFC0FFF : Word)) ||| (c.bits.setWidth 32 <<< 12 : Word) := by
  have hzero : (bitAt 17 false ||| (c.bits.setWidth 32 <<< 12) : Word) = c.bits.setWidth 32 <<< 12 := BitVec.zero_or
  rw [setCause, hzero, merge_eq _ _ _ 0xFFFC0FFF (by decide), cause_field]

/-- `FCSR` with `E` set. -/
theorem setCause_unimplemented (f : Word) :
    setCause f true .none = (f &&& (0xFFFC0FFF : Word)) ||| (0x00020000 : Word) := by
  have hword : (bitAt 17 true ||| (FpFlags.none.bits.setWidth 32 <<< 12) : Word) = 0x00020000 := by decide
  rw [setCause, hword, merge_eq _ _ _ 0xFFFC0FFF (by decide)]
  exact congrArg _ (by decide)

/-- The exception is taken where a condition met is enabled. -/
theorem fpTraps_setCause (f : Word) (c : FpFlags) :
    fpTraps (setCause f false c) = (c.bits &&& f.extractLsb' 7 5 != 0) := by
  have hfield : ∀ b : BitVec 5, (bitAt 17 false ||| (b.setWidth 32 <<< 12) : Word).extractLsb' 12 5 = b := by decide
  have he : (setCause f false c).getLsbD 17 = false := by
    have hbit : ∀ b : BitVec 5, (bitAt 17 false ||| (b.setWidth 32 <<< 12) : Word).getLsbD 17 = false := by decide
    rw [setCause, getLsbD_merge, if_pos (by decide)]
    exact hbit c.bits
  have hc : (setCause f false c).extractLsb' 12 5 = c.bits :=
    (extract_merge_in _ _ _ 12 5 (by decide)).trans (hfield c.bits)
  have hf : (setCause f false c).extractLsb' 7 5 = f.extractLsb' 7 5 := extract_merge_out _ _ _ 7 5 (by decide)
  rw [fpTraps, he, hc, hf, Bool.false_or]

/-! ### The end of an arithmetic instruction -/

section
variable {i : Instr} {s : State} {f : FpFmt} {fd : Reg} {r : FpOut}

/-- With no condition enabled an instruction whose operation answers a result completes. -/
theorem completes_of_run (h : s.fpReady = true) (hf : s.fpForgiving = true) (hok : s.fmtOk f fd = true)
    (hv : r.isVal) (hrun : exec i s = s.fpEnd f fd r) : FpCompletes i s f fd r := by
  obtain ⟨ha, -, hz⟩ := (fpReady_iff s).1 h
  have henable : s.fcsr.extractLsb' 7 5 = 0 := by
    simp only [State.fpForgiving, Bool.and_eq_true, decide_eq_true_eq] at hf
    exact hf.2
  cases r with
  | unimplemented => exact hv.elim
  | val w c =>
    have htraps : fpTraps (setCause s.fcsr false c) = false := by
      rw [fpTraps_setCause, henable, show c.bits &&& (0 : BitVec 5) = 0 from BitVec.and_zero]
      rfl
    obtain ⟨t, ht, hres⟩ := advance_fprResult s f fd w (addFlags (setCause s.fcsr false c) c) ha hz hok
    rw [addFlags, setCause_val] at hres
    refine ⟨w, c, t, rfl, ?_, hres⟩
    rw [hrun, State.fpEnd, htraps]
    exact ht

/-- An instruction whose operation is Unimplemented, or meets an enabled condition, raises Floating Point. -/
theorem trapsOn_of_run (hrun : exec i s = s.fpEnd f fd r) : FpTrapsOn i s r := by
  refine ⟨fun hr => ?_, fun w c hr hc => ?_⟩
  · rw [hrun, hr, State.fpEnd, setCause_unimplemented]
  · have htraps : fpTraps (setCause s.fcsr false c) = true := by rw [fpTraps_setCause, bne_iff_ne]; exact hc
    rw [hrun, hr, State.fpEnd, htraps, if_pos rfl, setCause_val]

end

/-! ### What runs -/

section
variable {s : State} (h : s.fpReady = true)
include h

theorem fpOp1_run {src dst : FpFmt} {fs fd : Reg} (hs : s.fmtOk src fs = true) (hd : s.fmtOk dst fd = true)
    (op : FpEnv → DWord → FpOut) :
    s.fpOp1 src dst fs fd op = s.fpEnd dst fd (op s.fpEnv (s.readFpr src fs)) := by
  rw [State.fpOp1, cop1Instr_usable ((fpReady_iff s).1 h).2.1, needRegs_ok (by simp [hs, hd])]

theorem fpOpL_run {src dst : FpFmt} {fs fd : Reg} (hfr : s.fr = true) (op : FpEnv → DWord → FpOut) :
    s.fpOpL src dst fs fd op = s.fpEnd dst fd (op s.fpEnv (s.readFpr src fs)) := by
  rw [State.fpOpL, cop1Instr_usable ((fpReady_iff s).1 h).2.1]
  exact if_pos ((frUse_eq s ((fpReady_iff s).1 h).2.2).trans hfr)

theorem fpOpL_refused {src dst : FpFmt} {fs fd : Reg} (hfr : s.fr = false) (op : FpEnv → DWord → FpOut) :
    s.fpOpL src dst fs fd op = .refused .fr0LongFormat := by
  rw [State.fpOpL, cop1Instr_usable ((fpReady_iff s).1 h).2.1, State.needFr1, frUse_eq s ((fpReady_iff s).1 h).2.2, hfr]
  rfl

theorem fpOp2_run {f : FpFmt} {fs ft fd : Reg} (hs : s.fmtOk f fs = true) (ht : s.fmtOk f ft = true)
    (hd : s.fmtOk f fd = true) (op : FpEnv → DWord → DWord → FpOut) :
    s.fpOp2 f fs ft fd op = s.fpEnd f fd (op s.fpEnv (s.readFpr f fs) (s.readFpr f ft)) := by
  rw [State.fpOp2, cop1Instr_usable ((fpReady_iff s).1 h).2.1, needRegs_ok (by simp [hs, ht, hd])]

theorem fpOp3_run {f : FpFmt} {fr fs ft fd : Reg} (hr : s.fmtOk f fr = true) (hs : s.fmtOk f fs = true)
    (ht : s.fmtOk f ft = true) (hd : s.fmtOk f fd = true) (op : FpEnv → DWord → DWord → DWord → FpOut) :
    s.fpOp3 f fr fs ft fd op =
      s.fpEnd f fd (op s.fpEnv (s.readFpr f fr) (s.readFpr f fs) (s.readFpr f ft)) := by
  rw [State.fpOp3, cop1Instr_usable ((fpReady_iff s).1 h).2.1, needRegs_ok (by simp [hr, hs, ht, hd])]

end

/-! ### The numbers of finite values (R48) -/

/-- A value over a common exponent is the number it stands for. -/
theorem scaled_rat (sign : Bool) (m : Nat) {x e0 : Int} (h : e0 ≤ x) :
    ((scaled sign m x e0 : Int) : ℚ) * 2 ^ e0 = (FpVal.fin sign m x).rat := by
  have hpow : (2 : ℚ) ^ (x - e0).toNat * 2 ^ e0 = 2 ^ x := by
    rw [← zpow_natCast, ← zpow_add₀ two_ne_zero, Int.toNat_of_nonneg (by omega), Int.sub_add_cancel]
  unfold scaled FpVal.rat
  cases sign
  · simp only [Bool.false_eq_true, if_false, one_mul]
    push_cast
    rw [mul_assoc, hpow]
  · simp only [if_true]
    push_cast
    rw [neg_mul, mul_assoc, hpow]
    ring

theorem zpow_two_pos (x : Int) : (0 : ℚ) < 2 ^ x := zpow_pos two_pos x

/-- Less and equal over a common exponent are those of the numbers. -/
theorem scaled_lt_iff (sa sb : Bool) (ma mb : Nat) (ea eb : Int) :
    scaled sa ma ea (min ea eb) < scaled sb mb eb (min ea eb) ↔
      (FpVal.fin sa ma ea).rat < (FpVal.fin sb mb eb).rat := by
  rw [← scaled_rat sa ma (min_le_left ea eb), ← scaled_rat sb mb (min_le_right ea eb),
    mul_lt_mul_iff_left₀ (zpow_two_pos _), Int.cast_lt]

theorem scaled_eq_iff (sa sb : Bool) (ma mb : Nat) (ea eb : Int) :
    scaled sa ma ea (min ea eb) = scaled sb mb eb (min ea eb) ↔
      (FpVal.fin sa ma ea).rat = (FpVal.fin sb mb eb).rat := by
  rw [← scaled_rat sa ma (min_le_left ea eb), ← scaled_rat sb mb (min_le_right ea eb),
    mul_left_inj' (zpow_two_pos _).ne', Int.cast_inj]

/-! ### The compares (R660) -/

section
variable {s : State} {f : FpFmt} {fs ft : Reg} {cc : BitVec 3} {cond : BitVec 4}

/-- The conditions a compare meets. -/
def compareFlags (invalid : Bool) : FpFlags := if invalid then .invalid else .none

theorem fpCond_run (h : s.fpReady = true) (hs : s.fmtOk f fs = true) (ht : s.fmtOk f ft = true) :
    let r := fpCompare f cond (s.readFpr f fs) (s.readFpr f ft)
    let w := setCause s.fcsr false (compareFlags r.2)
    s.fpCond f cond fs ft cc = if fpTraps w then State.raise { s with fcsr := w } .fpe
      else State.advance ({ s with fcsr := addFlags w (compareFlags r.2) }.setFcc cc r.1) := by
  rw [State.fpCond, cop1Instr_usable ((fpReady_iff s).1 h).2.1, needRegs_ok (by simp [hs, ht])]
  rfl

theorem fccPos_lt (cc : BitVec 3) : fccPos cc < 32 := by
  unfold fccPos
  split <;> omega

/-- `FCSR` after a compare that met Invalid or not. -/
theorem compare_fcsr (w : Word) (invalid : Bool) (j : Nat) :
    (addFlags (setCause w false (compareFlags invalid)) (compareFlags invalid)).getLsbD j =
      if j = 16 then invalid else if 12 ≤ j ∧ j ≤ 17 then false else if j = 6 then w.getLsbD 6 || invalid
      else w.getLsbD j := by
  have hword : (compareFlags invalid).bits.setWidth 32 = bitAt 4 invalid := by cases invalid <;> decide
  have hcause : (bitAt 4 invalid <<< 12 : Word) = bitAt 16 invalid := by cases invalid <;> decide
  have hflag : (bitAt 4 invalid <<< 2 : Word) = bitAt 6 invalid := by cases invalid <;> decide
  have hmask : ∀ j, j < 32 → (0x0003F000 : Word).getLsbD j = decide (12 ≤ j ∧ j ≤ 17) := by decide
  rcases Nat.lt_or_ge j 32 with hj | hj
  · have hzero : (bitAt 17 false).getLsbD j = false := BitVec.getLsbD_zero
    rw [addFlags, setCause, hword, hcause, hflag, BitVec.getLsbD_or, getLsbD_merge, BitVec.getLsbD_or, hmask j hj,
      getLsbD_bitAt 16 _ j (by decide), getLsbD_bitAt 6 _ j (by decide), hzero, Bool.false_or]
    by_cases h16 : j = 16
    · simp [h16]
    · by_cases hin : 12 ≤ j ∧ j ≤ 17
      · have h6 : j ≠ 6 := by omega
        simp [h16, hin, h6]
      · by_cases h6 : j = 6
        · simp [h6]
        · simp [h16, hin, h6]
  · rw [BitVec.getLsbD_of_ge _ _ hj, BitVec.getLsbD_of_ge _ _ hj, if_neg (by omega), if_neg (by omega),
      if_neg (by omega)]

theorem compare_traps (w : Word) (invalid : Bool) :
    fpTraps (setCause w false (compareFlags invalid)) = (invalid && w.getLsbD 11) := by
  rw [fpTraps_setCause]
  cases invalid
  · show ((0 : BitVec 5) &&& w.extractLsb' 7 5 != 0) = false
    rw [show (0 : BitVec 5) &&& w.extractLsb' 7 5 = 0 from BitVec.zero_and]
    rfl
  · have hall : ∀ b : BitVec 5, (FpFlags.invalid.bits &&& b != 0) = b.getLsbD 4 := by decide
    refine (hall _).trans ?_
    rw [BitVec.getLsbD_extractLsb']
    rfl

end

/-- The compares of a format by their conditions. -/
theorem exec_compare_single (fs ft : Reg) (cc : BitVec 3) (s : State) :
    ∀ p ∈ [((0 : BitVec 4), Instr.c_f_s ft fs cc), (1, .c_un_s ft fs cc), (2, .c_eq_s ft fs cc),
        (3, .c_ueq_s ft fs cc), (4, .c_olt_s ft fs cc), (5, .c_ult_s ft fs cc), (6, .c_ole_s ft fs cc),
        (7, .c_ule_s ft fs cc), (8, .c_sf_s ft fs cc), (9, .c_ngle_s ft fs cc), (10, .c_seq_s ft fs cc),
        (11, .c_ngl_s ft fs cc), (12, .c_lt_s ft fs cc), (13, .c_nge_s ft fs cc), (14, .c_le_s ft fs cc),
        (15, .c_ngt_s ft fs cc)],
      exec p.2 s = s.fpCond .single p.1 fs ft cc := by
  simp only [List.forall_mem_cons]
  exact ⟨rfl, rfl, rfl, rfl, rfl, rfl, rfl, rfl, rfl, rfl, rfl, rfl, rfl, rfl, rfl, rfl, fun _ h => nomatch h⟩

theorem exec_compare_double (fs ft : Reg) (cc : BitVec 3) (s : State) :
    ∀ p ∈ [((0 : BitVec 4), Instr.c_f_d ft fs cc), (1, .c_un_d ft fs cc), (2, .c_eq_d ft fs cc),
        (3, .c_ueq_d ft fs cc), (4, .c_olt_d ft fs cc), (5, .c_ult_d ft fs cc), (6, .c_ole_d ft fs cc),
        (7, .c_ule_d ft fs cc), (8, .c_sf_d ft fs cc), (9, .c_ngle_d ft fs cc), (10, .c_seq_d ft fs cc),
        (11, .c_ngl_d ft fs cc), (12, .c_lt_d ft fs cc), (13, .c_nge_d ft fs cc), (14, .c_le_d ft fs cc),
        (15, .c_ngt_d ft fs cc)],
      exec p.2 s = s.fpCond .double p.1 fs ft cc := by
  simp only [List.forall_mem_cons]
  exact ⟨rfl, rfl, rfl, rfl, rfl, rfl, rfl, rfl, rfl, rfl, rfl, rfl, rfl, rfl, rfl, rfl, fun _ h => nomatch h⟩

/-- A compare with Invalid not enabled. -/
theorem fpCond_completes {s : State} {f : FpFmt} {fs ft : Reg} {cc : BitVec 3} {cond : BitVec 4}
    (h : s.fpReady = true) (hs : s.fmtOk f fs = true) (ht : s.fmtOk f ft = true) (hoff : s.fcsr.getLsbD 11 = false) :
    let x := s.readFpr f fs
    let y := s.readFpr f ft
    let r := compareVal (f.value x) (f.value y)
    let un := f.isNan x || f.isNan y
    let invalid := f.isSnan x || f.isSnan y || (un && cond.getLsbD 3)
    ∃ t, s.fpCond f cond fs ft cc = .next t ∧
      t.fcc cc = (if un then cond.getLsbD 0 else (cond.getLsbD 2 && r.1) || (cond.getLsbD 1 && r.2)) ∧
      (∀ j, j ≠ fccPos cc → t.fcsr.getLsbD j =
        if j = 16 then invalid else if 12 ≤ j ∧ j ≤ 17 then false
        else if j = 6 then s.fcsr.getLsbD 6 || invalid else s.fcsr.getLsbD j) ∧
      MemoryKept s t ∧ Moved s t ∧
      t = { s with fcsr := t.fcsr, pc := t.pc, npc := t.npc, slot := t.slot, hazards := t.hazards } := by
  intro x y r un invalid
  obtain ⟨ha, -, hz⟩ := (fpReady_iff s).1 h
  have hcode : (fpCompare f cond x y).1 =
      if un then cond.getLsbD 0 else (cond.getLsbD 2 && r.1) || (cond.getLsbD 1 && r.2) := by
    show ((cond.getLsbD 2 && !un && r.1) || (cond.getLsbD 1 && !un && r.2) || (cond.getLsbD 0 && un)) = _
    cases un <;> simp
  have hinv : (fpCompare f cond x y).2 = invalid := by
    show (f.isSnan x || f.isSnan y || (cond.getLsbD 3 && un)) = _
    rw [Bool.and_comm]
  have hrun := fpCond_run (cc := cc) (cond := cond) h hs ht
  dsimp only at hrun
  rw [hinv, compare_traps, hoff, Bool.and_false, if_neg Bool.false_ne_true, hcode] at hrun
  generalize hw : addFlags (setCause s.fcsr false (compareFlags invalid)) (compareFlags invalid) = w at hrun
  refine ⟨_, hrun.trans (advance_eq _ ha), ?_, fun j hj => ?_, fun _ => rfl, ⟨rfl, rfl, rfl, rfl⟩, rfl⟩
  · exact (getLsbD_putBit _ _ _ _ (fccPos_lt cc)).trans (if_pos rfl)
  · rw [← compare_fcsr, hw]
    exact (getLsbD_putBit _ _ _ _ (fccPos_lt cc)).trans (if_neg hj)

/-- Settles O58: the order of the numbers, then each compare by its condition. -/
theorem fpCompares : Obligations.FpCompares := by
  unfold Obligations.FpCompares
  refine ⟨fun a b ha hb => ?_, fun fs ft cc s h hoff => ?_⟩
  · cases a with
    | nan g => exact absurd rfl (ha g)
    | inf sa =>
      cases b with
      | nan g => exact absurd rfl (hb g)
      | inf sb => simp [compareVal]
      | fin sb mb eb => simp [compareVal]
    | fin sa ma ea =>
      cases b with
      | nan g => exact absurd rfl (hb g)
      | inf sb => simp [compareVal]
      | fin sb mb eb =>
        simp only [compareVal, decide_eq_true_eq]
        exact ⟨scaled_lt_iff sa sb ma mb ea eb, scaled_eq_iff sa sb ma mb ea eb⟩
  · intro compares
    have hz := ((fpReady_iff s).1 h).2.2
    refine ⟨fun p hp => ?_, fun hfr p hp => ?_⟩
    · show ∃ t, exec p.2 s = .next t ∧ _
      rw [exec_compare_single fs ft cc s p hp]
      exact fpCond_completes h (fmtOk_single s fs) (fmtOk_single s ft) hoff
    · show ∃ t, exec p.2 s = .next t ∧ _
      rw [exec_compare_double fs ft cc s p hp]
      exact fpCond_completes h (fmtOk_double s fs hz (hfr.imp id And.left)) (fmtOk_double s ft hz (hfr.imp id And.right))
        hoff

end Sys2Proof.Machine

/-! ## The arithmetic instructions and conversions: what runs, and the traps (obligation O59) -/

namespace Sys2Proof.Machine

/-! ### Operands and NaNs (R625, R627) -/

section
variable {f : FpFmt} {e : FpEnv} {w : DWord}

theorem operand_kept (h : f.tiny w = false) : f.operand e w = some w := by
  unfold FpFmt.operand
  rw [h]
  rfl

theorem operand_none (h : f.tiny w = true) (hs : e.fs = false) (ho : e.fo = false) : f.operand e w = none := by
  unfold FpFmt.operand
  rw [h, hs, ho]
  rfl

theorem maxExp_pos (f : FpFmt) : 0 < f.maxExp := by
  unfold FpFmt.maxExp FpFmt.expBits
  split <;> decide

theorem value_of_maxExp (h : f.expOf w = f.maxExp) : f.value w =
    if f.fracOf w = 0 then .inf (f.signOf w) else .nan (decide (2 ^ (f.frac - 1) ≤ f.fracOf w)) := if_pos h

theorem value_of_zero (h : f.expOf w = 0) :
    f.value w = .fin (f.signOf w) (f.fracOf w) (1 - (f.bias : Int) - f.frac) := by
  refine (if_neg ?_).trans (if_pos h)
  rw [h]
  exact (maxExp_pos f).ne

theorem value_of_normal (h : f.expOf w ≠ f.maxExp) (h0 : f.expOf w ≠ 0) :
    f.value w = .fin (f.signOf w) (f.fracOf w + 2 ^ f.frac) ((f.expOf w : Int) - f.bias - f.frac) :=
  (if_neg h).trans (if_neg h0)

/-- A tiny bit pattern is a number. -/
theorem value_of_tiny (h : f.tiny w = true) :
    f.value w = .fin (f.signOf w) (f.fracOf w) (1 - (f.bias : Int) - f.frac) := by
  simp only [FpFmt.tiny, Bool.and_eq_true, decide_eq_true_eq] at h
  exact value_of_zero h.1

theorem isNan_of_isSnan (h : f.isSnan w = true) : f.isNan w = true := by
  rw [FpFmt.isSnan, decide_eq_true_eq] at h
  unfold FpFmt.isNan
  rw [h]

theorem isNan_of_fin {s : Bool} {m : Nat} {x : Int} (h : f.value w = .fin s m x) : f.isNan w = false := by
  unfold FpFmt.isNan
  rw [h]

theorem isNan_of_inf {s : Bool} (h : f.value w = .inf s) : f.isNan w = false := by
  unfold FpFmt.isNan
  rw [h]

theorem not_tiny_of_isNan (h : f.isNan w = true) : f.tiny w = false := by
  cases ht : f.tiny w with
  | false => rfl
  | true => rw [isNan_of_fin (value_of_tiny ht)] at h; cases h

/-- A zero is not tiny. -/
theorem not_tiny_of_zero {s : Bool} {x : Int} (h : f.value w = .fin s 0 x) : f.tiny w = false := by
  cases ht : f.tiny w with
  | false => rfl
  | true =>
    have hm : f.fracOf w = 0 := by
      have hv := (value_of_tiny ht).symm.trans h
      injection hv
    simp [FpFmt.tiny, hm] at ht

theorem nanResult_snan {product : Bool} {ws : List DWord} (h : ws.any f.isSnan = true) :
    f.nanResult e product ws = some f.invalid := if_pos h

theorem nanResult_none {product : Bool} {ws : List DWord} (h : ∀ w ∈ ws, f.isNan w = false) :
    f.nanResult e product ws = none := by
  have hs : ws.any f.isSnan = false := by
    rw [List.any_eq_false]
    intro w hw hsn
    have hn := isNan_of_isSnan hsn
    rw [h w hw] at hn
    cases hn
  have hf : ws.filter f.isNan = [] := by
    rw [List.filter_eq_nil_iff]
    intro w hw
    rw [h w hw]
    exact Bool.false_ne_true
  unfold FpFmt.nanResult
  rw [hs, hf]
  rfl

end

/-! ### Operations on operands that are not flushed -/

section
variable {f : FpFmt} {e : FpEnv} {x y : DWord}

theorem fpAdd_plain (n : Bool) (hx : f.tiny x = false) (hy : f.tiny y = false) : fpAdd f n e x y =
    (f.nanResult e false [x, y]).getD (f.addVal e (f.value x) (if n then (f.value y).neg else f.value y)) := by
  unfold fpAdd
  rw [operand_kept hx, operand_kept hy]

/-- The product of two values that are not NaNs, as a result (R649). -/
def FpFmt.mulOut (f : FpFmt) (e : FpEnv) (a b : FpVal) : FpOut :=
  match mulVal a b with
  | none => f.invalid
  | some v => f.ofVal e v

theorem fpMul_plain (hx : f.tiny x = false) (hy : f.tiny y = false) : fpMul f e x y =
    (f.nanResult e false [x, y]).getD (f.mulOut e (f.value x) (f.value y)) := by
  unfold fpMul
  rw [operand_kept hx, operand_kept hy]
  rfl

/-- The quotient of two values that are not NaNs (R650). -/
def FpFmt.divVal (f : FpFmt) (e : FpEnv) (a b : FpVal) : FpOut :=
  match a, b with
  | .inf _, .inf _ => f.invalid
  | .inf sa, .fin sb _ _ => .val (f.inf (sa != sb)) .none
  | .fin sa _ _, .inf sb => .val (f.zero (sa != sb)) .none
  | .fin sa ma ea, .fin sb mb eb =>
    if mb = 0 then (if ma = 0 then f.invalid else .val (f.inf (sa != sb)) .divZero)
    else if ma = 0 then .val (f.zero (sa != sb)) .none
    else f.roundExact e (quotient (sa != sb) ma ea mb eb)
  | _, _ => f.invalid

theorem fpDiv_plain (hx : f.tiny x = false) (hy : f.tiny y = false) : fpDiv f e x y =
    (f.nanResult e false [x, y]).getD (f.divVal e (f.value x) (f.value y)) := by
  unfold fpDiv
  rw [operand_kept hx, operand_kept hy]
  rfl

/-- The square root of a value that is not a NaN (R651). -/
def FpFmt.sqrtVal (f : FpFmt) (e : FpEnv) : FpVal → FpOut
  | .inf s => if s then f.invalid else .val (f.inf false) .none
  | .fin s m x => if m = 0 then .val (f.zero s) .none else if s then f.invalid else f.roundExact e (rootExact m x)
  | .nan _ => f.invalid

theorem fpSqrt_plain (hx : f.tiny x = false) :
    fpSqrt f e x = (f.nanResult e false [x]).getD (f.sqrtVal e (f.value x)) := by
  unfold fpSqrt
  rw [operand_kept hx]
  rfl

/-- The reciprocal of a value that is not a NaN (R658). -/
def FpFmt.recipVal (f : FpFmt) (e : FpEnv) : FpVal → FpOut
  | .inf s => .val (f.zero s) .none
  | .fin s m x => if m = 0 then .val (f.inf s) .divZero else f.approx e 1 (quotient s (2 ^ f.frac) (-f.frac) m x)
  | .nan _ => f.invalid

theorem fpRecip_plain (hx : f.tiny x = false) :
    fpRecip f e x = (f.nanResult e false [x]).getD (f.recipVal e (f.value x)) := by
  unfold fpRecip
  rw [operand_kept hx]
  rfl

/-- The reciprocal square root of a value that is not a NaN (R659). -/
def FpFmt.rsqrtVal (f : FpFmt) (e : FpEnv) : FpVal → FpOut
  | .inf s => if s then f.invalid else .val (f.zero false) .none
  | .fin s m x =>
    if m = 0 then .val (f.inf s) .divZero else if s then f.invalid else f.approx e 2 (rootRecip m x)
  | .nan _ => f.invalid

theorem fpRsqrt_plain (hx : f.tiny x = false) :
    fpRsqrt f e x = (f.nanResult e false [x]).getD (f.rsqrtVal e (f.value x)) := by
  unfold fpRsqrt
  rw [operand_kept hx]
  rfl

/-! ### Tiny operands that are not flushed -/

section
variable (hs : e.fs = false) (ho : e.fo = false)
include hs ho

theorem binary_unimplemented (h : f.tiny x = true ∨ f.tiny y = true) :
    (∀ n, fpAdd f n e x y = .unimplemented) ∧ fpMul f e x y = .unimplemented ∧ fpDiv f e x y = .unimplemented ∧
      ∀ sub z, fpMulAdd f sub e z x y = .unimplemented := by
  rcases h with h | h
  · have hn := operand_none h hs ho
    unfold fpAdd fpMul fpDiv fpMulAdd
    rw [hn]
    refine ⟨fun _ => rfl, rfl, rfl, fun _ z => ?_⟩
    cases f.operand e z <;> rfl
  · have hn := operand_none h hs ho
    unfold fpAdd fpMul fpDiv fpMulAdd
    rw [hn]
    refine ⟨fun _ => ?_, ?_, ?_, fun _ z => ?_⟩
    · cases f.operand e x <;> rfl
    · cases f.operand e x <;> rfl
    · cases f.operand e x <;> rfl
    · cases f.operand e z <;> cases f.operand e x <;> rfl

theorem unary_unimplemented (h : f.tiny x = true) : fpSqrt f e x = .unimplemented ∧ fpRecip f e x = .unimplemented ∧
    fpRsqrt f e x = .unimplemented := by
  unfold fpSqrt fpRecip fpRsqrt
  rw [operand_none h hs ho]
  exact ⟨rfl, rfl, rfl⟩

end

/-! ### Signalling NaNs -/

theorem binary_snan (h : f.isSnan x = true ∨ f.isSnan y = true) (hx : f.tiny x = false) (hy : f.tiny y = false) :
    (∀ n, fpAdd f n e x y = f.invalid) ∧ fpMul f e x y = f.invalid ∧ fpDiv f e x y = f.invalid := by
  have hnan : f.nanResult e false [x, y] = some f.invalid := nanResult_snan (by simpa using h)
  refine ⟨fun n => ?_, ?_, ?_⟩
  · rw [fpAdd_plain n hx hy, hnan]; rfl
  · rw [fpMul_plain hx hy, hnan]; rfl
  · rw [fpDiv_plain hx hy, hnan]; rfl

theorem unary_snan (h : f.isSnan x = true) :
    fpSqrt f e x = f.invalid ∧ fpRecip f e x = f.invalid ∧ fpRsqrt f e x = f.invalid := by
  have hx := not_tiny_of_isNan (isNan_of_isSnan h)
  have hnan : f.nanResult e false [x] = some f.invalid := nanResult_snan (by simpa using h)
  refine ⟨?_, ?_, ?_⟩
  · rw [fpSqrt_plain hx, hnan]; rfl
  · rw [fpRecip_plain hx, hnan]; rfl
  · rw [fpRsqrt_plain hx, hnan]; rfl

theorem fpSign_snan (h : f.isSnan x = true) (g : Bool → Bool) : fpSign f g x = f.invalid := by
  rw [FpFmt.isSnan, decide_eq_true_eq] at h
  unfold fpSign
  rw [h]
  rfl

/-! ### Zeros and negative numbers -/

theorem unary_value (hx : f.tiny x = false) (hn : f.isNan x = false) :
    fpSqrt f e x = f.sqrtVal e (f.value x) ∧ fpRecip f e x = f.recipVal e (f.value x) ∧
      fpRsqrt f e x = f.rsqrtVal e (f.value x) := by
  have hnan : f.nanResult e false [x] = none := nanResult_none (by simpa using hn)
  refine ⟨?_, ?_, ?_⟩
  · rw [fpSqrt_plain hx, hnan]; rfl
  · rw [fpRecip_plain hx, hnan]; rfl
  · rw [fpRsqrt_plain hx, hnan]; rfl

theorem binary_value (hx : f.tiny x = false) (hy : f.tiny y = false) (hnx : f.isNan x = false)
    (hny : f.isNan y = false) :
    (∀ n, fpAdd f n e x y = f.addVal e (f.value x) (if n then (f.value y).neg else f.value y)) ∧
      fpMul f e x y = f.mulOut e (f.value x) (f.value y) ∧ fpDiv f e x y = f.divVal e (f.value x) (f.value y) := by
  have hnan : f.nanResult e false [x, y] = none := nanResult_none (by simp [hnx, hny])
  refine ⟨fun n => ?_, ?_, ?_⟩
  · rw [fpAdd_plain n hx hy, hnan]; rfl
  · rw [fpMul_plain hx hy, hnan]; rfl
  · rw [fpDiv_plain hx hy, hnan]; rfl

/-- The division of a number by a zero. -/
theorem fpDiv_by_zero {sx sy : Bool} {mx : Nat} {ex ey : Int} (hx : f.tiny x = false)
    (hvx : f.value x = .fin sx mx ex) (hm : mx ≠ 0) (hvy : f.value y = .fin sy 0 ey) :
    fpDiv f e x y = .val (f.inf (sx != sy)) .divZero := by
  rw [(binary_value hx (not_tiny_of_zero hvy) (isNan_of_fin hvx) (isNan_of_fin hvy)).2.2, hvx, hvy]
  simp only [FpFmt.divVal, if_true, if_neg hm]

theorem recip_of_zero {sx : Bool} {ex : Int} (hv : f.value x = .fin sx 0 ex) :
    fpRecip f e x = .val (f.inf sx) .divZero ∧ fpRsqrt f e x = .val (f.inf sx) .divZero := by
  obtain ⟨-, hr, hq⟩ := unary_value (e := e) (not_tiny_of_zero hv) (isNan_of_fin hv)
  rw [hr, hq, hv]
  simp only [FpFmt.recipVal, FpFmt.rsqrtVal, if_true, and_self]

theorem root_of_negative {mx : Nat} {ex : Int} (hx : f.tiny x = false) (hv : f.value x = .fin true mx ex)
    (hm : mx ≠ 0) : fpSqrt f e x = f.invalid ∧ fpRsqrt f e x = f.invalid := by
  obtain ⟨hs, -, hq⟩ := unary_value (e := e) hx (isNan_of_fin hv)
  rw [hs, hq, hv]
  simp only [FpFmt.sqrtVal, FpFmt.rsqrtVal, if_true, if_neg hm, and_self]

end

/-! ### The instructions of a format -/

/-- The arithmetic instructions of format `f` run these operations on the operands `z`, `x` and `y`. -/
structure ArithRuns (s : State) (f : FpFmt) (fd : Reg) (z x y : DWord)
    (add sub mul div sqrt recip rsqrt abs neg madd msub nmadd nmsub : Instr) : Prop where
  dest : s.fmtOk f fd = true
  add : exec add s = s.fpEnd f fd (fpAdd f false s.fpEnv x y)
  sub : exec sub s = s.fpEnd f fd (fpAdd f true s.fpEnv x y)
  mul : exec mul s = s.fpEnd f fd (fpMul f s.fpEnv x y)
  div : exec div s = s.fpEnd f fd (fpDiv f s.fpEnv x y)
  sqrt : exec sqrt s = s.fpEnd f fd (fpSqrt f s.fpEnv x)
  recip : exec recip s = s.fpEnd f fd (fpRecip f s.fpEnv x)
  rsqrt : exec rsqrt s = s.fpEnd f fd (fpRsqrt f s.fpEnv x)
  abs : exec abs s = s.fpEnd f fd (fpSign f (fun _ => false) x)
  neg : exec neg s = s.fpEnd f fd (fpSign f not x)
  madd : exec madd s = s.fpEnd f fd (fpMulAdd f false s.fpEnv z x y)
  msub : exec msub s = s.fpEnd f fd (fpMulAdd f true s.fpEnv z x y)
  nmadd : exec nmadd s = s.fpEnd f fd ((fpMulAdd f false s.fpEnv z x y).negated f)
  nmsub : exec nmsub s = s.fpEnd f fd ((fpMulAdd f true s.fpEnv z x y).negated f)

section
variable {s : State} (h : s.fpReady = true)
include h

theorem arithRuns_single (fr fs ft fd : Reg) :
    ArithRuns s .single fd (s.readFpr .single fr) (s.readFpr .single fs) (s.readFpr .single ft)
      (.add_s ft fs fd) (.sub_s ft fs fd) (.mul_s ft fs fd) (.div_s ft fs fd) (.sqrt_s fs fd) (.recip_s fs fd)
      (.rsqrt_s fs fd) (.abs_s fs fd) (.neg_s fs fd) (.madd_s fr ft fs fd) (.msub_s fr ft fs fd) (.nmadd_s fr ft fs fd)
      (.nmsub_s fr ft fs fd) where
  dest := rfl
  add := fpOp2_run h rfl rfl rfl _
  sub := fpOp2_run h rfl rfl rfl _
  mul := fpOp2_run h rfl rfl rfl _
  div := fpOp2_run h rfl rfl rfl _
  sqrt := fpOp1_run h rfl rfl _
  recip := fpOp1_run h rfl rfl _
  rsqrt := fpOp1_run h rfl rfl _
  abs := fpOp1_run h rfl rfl fun _ => fpSign .single fun _ => false
  neg := fpOp1_run h rfl rfl fun _ => fpSign .single not
  madd := fpOp3_run h rfl rfl rfl rfl _
  msub := fpOp3_run h rfl rfl rfl rfl _
  nmadd := fpOp3_run h rfl rfl rfl rfl fun e c x y => (fpMulAdd .single false e c x y).negated .single
  nmsub := fpOp3_run h rfl rfl rfl rfl fun e c x y => (fpMulAdd .single true e c x y).negated .single

theorem arithRuns_double {fr fs ft fd : Reg}
    (hd : s.fr = true ∨ (∀ q ∈ [fr, fs, ft, fd], q.getLsbD 0 = false)) :
    ArithRuns s .double fd (s.readFprD fr) (s.readFprD fs) (s.readFprD ft)
      (.add_d ft fs fd) (.sub_d ft fs fd) (.mul_d ft fs fd) (.div_d ft fs fd) (.sqrt_d fs fd) (.recip_d fs fd)
      (.rsqrt_d fs fd) (.abs_d fs fd) (.neg_d fs fd) (.madd_d fr ft fs fd) (.msub_d fr ft fs fd) (.nmadd_d fr ft fs fd)
      (.nmsub_d fr ft fs fd) := by
  have hok : ∀ q ∈ [fr, fs, ft, fd], s.fmtOk .double q = true := fun q hq =>
    fmtOk_double s q ((fpReady_iff s).1 h).2.2 (hd.imp id fun hall => hall q hq)
  simp only [List.forall_mem_cons] at hok
  obtain ⟨hr, hs, ht, hd, -⟩ := hok
  exact {
    dest := hd
    add := fpOp2_run h hs ht hd _
    sub := fpOp2_run h hs ht hd _
    mul := fpOp2_run h hs ht hd _
    div := fpOp2_run h hs ht hd _
    sqrt := fpOp1_run h hs hd _
    recip := fpOp1_run h hs hd _
    rsqrt := fpOp1_run h hs hd _
    abs := fpOp1_run h hs hd fun _ => fpSign .double fun _ => false
    neg := fpOp1_run h hs hd fun _ => fpSign .double not
    madd := fpOp3_run h hr hs ht hd _
    msub := fpOp3_run h hr hs ht hd _
    nmadd := fpOp3_run h hr hs ht hd fun e c x y => (fpMulAdd .double false e c x y).negated .double
    nmsub := fpOp3_run h hr hs ht hd fun e c x y => (fpMulAdd .double true e c x y).negated .double }

end

/-- Floating Point is raised with these bits of `E` and `Cause`, and nothing else is written (R624, R626). -/
def FpRaises (s : State) (cause : Word) (i : Instr) : Prop :=
  exec i s = State.raise { s with fcsr := (s.fcsr &&& 0xFFFC0FFF) ||| cause } .fpe

section
variable {s : State} {f : FpFmt} {fd : Reg} {i : Instr} {r : FpOut} {w : DWord}

theorem raises_unimplemented (hrun : exec i s = s.fpEnd f fd r) (hr : r = .unimplemented) : FpRaises s 0x00020000 i :=
  (trapsOn_of_run hrun).1 hr

theorem raises_invalid (hrun : exec i s = s.fpEnd f fd r) (hr : r = .val w .invalid)
    (hon : s.fcsr.getLsbD 11 = true) : FpRaises s 0x00010000 i := by
  refine (trapsOn_of_run hrun).2 w .invalid hr fun hz => ?_
  have hall : ∀ b : BitVec 5, FpFlags.invalid.bits &&& b = 0 → b.getLsbD 4 = false := by decide
  have hbit := hall _ hz
  rw [BitVec.getLsbD_extractLsb', hon] at hbit
  exact absurd hbit (by decide)

theorem raises_divZero (hrun : exec i s = s.fpEnd f fd r) (hr : r = .val w .divZero)
    (hon : s.fcsr.getLsbD 10 = true) : FpRaises s 0x00008000 i := by
  refine (trapsOn_of_run hrun).2 w .divZero hr fun hz => ?_
  have hall : ∀ b : BitVec 5, FpFlags.divZero.bits &&& b = 0 → b.getLsbD 3 = false := by decide
  have hbit := hall _ hz
  rw [BitVec.getLsbD_extractLsb', hon] at hbit
  exact absurd hbit (by decide)

end

/-! ### The traps of the arithmetic instructions -/

namespace ArithRuns

variable {s : State} {f : FpFmt} {fd : Reg} {z x y : DWord}
  {add sub mul div sqrt recip rsqrt abs neg madd msub nmadd nmsub : Instr}
  (hr : ArithRuns s f fd z x y add sub mul div sqrt recip rsqrt abs neg madd msub nmadd nmsub)
include hr

theorem trapsOn : FpTrapsOn add s (fpAdd f false s.fpEnv x y) ∧ FpTrapsOn sub s (fpAdd f true s.fpEnv x y) ∧
    FpTrapsOn mul s (fpMul f s.fpEnv x y) ∧ FpTrapsOn div s (fpDiv f s.fpEnv x y) ∧
    FpTrapsOn sqrt s (fpSqrt f s.fpEnv x) ∧ FpTrapsOn recip s (fpRecip f s.fpEnv x) ∧
    FpTrapsOn rsqrt s (fpRsqrt f s.fpEnv x) ∧
    FpTrapsOn abs s (fpSign f (fun _ => false) x) ∧ FpTrapsOn neg s (fpSign f not x) ∧
    FpTrapsOn madd s (fpMulAdd f false s.fpEnv z x y) ∧ FpTrapsOn msub s (fpMulAdd f true s.fpEnv z x y) ∧
    FpTrapsOn nmadd s ((fpMulAdd f false s.fpEnv z x y).negated f) ∧
    FpTrapsOn nmsub s ((fpMulAdd f true s.fpEnv z x y).negated f) :=
  ⟨trapsOn_of_run hr.add, trapsOn_of_run hr.sub, trapsOn_of_run hr.mul, trapsOn_of_run hr.div, trapsOn_of_run hr.sqrt,
    trapsOn_of_run hr.recip, trapsOn_of_run hr.rsqrt, trapsOn_of_run hr.abs, trapsOn_of_run hr.neg,
    trapsOn_of_run hr.madd, trapsOn_of_run hr.msub, trapsOn_of_run hr.nmadd, trapsOn_of_run hr.nmsub⟩

/-- A tiny operand that is not flushed. -/
theorem raises_tiny (ht : f.tiny x = true ∨ f.tiny y = true) (hs : s.fs = false) (ho : s.fo = false) :
    ∀ i ∈ [add, sub, mul, div, madd, msub, nmadd, nmsub], FpRaises s 0x00020000 i := by
  obtain ⟨hadd, hmul, hdiv, hmadd⟩ := binary_unimplemented (e := s.fpEnv) hs ho ht
  have hneg : ∀ sub, (fpMulAdd f sub s.fpEnv z x y).negated f = .unimplemented := fun sub => by rw [hmadd]; rfl
  simp only [List.forall_mem_cons]
  exact ⟨raises_unimplemented hr.add (hadd _), raises_unimplemented hr.sub (hadd _),
    raises_unimplemented hr.mul hmul, raises_unimplemented hr.div hdiv, raises_unimplemented hr.madd (hmadd _ _),
    raises_unimplemented hr.msub (hmadd _ _), raises_unimplemented hr.nmadd (hneg _),
    raises_unimplemented hr.nmsub (hneg _), fun _ hp => nomatch hp⟩

theorem raises_tiny_unary (ht : f.tiny x = true) (hs : s.fs = false) (ho : s.fo = false) :
    ∀ i ∈ [sqrt, recip, rsqrt], FpRaises s 0x00020000 i := by
  obtain ⟨hsqrt, hrecip, hrsqrt⟩ := unary_unimplemented (e := s.fpEnv) hs ho ht
  simp only [List.forall_mem_cons]
  exact ⟨raises_unimplemented hr.sqrt hsqrt, raises_unimplemented hr.recip hrecip,
    raises_unimplemented hr.rsqrt hrsqrt, fun _ hp => nomatch hp⟩

/-- A signalling NaN, with Invalid enabled. -/
theorem raises_snan (hn : f.isSnan x = true ∨ f.isSnan y = true) (hx : f.tiny x = false) (hy : f.tiny y = false)
    (hon : s.fcsr.getLsbD 11 = true) : ∀ i ∈ [add, sub, mul, div], FpRaises s 0x00010000 i := by
  obtain ⟨hadd, hmul, hdiv⟩ := binary_snan (e := s.fpEnv) hn hx hy
  simp only [List.forall_mem_cons]
  exact ⟨raises_invalid hr.add (hadd _) hon, raises_invalid hr.sub (hadd _) hon, raises_invalid hr.mul hmul hon,
    raises_invalid hr.div hdiv hon, fun _ hp => nomatch hp⟩

theorem raises_snan_unary (hn : f.isSnan x = true) (hon : s.fcsr.getLsbD 11 = true) :
    ∀ i ∈ [sqrt, recip, rsqrt, abs, neg], FpRaises s 0x00010000 i := by
  obtain ⟨hsqrt, hrecip, hrsqrt⟩ := unary_snan (e := s.fpEnv) hn
  simp only [List.forall_mem_cons]
  exact ⟨raises_invalid hr.sqrt hsqrt hon, raises_invalid hr.recip hrecip hon, raises_invalid hr.rsqrt hrsqrt hon,
    raises_invalid hr.abs (fpSign_snan hn _) hon, raises_invalid hr.neg (fpSign_snan hn _) hon, fun _ hp => nomatch hp⟩

/-- A zero without a reciprocal. -/
theorem raises_recip_zero {sx : Bool} {ex : Int} (hv : f.value x = .fin sx 0 ex) (hon : s.fcsr.getLsbD 10 = true) :
    ∀ i ∈ [recip, rsqrt], FpRaises s 0x00008000 i := by
  obtain ⟨hrecip, hrsqrt⟩ := recip_of_zero (e := s.fpEnv) hv
  simp only [List.forall_mem_cons]
  exact ⟨raises_divZero hr.recip hrecip hon, raises_divZero hr.rsqrt hrsqrt hon, fun _ hp => nomatch hp⟩

/-- A negative number without a root. -/
theorem raises_negative {mx : Nat} {ex : Int} (hx : f.tiny x = false) (hv : f.value x = .fin true mx ex)
    (hm : mx ≠ 0) (hon : s.fcsr.getLsbD 11 = true) : ∀ i ∈ [sqrt, rsqrt], FpRaises s 0x00010000 i := by
  obtain ⟨hsqrt, hrsqrt⟩ := root_of_negative (e := s.fpEnv) hx hv hm
  simp only [List.forall_mem_cons]
  exact ⟨raises_invalid hr.sqrt hsqrt hon, raises_invalid hr.rsqrt hrsqrt hon, fun _ hp => nomatch hp⟩

end ArithRuns

/-! ### The conversions -/

section
variable {s : State} (h : s.fpReady = true) (fs fd : Reg)
include h

theorem toWord_single : ∀ p ∈ [(Instr.round_w_s fs fd, (0 : BitVec 2)), (.trunc_w_s fs fd, 1), (.ceil_w_s fs fd, 2),
      (.floor_w_s fs fd, 3), (.cvt_w_s fs fd, s.rm)],
    exec p.1 s = s.fpEnd .word fd (fpToInt .single .word (fun _ => p.2) s.fpEnv (s.readFpr .single fs)) := by
  simp only [List.forall_mem_cons]
  exact ⟨fpOp1_run h rfl rfl _, fpOp1_run h rfl rfl _, fpOp1_run h rfl rfl _, fpOp1_run h rfl rfl _,
    fpOp1_run h rfl rfl _, fun _ hp => nomatch hp⟩

theorem toWord_double (hs : s.fmtOk .double fs = true) : ∀ p ∈ [(Instr.round_w_d fs fd, (0 : BitVec 2)),
      (.trunc_w_d fs fd, 1), (.ceil_w_d fs fd, 2), (.floor_w_d fs fd, 3), (.cvt_w_d fs fd, s.rm)],
    exec p.1 s = s.fpEnd .word fd (fpToInt .double .word (fun _ => p.2) s.fpEnv (s.readFprD fs)) := by
  simp only [List.forall_mem_cons]
  exact ⟨fpOp1_run h hs rfl _, fpOp1_run h hs rfl _, fpOp1_run h hs rfl _, fpOp1_run h hs rfl _,
    fpOp1_run h hs rfl _, fun _ hp => nomatch hp⟩

theorem toLong_single (hfr : s.fr = true) : ∀ p ∈ [(Instr.round_l_s fs fd, (0 : BitVec 2)), (.trunc_l_s fs fd, 1),
      (.ceil_l_s fs fd, 2), (.floor_l_s fs fd, 3), (.cvt_l_s fs fd, s.rm)],
    exec p.1 s = s.fpEnd .long fd (fpToInt .single .long (fun _ => p.2) s.fpEnv (s.readFpr .single fs)) := by
  simp only [List.forall_mem_cons]
  exact ⟨fpOpL_run h hfr _, fpOpL_run h hfr _, fpOpL_run h hfr _, fpOpL_run h hfr _, fpOpL_run h hfr _,
    fun _ hp => nomatch hp⟩

theorem toLong_double (hfr : s.fr = true) : ∀ p ∈ [(Instr.round_l_d fs fd, (0 : BitVec 2)), (.trunc_l_d fs fd, 1),
      (.ceil_l_d fs fd, 2), (.floor_l_d fs fd, 3), (.cvt_l_d fs fd, s.rm)],
    exec p.1 s = s.fpEnd .long fd (fpToInt .double .long (fun _ => p.2) s.fpEnv (s.readFprD fs)) := by
  simp only [List.forall_mem_cons]
  exact ⟨fpOpL_run h hfr _, fpOpL_run h hfr _, fpOpL_run h hfr _, fpOpL_run h hfr _, fpOpL_run h hfr _,
    fun _ hp => nomatch hp⟩

end

/-- A compare that meets Invalid while it is enabled. -/
theorem fpCond_raises {s : State} {f : FpFmt} {fs ft : Reg} {cc : BitVec 3} {p : BitVec 4 × Instr}
    (h : s.fpReady = true) (hs : s.fmtOk f fs = true) (ht : s.fmtOk f ft = true)
    (hrun : exec p.2 s = s.fpCond f p.1 fs ft cc) (hmet : (f.isSnan (s.readFpr f fs) || f.isSnan (s.readFpr f ft) ||
      (f.isNan (s.readFpr f fs) || f.isNan (s.readFpr f ft)) && p.1.getLsbD 3) = true)
    (hon : s.fcsr.getLsbD 11 = true) : FpRaises s 0x00010000 p.2 := by
  have hcond := fpCond_run (cc := cc) (cond := p.1) h hs ht
  have hinv : (fpCompare f p.1 (s.readFpr f fs) (s.readFpr f ft)).2 = true := by
    rw [Bool.and_comm] at hmet
    exact hmet
  dsimp only at hcond
  rw [hinv, compare_traps, hon, Bool.and_true, if_pos rfl, setCause_val] at hcond
  exact hrun.trans hcond

/-- Settles O59: an instruction that runs an operation traps on its answer; the answers named are those of the lemmas on
tiny operands, signalling NaNs, zeros and negative numbers. -/
theorem fpExceptionKeepsDestination : Obligations.FpExceptionKeepsDestination := by
  unfold Obligations.FpExceptionKeepsDestination
  intro fr fs ft fd cc s h e traps at1 w d even invalid
  have hat : ∀ {f z x y add sub mul div sqrt recip rsqrt abs neg madd msub nmadd nmsub},
      ArithRuns s f fd z x y add sub mul div sqrt recip rsqrt abs neg madd msub nmadd nmsub →
        at1 f z x y add sub mul div sqrt recip rsqrt abs neg madd msub nmadd nmsub := fun hr =>
    ⟨hr.trapsOn, hr.raises_tiny, hr.raises_tiny_unary, hr.raises_snan, hr.raises_snan_unary,
      fun _ _ _ _ _ hx hvx hm hvy hon => raises_divZero hr.div (fpDiv_by_zero hx hvx hm hvy) hon,
      fun _ _ hvx hon => hr.raises_recip_zero hvx hon, fun _ _ hx hvx hm hon => hr.raises_negative hx hvx hm hon⟩
  have heven : ∀ r, even r → s.fmtOk .double r = true := fun r => fmtOk_double s r ((fpReady_iff s).1 h).2.2
  refine ⟨hat (arithRuns_single h fr fs ft fd), fun hd => hat (arithRuns_double h hd),
    fun p hp => trapsOn_of_run (toWord_single h fs fd p hp),
    fun hs p hp => trapsOn_of_run (toWord_double h fs fd (heven fs hs) p hp),
    trapsOn_of_run (fpOp1_run h rfl rfl (fpOfInt .word .single)),
    fun hd => trapsOn_of_run (fpOp1_run h rfl (heven fd hd) (fpOfInt .word .double)),
    fun hd => trapsOn_of_run (fpOp1_run h rfl (heven fd hd) (fpToFp .single .double)),
    fun hs => trapsOn_of_run (fpOp1_run h (heven fs hs) rfl (fpToFp .double .single)),
    fun hfr => ⟨fun p hp => trapsOn_of_run (toLong_single h fs fd hfr p hp),
      fun p hp => trapsOn_of_run (toLong_double h fs fd hfr p hp),
      trapsOn_of_run (fpOpL_run h hfr (fpOfInt .long .single)),
      trapsOn_of_run (fpOpL_run h hfr (fpOfInt .long .double))⟩, fun p hp => ?_, fun hfr p hp => ?_⟩
  · exact fpCond_raises (f := .single) h rfl rfl (exec_compare_single fs ft cc s p hp)
  · exact fpCond_raises (f := .double) h (heven fs (hfr.imp id And.left)) (heven ft (hfr.imp id And.right))
      (exec_compare_double fs ft cc s p hp)

end Sys2Proof.Machine

/-! ## Rounding (R623): the number of a rounded value (obligation O60)

A result longer than the precision is `kept` units of `2^shift` and a `rest` beyond them; rounding keeps the units or
takes one more (`up`). All that is said of the rounded value follows from that. -/

namespace Sys2Proof.Machine

section
variable (x : FpExact) (rm : BitVec 2) (p : Nat)

/-- The bits beyond the precision. -/
def FpExact.shift : Nat := x.mant.log2 + 1 - p

/-- The units kept. -/
def FpExact.kept : Nat := x.mant / 2 ^ x.shift p

/-- What lies beyond them. -/
def FpExact.rest : Nat := x.mant % 2 ^ x.shift p

/-- Whether one unit more is taken. -/
def FpExact.up : Bool := roundsUp rm x.sign (x.kept p % 2 = 1) x.more (x.rest p) (x.shift p)

/-- The units of the rounded value. -/
def FpExact.units : Nat := if x.up rm p then x.kept p + 1 else x.kept p

variable {x rm p}

theorem mant_split : x.mant = x.kept p * 2 ^ x.shift p + x.rest p := by
  rw [Nat.mul_comm]
  exact (Nat.div_add_mod _ _).symm

theorem rest_lt : x.rest p < 2 ^ x.shift p := Nat.mod_lt _ (Nat.two_pow_pos _)

/-- A result longer than the precision loses bits, and keeps as many as the precision has. -/
theorem kept_bounds (hp : 0 < p) (h : 2 ^ p ≤ x.mant) :
    0 < x.shift p ∧ 2 ^ (p - 1) ≤ x.kept p ∧ x.kept p < 2 ^ p := by
  have hne : x.mant ≠ 0 := by have := Nat.two_pow_pos p; omega
  have hlog : p ≤ x.mant.log2 := (Nat.le_log2 hne).2 h
  have hlow : 2 ^ x.mant.log2 ≤ x.mant := Nat.log2_self_le hne
  have hhigh : x.mant < 2 ^ (x.mant.log2 + 1) := Nat.lt_log2_self
  have hshift : x.shift p = x.mant.log2 + 1 - p := rfl
  refine ⟨by omega, ?_, ?_⟩
  · rw [FpExact.kept, Nat.le_div_iff_mul_le (Nat.two_pow_pos _), ← Nat.pow_add, hshift,
      show p - 1 + (x.mant.log2 + 1 - p) = x.mant.log2 by omega]
    exact hlow
  · rw [FpExact.kept, Nat.div_lt_iff_lt_mul (Nat.two_pow_pos _), ← Nat.pow_add, hshift,
      show p + (x.mant.log2 + 1 - p) = x.mant.log2 + 1 by omega]
    exact hhigh

theorem shift_two (h : 2 ^ (p + 1) ≤ x.mant) : 2 ≤ x.shift p := by
  have hne : x.mant ≠ 0 := by have := Nat.two_pow_pos (p + 1); omega
  have hlog : p + 1 ≤ x.mant.log2 := (Nat.le_log2 hne).2 h
  have hshift : x.shift p = x.mant.log2 + 1 - p := rfl
  omega

/-- The rounded value of a result longer than the precision. -/
theorem round_long (h : 2 ^ p ≤ x.mant) : x.round rm p =
    if x.units rm p = 2 ^ p then ⟨2 ^ (p - 1), x.exp + x.shift p + 1, decide (x.rest p ≠ 0) || x.more⟩
    else ⟨x.units rm p, x.exp + x.shift p, decide (x.rest p ≠ 0) || x.more⟩ := by
  have hne : x.mant ≠ 0 := by have := Nat.two_pow_pos p; omega
  have hlog : p ≤ x.mant.log2 := (Nat.le_log2 hne).2 h
  exact if_neg (by omega)

theorem round_inexact (h : 2 ^ p ≤ x.mant) : (x.round rm p).inexact = (decide (x.rest p ≠ 0) || x.more) := by
  rw [round_long h]
  split <;> rfl

/-- The rounded value in units of the exact result: the number rounded to, its exponent and its size. -/
theorem round_units (hp : 0 < p) (h : 2 ^ p ≤ x.mant) :
    x.exp < (x.round rm p).exp ∧ 2 ^ (p - 1) ≤ (x.round rm p).mant ∧ (x.round rm p).mant < 2 ^ p ∧
      (x.round rm p).mant * 2 ^ ((x.round rm p).exp - x.exp).toNat = x.units rm p * 2 ^ x.shift p := by
  obtain ⟨hs, hlow, hhigh⟩ := kept_bounds hp h
  have hunits : x.kept p ≤ x.units rm p ∧ x.units rm p ≤ x.kept p + 1 := by
    unfold FpExact.units
    split <;> omega
  have hpow : 2 ^ p = 2 * 2 ^ (p - 1) := by rw [← Nat.pow_succ', Nat.succ_eq_add_one, Nat.sub_add_cancel hp]
  have hpos := Nat.two_pow_pos (p - 1)
  rw [round_long h]
  split
  · next hu =>
    refine ⟨by dsimp only; omega, le_refl _, by dsimp only; omega, ?_⟩
    dsimp only
    rw [show (x.exp + (x.shift p : Int) + 1 - x.exp).toNat = x.shift p + 1 by omega, hu, Nat.pow_succ, hpow]
    ring
  · next hu =>
    refine ⟨by dsimp only; omega, by dsimp only; omega, by dsimp only; omega, ?_⟩
    dsimp only
    rw [show (x.exp + (x.shift p : Int) - x.exp).toNat = x.shift p by omega]

/-- The distance of the rounded value from the exact result, in units of the exact result's last place. -/
theorem round_distance (hp : 0 < p) (h : 2 ^ p ≤ x.mant) :
    ((x.round rm p).mant : Int) * 2 ^ ((x.round rm p).exp - x.exp).toNat - x.mant =
      (if x.up rm p then 2 ^ x.shift p else 0) - (x.rest p : Int) := by
  obtain ⟨-, -, -, hr⟩ := round_units (rm := rm) hp h
  have hm : (x.mant : Int) = x.kept p * 2 ^ x.shift p + x.rest p := by exact_mod_cast mant_split
  have hr' : ((x.round rm p).mant : Int) * 2 ^ ((x.round rm p).exp - x.exp).toNat =
      (x.units rm p : Int) * 2 ^ x.shift p := by exact_mod_cast hr
  rw [hr', hm, FpExact.units]
  split
  · push_cast; ring
  · ring

/-! ### When a unit is added -/

theorem up_nearest : x.up 0 p = true ↔ 2 ^ x.shift p < 2 * x.rest p ∨
    (2 * x.rest p = 2 ^ x.shift p ∧ (x.more = true ∨ x.kept p % 2 = 1)) := by
  simp [FpExact.up, roundsUp]

theorem up_zero : x.up 1 p = false := by
  simp [FpExact.up, roundsUp]

theorem up_up : x.up 2 p = true ↔ (x.rest p ≠ 0 ∨ x.more = true) ∧ x.sign = false := by
  simp [FpExact.up, roundsUp]

theorem up_down : x.up 3 p = true ↔ (x.rest p ≠ 0 ∨ x.more = true) ∧ x.sign = true := by
  simp [FpExact.up, roundsUp]

/-- A unit is added only where something lies beyond the units kept. -/
theorem up_inexact (h : x.up rm p = true) : x.rest p ≠ 0 ∨ x.more = true := by
  have hrm : ∀ m : BitVec 2, m = 0 ∨ m = 1 ∨ m = 2 ∨ m = 3 := by decide
  have hpos := Nat.two_pow_pos (x.shift p)
  rcases hrm rm with rfl | rfl | rfl | rfl
  · rcases up_nearest.1 h with h | h
    · exact .inl (by omega)
    · exact .inl (by omega)
  · rw [up_zero] at h; cases h
  · exact (up_up.1 h).1
  · exact (up_down.1 h).1

/-- An even number of units rounds to an even mantissa. -/
theorem round_even (hp : 2 ≤ p) (h : 2 ^ p ≤ x.mant) (he : x.units rm p % 2 = 0) : (x.round rm p).mant % 2 = 0 := by
  rw [round_long h]
  split
  · show 2 ^ (p - 1) % 2 = 0
    rw [show p - 1 = p - 2 + 1 by omega, Nat.pow_succ]
    omega
  · exact he

/-! ### An exact result that is longer than the precision -/

/-- The distance where no unit is added. -/
theorem distance_down {d : Int} (hd : d = (if x.up rm p then 2 ^ x.shift p else 0) - (x.rest p : Int))
    (hu : x.up rm p = false) : d = -(x.rest p : Int) ∧ x.units rm p = x.kept p := by
  rw [hu, if_neg Bool.false_ne_true] at hd
  exact ⟨by omega, by rw [FpExact.units, hu, if_neg Bool.false_ne_true]⟩

/-- The distance where a unit is added. -/
theorem distance_up {d : Int} (hd : d = (if x.up rm p then 2 ^ x.shift p else 0) - (x.rest p : Int))
    (hu : x.up rm p = true) : d = 2 ^ x.shift p - (x.rest p : Int) ∧ x.units rm p = x.kept p + 1 := by
  rw [hu, if_pos rfl] at hd
  exact ⟨hd, by rw [FpExact.units, hu, if_pos rfl]⟩

/-- A mode that rounds towards `toward` rounds one sign down and the other up: the distance where it does neither for
an exact number. -/
theorem directed_exact {d unit : Int} {rest : Nat} {up : Bool} (hrest : (rest : Int) < unit)
    (hdown : up = false → d = -(rest : Int)) (hup : up = true → d = unit - rest) {towards : Bool}
    (hdir : up = true ↔ rest ≠ 0 ∧ towards = true) :
    if towards then 0 ≤ d ∧ d < unit else -unit < d ∧ d ≤ 0 := by
  cases up
  · have hd := hdown rfl
    cases towards
    · exact ⟨by omega, by omega⟩
    · have : ¬ rest ≠ 0 := fun hr => Bool.false_ne_true (hdir.2 ⟨hr, rfl⟩)
      exact ⟨by omega, by omega⟩
  · obtain ⟨hrest0, rfl⟩ := hdir.1 rfl
    have hd := hup rfl
    exact ⟨by omega, by omega⟩

/-- The bounds of each mode for an exact result. -/
theorem round_exact_bounds (hp : 2 ≤ p) (hm : x.more = false) (h : 2 ^ p ≤ x.mant) :
    let r := x.round rm p
    let unit : Int := 2 ^ (x.mant.log2 + 1 - p)
    let d : Int := (r.mant : Int) * 2 ^ (r.exp - x.exp).toNat - x.mant
    x.exp < r.exp ∧ 2 ^ (p - 1) ≤ r.mant ∧ r.mant < 2 ^ p ∧ (r.inexact = true ↔ d ≠ 0) ∧
    (rm = 0 → -unit ≤ 2 * d ∧ 2 * d ≤ unit ∧ (2 * d = unit ∨ 2 * d = -unit → r.mant % 2 = 0)) ∧
    (rm = 1 → -unit < d ∧ d ≤ 0) ∧
    (rm = 2 → if x.sign then -unit < d ∧ d ≤ 0 else 0 ≤ d ∧ d < unit) ∧
    (rm = 3 → if x.sign then 0 ≤ d ∧ d < unit else -unit < d ∧ d ≤ 0) := by
  intro r unit d
  obtain ⟨hexp, hlow, hhigh, -⟩ := round_units (rm := rm) (by omega) h
  have hd : d = (if x.up rm p then 2 ^ x.shift p else 0) - (x.rest p : Int) := round_distance (by omega) h
  have hunit : unit = 2 ^ x.shift p := rfl
  have hrest : (x.rest p : Int) < 2 ^ x.shift p := by exact_mod_cast rest_lt
  have hin : r.inexact = decide (x.rest p ≠ 0) := (round_inexact h).trans (by rw [hm, Bool.or_false])
  have hup : x.up rm p = true → x.rest p ≠ 0 := fun hu => (up_inexact hu).resolve_right (by rw [hm]; decide)
  have hnat : ((2 ^ x.shift p : Nat) : Int) = unit := by rw [hunit]; norm_cast
  have hdown := distance_down hd
  have hover := distance_up hd
  rw [← hunit] at hrest hover
  clear_value d unit
  refine ⟨hexp, hlow, hhigh, ?_, ?_, ?_, ?_, ?_⟩
  · rw [hin, decide_eq_true_eq]
    cases hu : x.up rm p
    · obtain ⟨hd, -⟩ := hdown hu
      omega
    · obtain ⟨hd, -⟩ := hover hu
      have := hup hu
      omega
  · rintro rfl
    have hnear := up_nearest (x := x) (p := p)
    rw [hm] at hnear
    cases hu : x.up 0 p
    · obtain ⟨hd, hunits⟩ := hdown hu
      simp only [hu, Bool.false_eq_true, false_iff, false_or] at hnear
      refine ⟨by omega, by omega, fun ht => round_even hp h ?_⟩
      omega
    · obtain ⟨hd, hunits⟩ := hover hu
      simp only [hu, true_iff, Bool.false_eq_true, false_or] at hnear
      refine ⟨by omega, by omega, fun ht => round_even hp h ?_⟩
      omega
  · rintro rfl
    obtain ⟨hd, -⟩ := hdown up_zero
    omega
  · rintro rfl
    have hdir := directed_exact (towards := !x.sign) hrest (fun hu => (hdown hu).1) (fun hu => (hover hu).1)
      (by rw [up_up, hm]; simp)
    cases hs : x.sign <;> simpa [hs] using hdir
  · rintro rfl
    exact directed_exact (towards := x.sign) hrest (fun hu => (hdown hu).1) (fun hu => (hover hu).1)
      (by rw [up_down, hm]; simp)

/-- The bounds of each mode for a result known to lie between two neighbouring integers. -/
theorem round_between_bounds (hp : 2 ≤ p) (hm : x.more = true) (h : 2 ^ (p + 1) ≤ x.mant) :
    let r := x.round rm p
    let unit : Int := 2 ^ (x.mant.log2 + 1 - p)
    let d : Int := (r.mant : Int) * 2 ^ (r.exp - x.exp).toNat - x.mant
    let down := -unit ≤ d - 1 ∧ d ≤ 0
    let up := 1 ≤ d ∧ d ≤ unit
    x.exp < r.exp ∧ 2 ^ (p - 1) ≤ r.mant ∧ r.mant < 2 ^ p ∧ r.inexact = true ∧
    (rm = 0 → -unit ≤ 2 * (d - 1) ∧ 2 * d ≤ unit) ∧ (rm = 1 → down) ∧
    (rm = 2 → if x.sign then down else up) ∧ (rm = 3 → if x.sign then up else down) := by
  intro r unit d down up
  have hlong : 2 ^ p ≤ x.mant := le_trans (Nat.pow_le_pow_right (by decide) (Nat.le_succ p)) h
  obtain ⟨hexp, hlow, hhigh, -⟩ := round_units (rm := rm) (by omega) hlong
  have hd : d = (if x.up rm p then 2 ^ x.shift p else 0) - (x.rest p : Int) := round_distance (by omega) hlong
  have hunit : unit = 2 ^ x.shift p := rfl
  have hrest : (x.rest p : Int) < 2 ^ x.shift p := by exact_mod_cast rest_lt
  have hin : r.inexact = true := (round_inexact hlong).trans (by rw [hm, Bool.or_true])
  have hnat : ((2 ^ x.shift p : Nat) : Int) = unit := by rw [hunit]; norm_cast
  have heven : 2 ^ x.shift p = 2 * 2 ^ (x.shift p - 1) := by
    rw [← Nat.pow_succ', Nat.succ_eq_add_one, Nat.sub_add_cancel (by have := shift_two h; omega)]
  have hdown := distance_down hd
  have hover := distance_up hd
  rw [← hunit] at hrest hover
  clear_value d unit
  have hfalse : x.up rm p = false → down := fun hu => by
    obtain ⟨hd, -⟩ := hdown hu
    exact ⟨by omega, by omega⟩
  have htrue : x.up rm p = true → up := fun hu => by
    obtain ⟨hd, -⟩ := hover hu
    exact ⟨by omega, by omega⟩
  refine ⟨hexp, hlow, hhigh, hin, ?_, ?_, ?_, ?_⟩
  · rintro rfl
    have hnear := up_nearest (x := x) (p := p)
    cases hu : x.up 0 p
    · obtain ⟨hd, -⟩ := hdown hu
      simp only [hu, hm, Bool.false_eq_true, false_iff, true_or, and_true] at hnear
      omega
    · obtain ⟨hd, -⟩ := hover hu
      simp only [hu, hm, true_iff, true_or, and_true] at hnear
      omega
  · rintro rfl
    exact hfalse up_zero
  · rintro rfl
    cases hs : x.sign
    · exact htrue (up_up.2 ⟨.inr hm, hs⟩)
    · exact hfalse (by rw [← Bool.not_eq_true, up_up, hs]; simp)
  · rintro rfl
    cases hs : x.sign
    · exact hfalse (by rw [← Bool.not_eq_true, up_down, hs]; simp)
    · exact htrue (up_down.2 ⟨.inr hm, hs⟩)

/-- A result no longer than the precision is exact, written with as many digits as the precision has. -/
theorem round_short (hm : x.more = false) (hpos : 0 < x.mant) (h : x.mant < 2 ^ p) :
    x.round rm p = ⟨x.mant * 2 ^ (p - (x.mant.log2 + 1)), x.exp - (p - (x.mant.log2 + 1) : Nat), false⟩ := by
  have hlog : x.mant.log2 < p := (Nat.log2_lt hpos.ne').2 h
  rw [← hm]
  exact if_pos (by omega)

theorem round_short_bounds (hm : x.more = false) (hpos : 0 < x.mant) (h : x.mant < 2 ^ p) :
    let r := x.round rm p
    r.inexact = false ∧ r.exp ≤ x.exp ∧ r.mant = x.mant * 2 ^ (x.exp - r.exp).toNat ∧
      2 ^ (p - 1) ≤ r.mant ∧ r.mant < 2 ^ p := by
  intro r
  have hr : r = _ := round_short (rm := rm) hm hpos h
  have hlog : x.mant.log2 < p := (Nat.log2_lt hpos.ne').2 h
  have hlow : 2 ^ x.mant.log2 ≤ x.mant := Nat.log2_self_le hpos.ne'
  have hhigh : x.mant < 2 ^ (x.mant.log2 + 1) := Nat.lt_log2_self
  have hscale := Nat.two_pow_pos (p - (x.mant.log2 + 1))
  rw [hr]
  refine ⟨rfl, by dsimp only; omega, ?_, ?_, ?_⟩ <;> dsimp only
  · congr 2
    omega
  · calc 2 ^ (p - 1) = 2 ^ x.mant.log2 * 2 ^ (p - (x.mant.log2 + 1)) := by rw [← Nat.pow_add]; congr 1; omega
      _ ≤ _ := Nat.mul_le_mul_right _ hlow
  · calc x.mant * 2 ^ (p - (x.mant.log2 + 1)) < 2 ^ (x.mant.log2 + 1) * 2 ^ (p - (x.mant.log2 + 1)) :=
        Nat.mul_lt_mul_of_pos_right hhigh hscale
      _ = 2 ^ p := by rw [← Nat.pow_add]; congr 1; omega

end

end Sys2Proof.Machine

/-! ## The bits of a result, and its range (R48, R624, R627; obligation O60) -/

namespace Sys2Proof.Machine

section
variable {f : FpFmt} {e : FpEnv} {x : FpExact} {sign : Bool} {ex m : Nat}

/-! ### The fields of a packed value -/

theorem format_sizes (f : FpFmt) : (f.frac = 23 ∧ f.expBits = 8 ∧ f.signPos = 31 ∧ f.bias = 127) ∨
    (f.frac = 52 ∧ f.expBits = 11 ∧ f.signPos = 63 ∧ f.bias = 1023) := by
  cases f <;> simp only [FpFmt.frac, FpFmt.expBits, FpFmt.signPos, FpFmt.bias, FpFmt.is64] <;> decide

theorem pack_toNat (he : ex < 2 ^ f.expBits) (hm : m < 2 ^ f.frac) :
    (f.pack sign ex m).toNat = (if sign then 2 ^ f.signPos else 0) + ex * 2 ^ f.frac + m := by
  refine (BitVec.toNat_ofNat _ _).trans (Nat.mod_eq_of_lt ?_)
  rcases format_sizes f with ⟨hf, hx, hs, -⟩ | ⟨hf, hx, hs, -⟩ <;> rw [hx] at he <;> rw [hf] at hm ⊢ <;> rw [hs] <;>
    split <;> omega

theorem expOf_pack (he : ex < 2 ^ f.expBits) (hm : m < 2 ^ f.frac) : f.expOf (f.pack sign ex m) = ex := by
  rw [FpFmt.expOf, pack_toNat he hm]
  rcases format_sizes f with ⟨hf, hx, hs, -⟩ | ⟨hf, hx, hs, -⟩ <;> rw [hx] at he ⊢ <;> rw [hf] at hm ⊢ <;> rw [hs] <;>
    split <;> omega

theorem fracOf_pack (he : ex < 2 ^ f.expBits) (hm : m < 2 ^ f.frac) : f.fracOf (f.pack sign ex m) = m := by
  rw [FpFmt.fracOf, pack_toNat he hm]
  rcases format_sizes f with ⟨hf, hx, hs, -⟩ | ⟨hf, hx, hs, -⟩ <;> rw [hx] at he <;> rw [hf] at hm ⊢ <;> rw [hs] <;>
    split <;> omega

theorem signOf_pack (he : ex < 2 ^ f.expBits) (hm : m < 2 ^ f.frac) : f.signOf (f.pack sign ex m) = sign := by
  rw [FpFmt.signOf, BitVec.getLsbD, pack_toNat he hm, Nat.testBit_eq_decide_div_mod_eq]
  rcases format_sizes f with ⟨hf, hx, hs, -⟩ | ⟨hf, hx, hs, -⟩ <;> rw [hx] at he <;> rw [hf] at hm ⊢ <;> rw [hs] <;>
    cases sign <;> simp only [if_true, if_false, Bool.false_eq_true, decide_eq_false_iff_not, decide_eq_true_eq] <;>
    omega

theorem maxExp_lt (f : FpFmt) : f.maxExp < 2 ^ f.expBits := Nat.sub_lt (Nat.two_pow_pos _) Nat.one_pos

/-! ### The values that results are packed to -/

theorem value_pack_normal (h1 : 1 ≤ ex) (he : ex < f.maxExp) (hm : m < 2 ^ f.frac) :
    f.value (f.pack sign ex m) = .fin sign (m + 2 ^ f.frac) ((ex : Int) - f.bias - f.frac) := by
  have hlt := he.trans (maxExp_lt f)
  have hexp : f.expOf (f.pack sign ex m) = ex := expOf_pack hlt hm
  rw [value_of_normal (by rw [hexp]; omega) (by rw [hexp]; omega), hexp, signOf_pack hlt hm, fracOf_pack hlt hm]

theorem value_zero (f : FpFmt) (sign : Bool) : f.value (f.zero sign) = .fin sign 0 (1 - (f.bias : Int) - f.frac) := by
  have hpos := Nat.two_pow_pos f.expBits
  have hexp : f.expOf (f.zero sign) = 0 := expOf_pack hpos (Nat.two_pow_pos _)
  rw [value_of_zero hexp, FpFmt.zero, signOf_pack hpos (Nat.two_pow_pos _), fracOf_pack hpos (Nat.two_pow_pos _)]

theorem value_inf (f : FpFmt) (sign : Bool) : f.value (f.inf sign) = .inf sign := by
  have hexp : f.expOf (f.inf sign) = f.maxExp := expOf_pack (maxExp_lt f) (Nat.two_pow_pos _)
  rw [value_of_maxExp hexp, FpFmt.inf, signOf_pack (maxExp_lt f) (Nat.two_pow_pos _),
    fracOf_pack (maxExp_lt f) (Nat.two_pow_pos _), if_pos rfl]

theorem one_lt_maxExp (f : FpFmt) : 1 < f.maxExp - 1 := by cases f <;> decide

/-- A result that is neither a NaN nor a zero nor tiny. -/
def FpFmt.Normal (f : FpFmt) (w : DWord) : Prop := f.expOf w ≠ 0 ∧ f.isNan w = false

theorem FpFmt.Normal.not_tiny {w : DWord} (h : f.Normal w) : f.tiny w = false := by
  rw [FpFmt.tiny, decide_eq_false h.1, Bool.false_and]

theorem normal_pack (h1 : 1 ≤ ex) (he : ex < f.maxExp) (hm : m < 2 ^ f.frac) : f.Normal (f.pack sign ex m) :=
  ⟨by rw [expOf_pack (he.trans (maxExp_lt f)) hm]; omega, isNan_of_fin (value_pack_normal h1 he hm)⟩

theorem normal_inf (f : FpFmt) (sign : Bool) : f.Normal (f.inf sign) :=
  ⟨by rw [FpFmt.inf, expOf_pack (maxExp_lt f) (Nat.two_pow_pos _)]; exact (maxExp_pos f).ne',
    isNan_of_inf (value_inf f sign)⟩

theorem normal_overflowed (f : FpFmt) (rm : BitVec 2) (sign : Bool) : f.Normal (f.overflowed rm sign) := by
  have hmax : f.Normal (f.maxFinite sign) :=
    normal_pack (one_lt_maxExp f).le (by have := one_lt_maxExp f; omega)
      (Nat.sub_lt (Nat.two_pow_pos _) Nat.one_pos)
  have hinf := normal_inf f sign
  unfold FpFmt.overflowed
  split
  · exact hinf
  split
  · exact hmax
  split <;> split
  · exact hmax
  · exact hinf
  · exact hinf
  · exact hmax

/-! ### The range of the format -/

/-- A rounded result fills its precision. -/
theorem round_full {rm : BitVec 2} {p : Nat} (hp : 0 < p) (hpos : 0 < x.mant)
    (hm : x.more = true → 2 ^ (p + 1) ≤ x.mant) :
    2 ^ (p - 1) ≤ (x.round rm p).mant ∧ (x.round rm p).mant < 2 ^ p := by
  by_cases h : 2 ^ p ≤ x.mant
  · obtain ⟨-, hlow, hhigh, -⟩ := round_units (rm := rm) hp h
    exact ⟨hlow, hhigh⟩
  · have hexact : x.more = false := by
      rw [← Bool.not_eq_true]
      exact fun hmore => h ((Nat.pow_le_pow_right (by decide) (Nat.le_succ p)).trans (hm hmore))
    obtain ⟨-, -, -, hlow, hhigh⟩ := round_short_bounds (rm := rm) hexact hpos (Nat.lt_of_not_le h)
    exact ⟨hlow, hhigh⟩

variable {r : FpRounded}

/-- A rounded value whose exponent the format has is the result. -/
theorem fit_range (h1 : 1 ≤ f.expField r) (hmax : f.expField r < f.maxExp) (hlow : 2 ^ f.frac ≤ r.mant)
    (hhigh : r.mant < 2 ^ (f.frac + 1)) : ∃ w, f.fit e x r = .val w (.inexact r.inexact) ∧
      f.value w = .fin x.sign r.mant r.exp ∧ f.Normal w := by
  have hm : r.mant - 2 ^ f.frac < 2 ^ f.frac := by rw [Nat.pow_succ] at hhigh; omega
  refine ⟨_, (if_neg (by omega)).trans (if_neg (by omega)), ?_, normal_pack (by omega) (by omega) hm⟩
  rw [value_pack_normal (by omega) (by omega) hm]
  congr 1
  · omega
  · have : f.expField r = r.exp + f.frac + f.bias := rfl
    omega

theorem fit_overflow (h : (f.maxExp : Int) ≤ f.expField r) :
    f.fit e x r = .val (f.overflowed e.rm x.sign) .overflow := if_pos h

theorem fit_tiny (h : f.expField r < 1) : f.fit e x r =
    match f.flushTiny e false x with
    | some w => .val w .underflow
    | none => .unimplemented :=
  (if_neg (by have := maxExp_pos f; omega)).trans (if_pos h)

/-- An overflow gives an infinity where the mode rounds away from zero. -/
theorem overflowed_eq (f : FpFmt) (rm : BitVec 2) (sign : Bool) : f.overflowed rm sign =
    if rm = 0 ∨ (rm = 2 ∧ sign = false) ∨ (rm = 3 ∧ sign = true) then f.inf sign else f.maxFinite sign := by
  have hrm : ∀ m : BitVec 2, m = 0 ∨ m = 1 ∨ m = 2 ∨ m = 3 := by decide
  rcases hrm rm with rfl | rfl | rfl | rfl <;> cases sign <;> rfl

/-- What is flushed goes to the least normal number where the mode rounds away from zero. -/
theorem flushTiny_flushed (hn : e.fn = false) (h : e.fs = true ∨ e.fo = true) : f.flushTiny e false x =
    some (if (e.rm = 2 ∧ x.sign = false) ∨ (e.rm = 3 ∧ x.sign = true) then f.minNorm x.sign else f.zero x.sign) := by
  unfold FpFmt.flushTiny
  rw [if_neg (by rw [hn]; decide), if_pos (by simpa using h)]
  simp

theorem flushTiny_none (hn : e.fn = false) (hs : e.fs = false) (ho : e.fo = false) : f.flushTiny e false x = none := by
  unfold FpFmt.flushTiny
  rw [if_neg (by rw [hn]; decide), if_neg (by rw [hs, ho]; decide)]

end

end Sys2Proof.Machine

/-! ## Exact results (R647 to R651; obligation O60)

Each operation on finite operands rounds an exact result that stands for the rational sum, difference, product,
quotient or root. -/

namespace Sys2Proof.Machine

/-! ### The integer square root -/

theorem isqrt_spec (n : Nat) : ∀ (k r : Nat), r * r ≤ n → n < (r + 2 ^ k) * (r + 2 ^ k) →
    isqrt n k r * isqrt n k r ≤ n ∧ n < (isqrt n k r + 1) * (isqrt n k r + 1)
  | 0, _, hlow, hhigh => ⟨hlow, hhigh⟩
  | k + 1, r, hlow, hhigh => by
    unfold isqrt
    split
    · next h =>
      refine isqrt_spec n k _ h ?_
      rwa [Nat.add_assoc, ← Nat.two_mul, ← Nat.pow_succ']
    · next h => exact isqrt_spec n k _ hlow (Nat.lt_of_not_le h)

theorem natSqrt_spec (n : Nat) : natSqrt n * natSqrt n ≤ n ∧ n < (natSqrt n + 1) * (natSqrt n + 1) := by
  refine isqrt_spec n _ 0 (Nat.zero_le n) ?_
  rw [Nat.zero_add, ← Nat.pow_add]
  exact Nat.lt_log2_self.trans_le (Nat.pow_le_pow_right (by decide) (by omega))

theorem natSqrt_ge {n k : Nat} (h : 2 ^ (k + k) ≤ n) : 2 ^ k ≤ natSqrt n := by
  have hlt := (natSqrt_spec n).2
  rw [Nat.pow_add] at h
  exact Nat.lt_succ_iff.1 (Nat.mul_self_lt_mul_self_iff.1 (h.trans_lt hlt))

/-! ### What an exact result stands for -/

section
variable {f : FpFmt} {e : FpEnv} {sa sb sign : Bool} {ma mb m p : Nat} {ea eb x : Int}

theorem rat_nonzero (hm : m ≠ 0) : (FpVal.fin sign m x).rat ≠ 0 := by
  have := (zpow_two_pos x).ne'
  cases sign <;> simp [FpVal.rat, hm, this]

theorem rat_eq_zero : (FpVal.fin sign m x).rat = 0 ↔ m = 0 :=
  ⟨fun h => by_contra fun hm => rat_nonzero hm h, fun h => by rw [h]; simp [FpVal.rat]⟩

theorem rat_abs : |(FpVal.fin sign m x).rat| = (m : ℚ) * 2 ^ x := by
  have := (zpow_two_pos x).le
  cases sign <;> simp [FpVal.rat, abs_mul, abs_of_nonneg this]

theorem rat_neg_iff (hm : m ≠ 0) : (FpVal.fin sign m x).rat < 0 ↔ sign = true := by
  have hpos : (0 : ℚ) < m * 2 ^ x := mul_pos (by exact_mod_cast Nat.pos_of_ne_zero hm) (zpow_two_pos x)
  cases sign
  · simpa [FpVal.rat] using hpos.le
  · simpa [FpVal.rat] using hpos

theorem rat_neg (v : FpVal) : v.neg.rat = -v.rat := by
  cases v with
  | fin s m x => cases s <;> simp [FpVal.rat, FpVal.neg]
  | nan | inf => exact neg_zero.symm

theorem rat_mul : (FpVal.fin (sa != sb) (ma * mb) (ea + eb)).rat =
    (FpVal.fin sa ma ea).rat * (FpVal.fin sb mb eb).rat := by
  simp only [FpVal.rat, zpow_add₀ (two_ne_zero' ℚ)]
  cases sa <;> cases sb <;> push_cast <;> simp <;> ring

/-- A number with a mantissa stands for itself. -/
theorem stands_fin (hm : m ≠ 0) : FpExact.Stands ⟨sign, m, x, false⟩ p (FpVal.fin sign m x).rat :=
  ⟨(rat_neg_iff hm).symm, Nat.pos_of_ne_zero hm, by rw [if_neg Bool.false_ne_true]; exact rat_abs.symm⟩

/-! ### Sums and products -/

/-- The sum of two numbers, as an integer over their common exponent. -/
def sumOf (sa : Bool) (ma : Nat) (ea : Int) (sb : Bool) (mb : Nat) (eb : Int) : Int :=
  scaled sa ma ea (min ea eb) + scaled sb mb eb (min ea eb)

theorem sumOf_rat : (sumOf sa ma ea sb mb eb : ℚ) * 2 ^ min ea eb =
    (FpVal.fin sa ma ea).rat + (FpVal.fin sb mb eb).rat := by
  rw [sumOf, Int.cast_add, add_mul, scaled_rat sa ma (min_le_left ea eb), scaled_rat sb mb (min_le_right ea eb)]

theorem addVal_fin : f.addVal e (.fin sa ma ea) (.fin sb mb eb) =
    if sumOf sa ma ea sb mb eb = 0 then .val (f.zero (if sa = sb then sa else e.rm = 3)) .none
    else f.roundExact e ⟨sumOf sa ma ea sb mb eb < 0, (sumOf sa ma ea sb mb eb).natAbs, min ea eb, false⟩ := rfl

theorem sumOf_eq_zero : sumOf sa ma ea sb mb eb = 0 ↔ (FpVal.fin sa ma ea).rat + (FpVal.fin sb mb eb).rat = 0 := by
  rw [← sumOf_rat, mul_eq_zero, or_iff_left (zpow_two_pos _).ne', Int.cast_eq_zero]

theorem addVal_rounds (h : (FpVal.fin sa ma ea).rat + (FpVal.fin sb mb eb).rat ≠ 0) :
    ∃ z : FpExact, z.Stands p ((FpVal.fin sa ma ea).rat + (FpVal.fin sb mb eb).rat) ∧
      f.addVal e (.fin sa ma ea) (.fin sb mb eb) = f.roundExact e z := by
  have ht : sumOf sa ma ea sb mb eb ≠ 0 := fun ht => h (sumOf_eq_zero.1 ht)
  refine ⟨_, ⟨?_, Int.natAbs_pos.2 ht, ?_⟩, addVal_fin.trans (if_neg ht)⟩
  · have hsign := mul_lt_mul_iff_left₀ (b := (sumOf sa ma ea sb mb eb : ℚ)) (c := 0) (zpow_two_pos (min ea eb))
    rw [zero_mul] at hsign
    rw [decide_eq_true_eq, ← sumOf_rat, hsign, Int.cast_lt_zero]
  · rw [if_neg Bool.false_ne_true, ← sumOf_rat, abs_mul, abs_of_pos (zpow_two_pos _), ← Int.cast_abs,
      Int.abs_eq_natAbs, Int.cast_natCast]

theorem addVal_zero (h : (FpVal.fin sa ma ea).rat + (FpVal.fin sb mb eb).rat = 0) :
    f.addVal e (.fin sa ma ea) (.fin sb mb eb) = .val (f.zero (if sa = sb then sa else e.rm = 3)) .none :=
  addVal_fin.trans (if_pos (sumOf_eq_zero.2 h))

theorem roundVal_rounds (hm : m ≠ 0) : ∃ z : FpExact, z.Stands p (FpVal.fin sign m x).rat ∧
    f.roundVal e sign m x = f.roundExact e z :=
  ⟨_, stands_fin hm, if_neg hm⟩

/-! ### Quotients -/

/-- A natural quotient is its integer part, or between it and the next integer. -/
theorem nat_quotient_bounds (n : Nat) {d : Nat} (hd : 0 < d) :
    if n % d ≠ 0 then ((n / d : Nat) : ℚ) < n / d ∧ (n : ℚ) / d < ((n / d : Nat) : ℚ) + 1
    else ((n / d : Nat) : ℚ) = n / d := by
  have hd' : (0 : ℚ) < d := by exact_mod_cast hd
  have hsplit : (n : ℚ) = d * (n / d : Nat) + (n % d : Nat) := by exact_mod_cast (Nat.div_add_mod n d).symm
  have hlt : ((n % d : Nat) : ℚ) < d := by exact_mod_cast Nat.mod_lt n hd
  split
  · next h =>
    have hpos : (0 : ℚ) < (n % d : Nat) := by exact_mod_cast Nat.pos_of_ne_zero h
    rw [lt_div_iff₀ hd', div_lt_iff₀ hd']
    constructor <;> linarith
  · next h =>
    rw [eq_div_iff hd'.ne', hsplit, not_not.1 h, Nat.cast_zero]
    ring

/-- The quotient of two numbers, in units of the exact quotient's last place. -/
theorem quotient_scale (hmb : mb ≠ 0) : |(FpVal.fin sa ma ea).rat / (FpVal.fin sb mb eb).rat| =
    ((ma * 2 ^ quotientBits : Nat) : ℚ) / mb * 2 ^ (ea - eb - quotientBits) := by
  have hmb' : (mb : ℚ) ≠ 0 := by exact_mod_cast hmb
  have hb := (zpow_two_pos eb).ne'
  have hq : ((2 : ℚ) ^ quotientBits) ≠ 0 := pow_ne_zero _ two_ne_zero
  rw [abs_div, rat_abs, rat_abs, zpow_sub₀ two_ne_zero, zpow_sub₀ two_ne_zero, zpow_natCast]
  push_cast
  field_simp

theorem stands_quotient {q : ℚ} (hmb : mb ≠ 0) (hsign : sign = true ↔ q < 0)
    (hbig : 2 ^ (p + 1) * mb ≤ ma * 2 ^ quotientBits)
    (hq : |q| = ((ma * 2 ^ quotientBits : Nat) : ℚ) / mb * 2 ^ (ea - eb - quotientBits)) :
    (quotient sign ma ea mb eb).Stands p q := by
  have hunit := zpow_two_pos (ea - eb - quotientBits)
  have hlow : 2 ^ (p + 1) ≤ ma * 2 ^ quotientBits / mb := (Nat.le_div_iff_mul_le (Nat.pos_of_ne_zero hmb)).2 hbig
  have hbounds := nat_quotient_bounds (ma * 2 ^ quotientBits) (Nat.pos_of_ne_zero hmb)
  refine ⟨hsign, (Nat.two_pow_pos _).trans_le hlow, ?_⟩
  simp only [quotient, decide_eq_true_eq]
  rw [hq]
  split
  · next h =>
    rw [if_pos h] at hbounds
    exact ⟨mul_lt_mul_of_pos_right hbounds.1 hunit, mul_lt_mul_of_pos_right hbounds.2 hunit, hlow⟩
  · next h =>
    rw [if_neg h] at hbounds
    rw [hbounds]

/-- The sign of a quotient. -/
theorem div_neg_iff_sign (hma : ma ≠ 0) (hmb : mb ≠ 0) :
    ((sa != sb) = true ↔ (FpVal.fin sa ma ea).rat / (FpVal.fin sb mb eb).rat < 0) := by
  have ha := rat_neg_iff (sign := sa) (x := ea) hma
  have hb := rat_neg_iff (sign := sb) (x := eb) hmb
  have ha0 := rat_nonzero (sign := sa) (x := ea) hma
  have hb0 := rat_nonzero (sign := sb) (x := eb) hmb
  rw [div_neg_iff, ha, hb]
  have hpa : 0 < (FpVal.fin sa ma ea).rat ↔ sa = false := by
    rw [← Bool.not_eq_true, ← ha, not_lt, lt_iff_le_and_ne, and_iff_left ha0.symm]
  have hpb : 0 < (FpVal.fin sb mb eb).rat ↔ sb = false := by
    rw [← Bool.not_eq_true, ← hb, not_lt, lt_iff_le_and_ne, and_iff_left hb0.symm]
  rw [hpa, hpb]
  cases sa <;> cases sb <;> decide

/-! ### Roots -/

/-- The radicand, in units of the square of the root's last place. -/
theorem root_scale (m : Nat) (x : Int) :
    ((m * 2 ^ ((x % 2).toNat + 2 * quotientBits) : Nat) : ℚ) * (2 ^ ((x - (x % 2).toNat) / 2 - quotientBits)) ^ 2 =
      (m : ℚ) * 2 ^ x := by
  have hodd := Int.emod_two_eq_zero_or_one x
  have hexp : (((x % 2).toNat + 2 * quotientBits : Nat) : Int) +
      ((x - (x % 2).toNat) / 2 - quotientBits) * 2 = x := by
    push_cast
    omega
  rw [← zpow_natCast (_ ^ _ : ℚ) 2, ← zpow_mul, Nat.cast_ofNat]
  push_cast
  rw [mul_assoc, ← zpow_natCast (2 : ℚ), ← zpow_add₀ two_ne_zero, hexp]

theorem stands_root (hm : m ≠ 0) (hp : p + 1 ≤ quotientBits) :
    (rootExact m x).StandsForRoot p (FpVal.fin false m x).rat := by
  have hscale := root_scale m x
  obtain ⟨hlow, hhigh⟩ := natSqrt_spec (m * 2 ^ ((x % 2).toNat + 2 * quotientBits))
  have hbig : 2 ^ quotientBits ≤ natSqrt (m * 2 ^ ((x % 2).toNat + 2 * quotientBits)) := by
    refine natSqrt_ge ?_
    calc 2 ^ (quotientBits + quotientBits) ≤ 2 ^ ((x % 2).toNat + 2 * quotientBits) :=
          Nat.pow_le_pow_right (by decide) (by omega)
      _ ≤ _ := Nat.le_mul_of_pos_left _ (Nat.pos_of_ne_zero hm)
  have hunit : (0 : ℚ) < (2 ^ ((x - (x % 2).toNat) / 2 - quotientBits)) ^ 2 := pow_pos (zpow_two_pos _) 2
  have hrat : (FpVal.fin false m x).rat = (m : ℚ) * 2 ^ x := by simp [FpVal.rat]
  refine ⟨rfl, (Nat.two_pow_pos _).trans_le hbig, ?_⟩
  simp only [rootExact, decide_eq_true_eq]
  rw [hrat, ← hscale]
  generalize m * 2 ^ ((x % 2).toNat + 2 * quotientBits) = n at hlow hhigh hbig ⊢
  generalize natSqrt n = r at hlow hhigh hbig ⊢
  rw [mul_pow, mul_pow]
  split
  · next h =>
    refine ⟨mul_lt_mul_of_pos_right ?_ hunit, mul_lt_mul_of_pos_right ?_ hunit,
      (Nat.pow_le_pow_right (by decide) hp).trans hbig⟩
    · rw [pow_two]
      exact_mod_cast lt_of_le_of_ne hlow h
    · rw [pow_two]
      exact_mod_cast hhigh
  · next h =>
    have hr : (r : ℚ) * r = n := by exact_mod_cast not_not.1 h
    rw [pow_two, hr]

/-! ### Finite operands -/

/-- The mantissa of a number that is not tiny fills the precision, or is zero. -/
theorem mant_full {w : DWord} (ht : f.tiny w = false) (hv : f.value w = .fin sign m x) (hm : m ≠ 0) :
    2 ^ f.frac ≤ m ∧ m < 2 ^ (f.frac + 1) := by
  have hfrac : f.fracOf w < 2 ^ f.frac := Nat.mod_lt _ (Nat.two_pow_pos _)
  by_cases h0 : f.expOf w = 0
  · rw [value_of_zero h0] at hv
    injection hv with _ hfm _
    rw [FpFmt.tiny, decide_eq_true h0, Bool.true_and, decide_eq_false_iff_not, not_not] at ht
    exact absurd (hfm.symm.trans ht) hm
  · by_cases hmax : f.expOf w = f.maxExp
    · rw [value_of_maxExp hmax] at hv
      split at hv <;> cases hv
    · rw [value_of_normal hmax h0] at hv
      injection hv with _ hfm _
      rw [← hfm, Nat.pow_succ]
      omega

end

end Sys2Proof.Machine

/-! ## FP results are the exact ones, rounded (O60) -/

namespace Sys2Proof.Machine

section
variable {f : FpFmt} {e : FpEnv} {x y : DWord} {sx sy : Bool} {mx my : Nat} {ex ey : Int}

theorem frac_le (f : FpFmt) : f.frac ≤ 52 := by
  rcases format_sizes f with ⟨h, -⟩ | ⟨h, -⟩ <;> omega

/-- A quotient of two mantissas of full precision is longer than the precision by several bits. -/
theorem quotient_long {ma mb : Nat} (ha : 2 ^ f.frac ≤ ma) (hb : mb < 2 ^ (f.frac + 1)) :
    2 ^ (f.frac + 1 + 1) * mb ≤ ma * 2 ^ quotientBits := by
  have hbits : f.frac + 1 + 1 + (f.frac + 1) ≤ f.frac + quotientBits := by
    have := frac_le f
    rw [show quotientBits = 64 from rfl]
    omega
  calc 2 ^ (f.frac + 1 + 1) * mb ≤ 2 ^ (f.frac + 1 + 1) * 2 ^ (f.frac + 1) := Nat.mul_le_mul_left _ hb.le
    _ ≤ 2 ^ f.frac * 2 ^ quotientBits := by
      rw [← Nat.pow_add, ← Nat.pow_add]
      exact Nat.pow_le_pow_right (by decide) hbits
    _ ≤ _ := Nat.mul_le_mul_right _ ha

/-- Where the product of two numbers fits the format, or overflows it, the intermediate product of a multiply-add is
that result. -/
theorem productVal_of_fpMul {w : DWord} {k : FpFlags} (hm : mx * my ≠ 0)
    (hw : f.mulOut e (.fin sx mx ex) (.fin sy my ey) = .val w k) (hu : k.u = false) :
    f.productVal e (.fin sx mx ex) (.fin sy my ey) = some (f.value w, k) ∧ f.Normal w := by
  have hround : f.fit e ⟨sx != sy, mx * my, ex + ey, false⟩
      (FpExact.round ⟨sx != sy, mx * my, ex + ey, false⟩ e.rm (f.frac + 1)) = .val w k := (if_neg hm).symm.trans hw
  obtain ⟨hlow, hhigh⟩ := round_full (x := ⟨sx != sy, mx * my, ex + ey, false⟩) (rm := e.rm) (p := f.frac + 1)
    (Nat.succ_pos _) (Nat.pos_of_ne_zero hm) (fun h => nomatch h)
  have hbig : ¬ f.expField (FpExact.round ⟨sx != sy, mx * my, ex + ey, false⟩ e.rm (f.frac + 1)) < 1 := fun htiny => by
    rw [fit_tiny htiny] at hround
    split at hround
    · cases hround
      cases hu
    · cases hround
  refine ⟨?_, ?_⟩
  · unfold FpFmt.productVal
    simp only [mulVal]
    rw [if_neg hm, if_neg hbig, hround]
  · by_cases hmax : (f.maxExp : Int) ≤ f.expField (FpExact.round ⟨sx != sy, mx * my, ex + ey, false⟩ e.rm (f.frac + 1))
    · rw [fit_overflow hmax] at hround
      cases hround
      exact normal_overflowed f e.rm _
    · obtain ⟨v, hv, -, hnormal⟩ := fit_range (e := e) (x := ⟨sx != sy, mx * my, ex + ey, false⟩) (by omega) (by omega)
        hlow hhigh
      rw [hround] at hv
      cases hv
      exact hnormal

theorem nanResult_skip {product : Bool} {w : DWord} {ws : List DWord} (h : f.isNan w = false) :
    f.nanResult e product (w :: ws) = f.nanResult e product ws := by
  have hs : f.isSnan w = false := by
    cases hs : f.isSnan w with
    | false => rfl
    | true => rw [isNan_of_isSnan hs] at h; cases h
  unfold FpFmt.nanResult
  rw [List.any_cons, hs, Bool.false_or, List.filter_cons_of_neg (by rw [h]; decide)]

/-- A multiply-add is the multiplication and then the addition where the product is not tiny. -/
theorem fpMulAdd_eq (sub : Bool) {c w : DWord} {k : FpFlags} (hx : f.tiny x = false) (hy : f.tiny y = false)
    (hvx : f.value x = .fin sx mx ex) (hvy : f.value y = .fin sy my ey) (hm : mx * my ≠ 0)
    (hw : fpMul f e x y = .val w k) (hu : k.u = false) (hc : f.tiny c = false) :
    fpMulAdd f sub e c x y = (fpAdd f sub e w c).also k := by
  have hnx := isNan_of_fin hvx
  have hny := isNan_of_fin hvy
  rw [(binary_value hx hy hnx hny).2.1, hvx, hvy] at hw
  obtain ⟨hproduct, hnormal⟩ := productVal_of_fpMul hm hw hu
  have hnan : f.nanResult e true [x, y] = none := nanResult_none (by simp [hnx, hny])
  rw [fpAdd_plain sub hnormal.not_tiny hc, nanResult_skip hnormal.2]
  unfold fpMulAdd
  rw [operand_kept hx, operand_kept hy, operand_kept hc]
  simp only [hnan, hvx, hvy, hproduct]

end

/-- Settles O60: the bounds of the modes by the units kept and the rest, the range by the exponent field, the exact
results by what each operation's exact result stands for. -/
theorem roundingIsCorrect : Obligations.RoundingIsCorrect := by
  unfold Obligations.RoundingIsCorrect
  refine ⟨fun x rm p hp hm h => round_exact_bounds hp hm h, fun x rm p hp hm h => round_between_bounds hp hm h,
    fun x rm p hm hpos h => round_short_bounds hm hpos h, ?_, ?_⟩
  · intro f _ e x hpos hmore r away
    obtain ⟨hlow, hhigh⟩ := round_full (x := x) (rm := e.rm) (p := f.frac + 1) (Nat.succ_pos _) hpos hmore
    refine ⟨fun h1 hmax => ?_, fun hmax => ?_, fun htiny hn => ⟨fun hflush => ?_, fun hs ho => ?_⟩⟩
    · obtain ⟨w, hw, hv, -⟩ := fit_range (e := e) (x := x) h1 hmax hlow hhigh
      exact ⟨w, hw, hv⟩
    · exact (fit_overflow hmax).trans (by rw [overflowed_eq])
    · exact (fit_tiny htiny).trans (by rw [flushTiny_flushed hn hflush])
    · exact (fit_tiny htiny).trans (by rw [flushTiny_none hn hs ho])
  · intro f _ e x y sx sy mx my ex ey htx hty hvx hvy q u rounds
    obtain ⟨hadd, hmul, hdiv⟩ := binary_value (e := e) htx hty (isNan_of_fin hvx) (isNan_of_fin hvy)
    have hsqrt := (unary_value (e := e) htx (isNan_of_fin hvx)).1
    have hadd0 := hadd false
    have hadd1 := hadd true
    rw [hvx, hvy] at hadd0 hadd1 hmul hdiv
    rw [hvx] at hsqrt
    have hq : q = (FpVal.fin sx mx ex).rat := by show (f.value x).rat = _; rw [hvx]
    have hu : u = (FpVal.fin sy my ey).rat := by show (f.value y).rat = _; rw [hvy]
    have hsub : q - u = (FpVal.fin sx mx ex).rat + (FpVal.fin (!sy) my ey).rat := by
      rw [hq, hu, sub_eq_add_neg, ← rat_neg]; rfl
    have hprod : q * u = (FpVal.fin (sx != sy) (mx * my) (ex + ey)).rat := by rw [hq, hu, rat_mul]
    have hq0 : q = 0 ↔ mx = 0 := by rw [hq, rat_eq_zero]
    have hu0 : u = 0 ↔ my = 0 := by rw [hu, rat_eq_zero]
    have hqu0 : q * u = 0 ↔ mx * my = 0 := by rw [hprod, rat_eq_zero]
    refine ⟨fun h => ?_, fun h => ?_, fun h => ?_, fun h h' => ?_, fun h => ?_, fun h => ?_, fun h => ?_, fun h => ?_,
      fun h h' => ?_, fun h => ?_, fun sub c w k h hw hk hc => ?_⟩
    · rw [hq, hu] at h ⊢
      obtain ⟨z, hz, hout⟩ := addVal_rounds h
      exact ⟨z, hz, hadd0.trans hout⟩
    · rw [hsub] at h ⊢
      obtain ⟨z, hz, hout⟩ := addVal_rounds h
      exact ⟨z, hz, hadd1.trans hout⟩
    · rw [Ne, hqu0] at h
      rw [hprod]
      obtain ⟨z, hz, hout⟩ := roundVal_rounds h
      exact ⟨z, hz, hmul.trans hout⟩
    · rw [Ne, hq0] at h
      rw [Ne, hu0] at h'
      rw [hq, hu]
      refine ⟨_, stands_quotient h' (div_neg_iff_sign h h') ?_ (quotient_scale h'),
        hdiv.trans ((if_neg h').trans (if_neg h))⟩
      exact quotient_long (mant_full htx hvx h).1 (mant_full hty hvy h').2
    · have hm : mx ≠ 0 := fun hm => h.ne' (hq0.2 hm)
      have hs : sx = false := by
        rw [← Bool.not_eq_true, ← rat_neg_iff (x := ex) hm, ← hq]
        exact h.le.not_gt
      subst hs
      rw [hq]
      refine ⟨_, stands_root hm ?_, hsqrt.trans ((if_neg hm).trans (if_neg Bool.false_ne_true))⟩
      have := frac_le f
      rw [show quotientBits = 64 from rfl]
      omega
    · rw [hq, hu] at h
      exact hadd0.trans (addVal_zero h)
    · rw [hsub] at h
      exact hadd1.trans (addVal_zero h)
    · exact hmul.trans (if_pos (hqu0.1 h))
    · exact hdiv.trans ((if_neg fun hy => h' (hu0.2 hy)).trans (if_pos (hq0.1 h)))
    · exact hsqrt.trans (if_pos (hq0.1 h))
    · exact fpMulAdd_eq sub htx hty hvx hvy (fun hm => h (hqu0.2 hm)) hw hk hc

end Sys2Proof.Machine

/-! ## Conversions (O57)

A number is rounded to an integer from its integer part and its fraction; the other conversions round an exact number of
the destination's format. -/

namespace Sys2Proof.Machine

/-! ### Rounding to an integer (R628) -/

section
variable {rm : BitVec 2} {q δ : ℚ} {n : Nat} {up : Bool}

theorem roundsToInt_of_eq {v : Int} (h : (v : ℚ) = q) : RoundsToInt rm q v := by
  subst h
  refine ⟨fun _ => ?_, fun _ => ?_, fun _ => ?_, fun _ => ?_⟩
  · rw [sub_self, abs_zero]
    norm_num
  · rw [Int.floor_intCast, Int.ceil_intCast, ite_self]
  · rw [Int.ceil_intCast]
  · rw [Int.floor_intCast]

/-- A number with integer part `n` and fraction `δ` rounds to `n`, or to `n + 1` where `up` says so. -/
theorem roundsToInt_pos (h0 : 0 ≤ δ) (h1 : δ < 1) (hnear : rm = 0 → (up = true ↔ 1 / 2 < δ ∨ δ = 1 / 2 ∧ n % 2 = 1))
    (hzero : rm = 1 → up = false) (hup : rm = 2 → (up = true ↔ δ ≠ 0)) (hdown : rm = 3 → up = false) :
    RoundsToInt rm (n + δ) ((if up then n + 1 else n : Nat) : Int) := by
  have hn : (0 : ℚ) ≤ n := Nat.cast_nonneg n
  have hfloor : ⌊(n : ℚ) + δ⌋ = n := by
    rw [Int.floor_eq_iff]
    push_cast
    constructor <;> linarith
  cases up with
  | false =>
    refine ⟨fun h => ?_, fun h => ?_, fun h => ?_, fun h => ?_⟩ <;> rw [if_neg Bool.false_ne_true]
    · have hno := hnear h
      simp only [Bool.false_eq_true, false_iff, not_or, not_lt, not_and] at hno
      rw [Int.cast_natCast, add_sub_cancel_left, abs_of_nonneg h0]
      exact ⟨hno.1, fun hhalf => by have := hno.2 hhalf; omega⟩
    · rw [if_pos (by linarith), hfloor]
    · have hδ : δ = 0 := by simpa using hup h
      rw [hδ, add_zero, Int.ceil_natCast]
    · exact hfloor.symm
  | true =>
    refine ⟨fun h => ?_, fun h => absurd (hzero h) (by decide), fun h => ?_, fun h => absurd (hdown h) (by decide)⟩ <;>
      rw [if_pos rfl]
    · have hyes := (hnear h).1 rfl
      have habs : |(n : ℚ) + δ - ((n + 1 : Nat) : Int)| = 1 - δ := by
        push_cast
        rw [show (n : ℚ) + δ - (n + 1) = -(1 - δ) by ring, abs_neg, abs_of_nonneg (by linarith)]
      rw [habs]
      rcases hyes with hyes | ⟨hhalf, hodd⟩
      · exact ⟨by linarith, fun hh => by linarith⟩
      · exact ⟨by linarith, fun _ => by omega⟩
    · have hδ : 0 < δ := lt_of_le_of_ne h0 (Ne.symm ((hup h).1 rfl))
      symm
      rw [Int.ceil_eq_iff]
      push_cast
      constructor <;> linarith

/-- The mode with up and down exchanged: what it does with a number is what the mode does with its negation. -/
def mirrored (rm : BitVec 2) : BitVec 2 := if rm = 2 then 3 else if rm = 3 then 2 else rm

theorem roundsToInt_neg {v : Int} (hq : 0 ≤ q) (h : RoundsToInt (mirrored rm) q v) : RoundsToInt rm (-q) (-v) := by
  obtain ⟨hnear, hzero, hup, hdown⟩ := h
  refine ⟨?_, ?_, ?_, ?_⟩ <;> rintro rfl
  · obtain ⟨hle, heven⟩ := hnear rfl
    rw [Int.cast_neg, ← neg_sub', abs_neg]
    exact ⟨hle, fun hh => by have := heven hh; omega⟩
  · have hv := hzero rfl
    rw [if_pos hq] at hv
    rw [hv, Int.ceil_neg]
    split
    · next hneg => rw [show q = 0 by linarith, neg_zero, Int.floor_zero, neg_zero]
    · rfl
  · rw [hdown rfl, Int.ceil_neg]
  · rw [hup rfl, Int.floor_neg]

theorem roundsUp_true (odd more : Bool) (rest shift : Nat) :
    roundsUp rm true odd more rest shift = roundsUp (mirrored rm) false odd more rest shift := by
  have hrm : ∀ m : BitVec 2, m = 0 ∨ m = 1 ∨ m = 2 ∨ m = 3 := by decide
  rcases hrm rm with rfl | rfl | rfl | rfl <;> rfl

end

section
variable {rm : BitVec 2} {sign : Bool} {m : Nat} {x : Int}

/-- The rounding of `m / 2^k`, without a sign. -/
theorem roundsToInt_div (rm : BitVec 2) (m k : Nat) : RoundsToInt rm ((m : ℚ) / 2 ^ k)
    ((if roundsUp rm false (m / 2 ^ k % 2 = 1) false (m % 2 ^ k) k then m / 2 ^ k + 1 else m / 2 ^ k : Nat) : Int) := by
  have hpos : (0 : ℚ) < 2 ^ k := pow_pos two_pos k
  have hlt : ((m % 2 ^ k : Nat) : ℚ) < 2 ^ k := by exact_mod_cast Nat.mod_lt m (Nat.two_pow_pos k)
  have hsplit : (m : ℚ) / 2 ^ k = (m / 2 ^ k : Nat) + ((m % 2 ^ k : Nat) : ℚ) / 2 ^ k := by
    rw [div_eq_iff hpos.ne', add_mul, div_mul_cancel₀ _ hpos.ne']
    exact_mod_cast (Nat.div_add_mod' m (2 ^ k)).symm
  have hhalf : (1 : ℚ) / 2 < ((m % 2 ^ k : Nat) : ℚ) / 2 ^ k ↔ 2 ^ k < 2 * (m % 2 ^ k) := by
    rw [div_lt_div_iff₀ two_pos hpos, one_mul, mul_comm _ (2 : ℚ)]
    exact_mod_cast Iff.rfl
  have htie : ((m % 2 ^ k : Nat) : ℚ) / 2 ^ k = 1 / 2 ↔ 2 * (m % 2 ^ k) = 2 ^ k := by
    rw [div_eq_div_iff hpos.ne' two_ne_zero, one_mul, mul_comm _ (2 : ℚ)]
    exact_mod_cast Iff.rfl
  have hzero : ((m % 2 ^ k : Nat) : ℚ) / 2 ^ k ≠ 0 ↔ m % 2 ^ k ≠ 0 := by
    rw [Ne, div_eq_zero_iff, or_iff_left hpos.ne', Nat.cast_eq_zero]
  rw [hsplit]
  refine roundsToInt_pos (by positivity) ((div_lt_one hpos).2 hlt) ?_ ?_ ?_ ?_ <;> rintro rfl
  · rw [hhalf, htie]
    simp [roundsUp]
  · rfl
  · rw [hzero]
    simp [roundsUp]
  · simp [roundsUp]

theorem roundsUp_exact (sign odd : Bool) (k : Nat) : roundsUp rm sign odd false 0 k = false := by
  have hpos := (Nat.two_pow_pos k).ne
  simp [roundsUp, hpos]

/-- The rounded quotient differs from the quotient where something was cut off. -/
theorem rounded_div_ne (m k : Nat) (sign odd : Bool) :
    (((if roundsUp rm sign odd false (m % 2 ^ k) k then m / 2 ^ k + 1 else m / 2 ^ k : Nat) : ℚ) ≠ (m : ℚ) / 2 ^ k) ↔
      m % 2 ^ k ≠ 0 := by
  have hpos : (2 : ℚ) ^ k ≠ 0 := pow_ne_zero k two_ne_zero
  rw [not_iff_not, eq_div_iff hpos]
  constructor
  · intro h
    have h' : (if roundsUp rm sign odd false (m % 2 ^ k) k then m / 2 ^ k + 1 else m / 2 ^ k) * 2 ^ k = m := by
      exact_mod_cast h
    rw [← h', Nat.mul_mod_left]
  · intro h
    rw [h, roundsUp_exact, if_neg Bool.false_ne_true]
    exact_mod_cast Nat.div_mul_cancel (Nat.dvd_of_mod_eq_zero h)

/-- An integer conversion rounds by the mode, and is exact where the integer is the number. -/
theorem roundToInt_rounds : RoundsToInt rm (FpVal.fin sign m x).rat (roundToInt rm sign m x).1 ∧
    (roundToInt rm sign m x).2 = decide (((roundToInt rm sign m x).1 : ℚ) ≠ (FpVal.fin sign m x).rat) := by
  by_cases hx : 0 ≤ x
  · have hv : ((roundToInt rm sign m x).1 : ℚ) = (FpVal.fin sign m x).rat := by
      have hpow : (2 : ℚ) ^ x = 2 ^ x.toNat := by rw [← zpow_natCast, Int.toNat_of_nonneg hx]
      simp only [roundToInt, if_pos hx, FpVal.rat, hpow]
      cases sign <;> simp
    refine ⟨roundsToInt_of_eq hv, ?_⟩
    rw [hv]
    simp [roundToInt, if_pos hx]
  · have hrat : (FpVal.fin sign m x).rat = if sign then -((m : ℚ) / 2 ^ (-x).toNat) else (m : ℚ) / 2 ^ (-x).toNat := by
      have hpow : (2 : ℚ) ^ x = (2 ^ (-x).toNat)⁻¹ := by
        rw [← zpow_natCast, Int.toNat_of_nonneg (by omega), ← zpow_neg, neg_neg]
      simp only [FpVal.rat, hpow]
      cases sign <;> simp [div_eq_mul_inv]
    have hne := rounded_div_ne (rm := rm) m (-x).toNat sign (m / 2 ^ (-x).toNat % 2 = 1)
    rw [hrat]
    simp only [roundToInt, if_neg hx]
    cases sign with
    | false => exact ⟨roundsToInt_div rm m _, decide_eq_decide.2 hne.symm⟩
    | true =>
      simp only [if_true, roundsUp_true] at hne ⊢
      refine ⟨roundsToInt_neg (by positivity) (roundsToInt_div _ m _), decide_eq_decide.2 ?_⟩
      rw [Int.cast_neg, neg_injective.ne_iff, Int.cast_natCast]
      exact hne.symm

end

/-! ### The operand of a conversion (R627) -/

section
variable {src dst : FpFmt} {e : FpEnv} {a : DWord} {rm : BitVec 2} {sign : Bool} {m : Nat} {x : Int}

theorem convOperand_kept (h : src.tiny a = false) : src.convOperand e a = a := by
  rw [FpFmt.convOperand, operand_kept h, Option.getD_some]

theorem convOperand_nan (h : src.isNan a = true) : src.convOperand e a = a := convOperand_kept (not_tiny_of_isNan h)

theorem not_tiny_of_inf (h : src.value a = .inf sign) : src.tiny a = false := by
  cases ht : src.tiny a with
  | false => rfl
  | true => rw [value_of_tiny ht] at h; cases h

/-- The number a conversion uses for a finite operand, with its sign. -/
theorem convOperand_fin (h : src.value a = .fin sign m x) : ∃ m' x', src.value (src.convOperand e a) = .fin sign m' x' ∧
    (FpVal.fin sign m' x').rat = src.operandRat e a := by
  unfold FpFmt.operandRat
  cases ht : src.tiny a with
  | false => exact ⟨m, x, (congrArg src.value (convOperand_kept ht)).trans h, by rw [h]; rfl⟩
  | true =>
    have hsign : src.signOf a = sign := by
      have hv := (value_of_tiny ht).symm.trans h
      injection hv
    unfold FpFmt.convOperand FpFmt.operand
    rw [if_pos ht, Bool.true_and]
    cases hflush : e.fs || e.fo
    · exact ⟨m, x, h, by rw [h]; rfl⟩
    · exact ⟨0, _, (value_zero src _).trans (by rw [hsign]), rat_eq_zero.2 rfl⟩

/-! ### The values of the conversions -/

theorem fpToInt_fin (h : src.value (src.convOperand e a) = .fin sign m x) : fpToInt src dst (fun _ => rm) e a =
    if intFits dst (roundToInt rm sign m x).1 then
      .val ((BitVec.ofInt (if dst.is64 then 64 else 32) (roundToInt rm sign m x).1).setWidth 64)
        (.inexact (roundToInt rm sign m x).2)
    else .val (intInvalid dst) .invalid := by
  unfold fpToInt
  rw [h]

theorem fpToInt_invalid (h : ∀ sign m x, src.value a ≠ .fin sign m x) :
    fpToInt src dst (fun _ => rm) e a = .val (intInvalid dst) .invalid := by
  have ht : src.tiny a = false := by
    cases ht : src.tiny a with
    | false => rfl
    | true => exact absurd (value_of_tiny ht) (h _ _ _)
  unfold fpToInt
  rw [convOperand_kept ht]
  split
  · next hv => exact absurd hv (h _ _ _)
  · rfl

/-- A finite number converted to an integer. -/
theorem toInt_rounds (h : src.value a = .fin sign m x) (rm : BitVec 2) : ∃ v : Int,
    RoundsToInt rm (src.operandRat e a) v ∧
    fpToInt src .word (fun _ => rm) e a = (if -2 ^ 31 ≤ v ∧ v ≤ 2 ^ 31 - 1
      then .val ((BitVec.ofInt 32 v).setWidth 64) (.inexact (decide ((v : ℚ) ≠ src.operandRat e a)))
      else .val 0x7FFFFFFF .invalid) ∧
    fpToInt src .long (fun _ => rm) e a = (if -2 ^ 63 ≤ v ∧ v ≤ 2 ^ 63 - 1
      then .val (BitVec.ofInt 64 v) (.inexact (decide ((v : ℚ) ≠ src.operandRat e a)))
      else .val 0x7FFFFFFFFFFFFFFF .invalid) := by
  obtain ⟨m', x', hv, hrat⟩ := convOperand_fin (e := e) h
  obtain ⟨hround, hinexact⟩ := roundToInt_rounds (rm := rm) (sign := sign) (m := m') (x := x')
  rw [hrat] at hround hinexact
  refine ⟨_, hround, ?_, ?_⟩ <;> rw [fpToInt_fin hv, hinexact]
  · have hfits : (intFits .word (roundToInt rm sign m' x').1 = true) =
        (-2 ^ 31 ≤ (roundToInt rm sign m' x').1 ∧ (roundToInt rm sign m' x').1 ≤ 2 ^ 31 - 1) := by
      simp only [intFits, FpFmt.is64, Bool.false_eq_true, if_false, decide_eq_true_eq]
      exact propext ⟨fun h => ⟨h.1, by omega⟩, fun h => ⟨h.1, by omega⟩⟩
    simp only [hfits]
    rfl
  · have hfits : (intFits .long (roundToInt rm sign m' x').1 = true) =
        (-2 ^ 63 ≤ (roundToInt rm sign m' x').1 ∧ (roundToInt rm sign m' x').1 ≤ 2 ^ 63 - 1) := by
      simp only [intFits, FpFmt.is64, if_true, decide_eq_true_eq]
      exact propext ⟨fun h => ⟨h.1, by omega⟩, fun h => ⟨h.1, by omega⟩⟩
    simp only [hfits]
    rfl

/-! ### NaNs -/

theorem value_pack_quiet (f : FpFmt) {sign : Bool} {m : Nat} (h0 : m ≠ 0) (hm : m < 2 ^ (f.frac - 1)) :
    f.value (f.pack sign f.maxExp m) = .nan false := by
  have hlt : m < 2 ^ f.frac := hm.trans_le (Nat.pow_le_pow_right (by decide) (Nat.sub_le _ _))
  have hexp : f.expOf (f.pack sign f.maxExp m) = f.maxExp := expOf_pack (maxExp_lt f) hlt
  rw [value_of_maxExp hexp, fracOf_pack (maxExp_lt f) hlt, if_neg h0, decide_eq_false (Nat.not_le_of_lt hm)]

theorem value_qnan (f : FpFmt) : f.value f.qnan = .nan false := by
  refine value_pack_quiet f ?_ (Nat.sub_lt (Nat.two_pow_pos _) Nat.one_pos)
  rcases format_sizes f with ⟨h, -⟩ | ⟨h, -⟩ <;> rw [h] <;> decide

theorem isNan_iff : src.isNan a = true ↔ ∃ g, src.value a = .nan g := by
  unfold FpFmt.isNan
  cases src.value a <;> simp

theorem isSnan_iff : src.isSnan a = true ↔ src.value a = .nan true := decide_eq_true_iff

theorem quiet_value (h : src.isNan a = true) (hs : src.isSnan a = false) : src.value a = .nan false := by
  obtain ⟨g, hg⟩ := isNan_iff.1 h
  cases g with
  | false => exact hg
  | true => rw [isSnan_iff.2 hg] at hs; cases hs

/-- The mantissa field of a quiet NaN has its top bit clear. -/
theorem quiet_frac (h : src.value a = .nan false) : src.fracOf a < 2 ^ (src.frac - 1) := by
  by_cases hmax : src.expOf a = src.maxExp
  · rw [value_of_maxExp hmax] at h
    split at h
    · cases h
    · injection h with h
      exact Nat.lt_of_not_le (of_decide_eq_false h)
  · by_cases h0 : src.expOf a = 0
    · rw [value_of_zero h0] at h; cases h
    · rw [value_of_normal hmax h0] at h; cases h

/-- A quiet NaN converted is a quiet NaN: the mantissa's top bits stay at the top. -/
theorem convNan_quiet (hd : dst.is64 = !src.is64) (h : src.value a = .nan false) :
    dst.value (convNan src dst e a) = .nan false := by
  have hfrac := quiet_frac h
  have hm : (if dst.is64 then src.fracOf a * 2 ^ 29 else src.fracOf a / 2 ^ 29) < 2 ^ (dst.frac - 1) := by
    unfold FpFmt.frac at hfrac ⊢
    rw [hd]
    cases hs : src.is64 <;> rw [hs] at hfrac <;> simp only [Bool.not_false, Bool.not_true, if_true, if_false,
      Bool.false_eq_true] at hfrac ⊢ <;> omega
  unfold convNan
  generalize (if dst.is64 then src.fracOf a * 2 ^ 29 else src.fracOf a / 2 ^ 29) = m at hm
  dsimp only
  split
  · next hm0 =>
    simp only [Bool.and_eq_true, decide_eq_true_eq] at hm0
    exact value_pack_quiet dst hm0.1 hm
  · exact value_qnan dst

/-! ### The other format, and integers -/

theorem toFp_fin (h : src.value a = .fin sign m x) :
    (src.operandRat e a = 0 → fpToFp src dst e a = .val (dst.zero sign) .none) ∧
      (src.operandRat e a ≠ 0 → ∃ z : FpExact, z.Stands (dst.frac + 1) (src.operandRat e a) ∧
        fpToFp src dst e a = dst.roundExact e z) := by
  obtain ⟨m', x', hv, hrat⟩ := convOperand_fin (e := e) h
  have hrun : fpToFp src dst e a = dst.roundVal e sign m' x' := by
    unfold fpToFp
    rw [hv]
  rw [← hrat, hrun, Ne, rat_eq_zero]
  exact ⟨fun h0 => if_pos h0, fun h0 => roundVal_rounds h0⟩

theorem fpOfInt_exact {f : FpFmt} {v : Int} (h : f.intOf a = v) :
    (v = 0 → fpOfInt f dst e a = .val (dst.zero false) .none) ∧
      (v ≠ 0 → ∃ z : FpExact, z.Stands (dst.frac + 1) (v : ℚ) ∧ fpOfInt f dst e a = dst.roundExact e z) := by
  subst h
  have hrat : (FpVal.fin (decide (f.intOf a < 0)) (f.intOf a).natAbs 0).rat = (f.intOf a : ℚ) := by
    simp only [FpVal.rat, zpow_zero, mul_one, decide_eq_true_eq]
    split
    · have : (((f.intOf a).natAbs : Int) : ℚ) = ((-(f.intOf a) : Int) : ℚ) := by congr 1; omega
      rw [Int.cast_natCast] at this
      rw [this, Int.cast_neg]
      ring
    · have : (((f.intOf a).natAbs : Int) : ℚ) = ((f.intOf a : Int) : ℚ) := by congr 1; omega
      rw [Int.cast_natCast] at this
      rw [this, one_mul]
  refine ⟨fun h0 => ?_, fun h0 => ?_⟩
  · unfold fpOfInt
    rw [h0]
    rfl
  · rw [← hrat]
    exact roundVal_rounds (Int.natAbs_ne_zero.2 h0)

end

end Sys2Proof.Machine

/-! ## The conversion instructions (O57) -/

namespace Sys2Proof.Machine

/-- Where tiny numbers are flushed the environment says so. -/
theorem forgiving_fs {s : State} (hf : s.fpForgiving = true) : s.fpEnv.fs = true := by
  simp only [State.fpForgiving, Bool.and_eq_true] at hf
  exact hf.1

theorem toFp_nan {src dst : FpFmt} {e : FpEnv} {a : DWord} (hd : dst.is64 = !src.is64) (h : src.isNan a = true) :
    (src.isSnan a = true → fpToFp src dst e a = .val dst.qnan .invalid) ∧
      (src.isSnan a = false → ∃ w, dst.isNan w = true ∧ dst.isSnan w = false ∧ fpToFp src dst e a = .val w .none) := by
  refine ⟨fun hs => ?_, fun hs => ?_⟩
  · unfold fpToFp
    rw [convOperand_nan h, isSnan_iff.1 hs]
    rfl
  · have hv := convNan_quiet (e := e) hd (quiet_value h hs)
    refine ⟨_, isNan_iff.2 ⟨_, hv⟩, ?_, ?_⟩
    · rw [← Bool.not_eq_true, isSnan_iff, hv]
      exact fun h => nomatch h
    · unfold fpToFp
      rw [convOperand_nan h, quiet_value h hs]
      rfl

theorem toFp_inf {src dst : FpFmt} {e : FpEnv} {a : DWord} {sign : Bool} (h : src.value a = .inf sign) :
    fpToFp src dst e a = .val (dst.inf sign) .none := by
  unfold fpToFp
  rw [convOperand_kept (not_tiny_of_inf h), h]

/-- Settles O57: the values by the integer part and fraction, or the exact number, of the operand; completion by the
run of each instruction and what its operation answers where tiny numbers are flushed. -/
theorem fpConversionsComplete : Obligations.FpConversionsComplete := by
  unfold Obligations.FpConversionsComplete
  refine ⟨fun src hsrc e a => ?_, fun dst _ e a => ?_, fun fs fd s h hf => ?_⟩
  · intro q dst
    have hd : dst.is64 = !src.is64 := by
      simp only [List.mem_cons, List.not_mem_nil, or_false] at hsrc
      rcases hsrc with rfl | rfl <;> rfl
    exact ⟨fun sign m x hv rm => toInt_rounds hv rm, fun hv rm => ⟨fpToInt_invalid hv, fpToInt_invalid hv⟩,
      fun hs => (toFp_nan hd (isNan_of_isSnan hs)).1 hs, fun hn hs => (toFp_nan hd hn).2 hs,
      fun sign hv => toFp_inf hv, fun sign m x hv => toFp_fin hv⟩
  · simp only [List.forall_mem_cons]
    exact ⟨fpOfInt_exact rfl, fpOfInt_exact rfl, fun _ hp => nomatch hp⟩
  · intro e w d even
    have hz := ((fpReady_iff s).1 h).2.2
    have hfs := forgiving_fs hf
    have heven : ∀ r, even r → s.fmtOk .double r = true := fun r hr => fmtOk_double s r hz hr
    have hint : ∀ src dst : FpFmt, ∀ a, FpOut.isVal (fpOfInt src dst s.fpEnv a) :=
      fun src dst a => roundVal_val dst s.fpEnv _ _ _ hfs
    have done : ∀ {i : Instr} {f : FpFmt} {r : FpOut}, s.fmtOk f fd = true → FpOut.isVal r →
        exec i s = s.fpEnd f fd r → FpCompletes i s f fd r := completes_of_run h hf
    refine ⟨fun p hp => done rfl (fpToInt_val _ _ _ _ _) (toWord_single h fs fd p hp),
      fun hs p hp => done rfl (fpToInt_val _ _ _ _ _) (toWord_double h fs fd (heven fs hs) p hp),
      done rfl (hint _ _ _) (fpOp1_run h rfl rfl (fpOfInt .word .single)),
      fun hd => done (heven fd hd) (hint _ _ _) (fpOp1_run h rfl (heven fd hd) (fpOfInt .word .double)),
      fun hd => done (heven fd hd) (fpToFp_val _ _ _ _ hfs) (fpOp1_run h rfl (heven fd hd) (fpToFp .single .double)),
      fun hs => done rfl (fpToFp_val _ _ _ _ hfs) (fpOp1_run h (heven fs hs) rfl (fpToFp .double .single)),
      fun hfr => ?_, fun hfr => ?_⟩
    · have hlong : s.fmtOk .long fd = true := fmtOk_double s fd hz (.inl hfr)
      exact ⟨fun p hp => done hlong (fpToInt_val _ _ _ _ _) (toLong_single h fs fd hfr p hp),
        fun p hp => done hlong (fpToInt_val _ _ _ _ _) (toLong_double h fs fd hfr p hp),
        done rfl (hint _ _ _) (fpOpL_run h hfr (fpOfInt .long .single)),
        done (heven fd (.inl hfr)) (hint _ _ _) (fpOpL_run h hfr (fpOfInt .long .double))⟩
    · simp only [List.forall_mem_cons]
      exact ⟨fpOpL_refused h hfr _, fpOpL_refused h hfr _, fpOpL_refused h hfr _, fpOpL_refused h hfr _,
        fpOpL_refused h hfr _, fpOpL_refused h hfr _, fpOpL_refused h hfr _, fpOpL_refused h hfr _,
        fpOpL_refused h hfr _, fpOpL_refused h hfr _, fpOpL_refused h hfr _, fpOpL_refused h hfr _,
        fun _ hp => nomatch hp⟩

end Sys2Proof.Machine

/-! ## Approximations (R658, R659, D44; obligation O56)

A value near an exact result is `N` units of the exact result's last place, `N` a multiple of half a unit `2^j` of the
format's last place, and has the precision, so that rounding it changes nothing. -/

namespace Sys2Proof.Machine

/-- Rounded value `r` is `N` units of the last place of `x`, within `k` units `2^(j+1)` in the last place of the
precision `p`, and is inexact unless it is `x`. -/
structure NearExact (p k : Nat) (x : FpExact) (r : FpRounded) (N j : Nat) : Prop where
  low : 2 ^ (p - 1) ≤ r.mant
  high : r.mant < 2 ^ p
  number : (r.mant : ℚ) * 2 ^ r.exp = N * 2 ^ x.exp
  above : x.mant + (if x.more then 1 else 0) ≤ N + 2 * k * 2 ^ j
  below : N ≤ x.mant + 2 * k * 2 ^ j
  unit_low : 2 ^ p * 2 ^ j ≤ x.mant
  unit_high : x.mant + 1 ≤ 2 ^ (p + 1) * 2 ^ j
  inexact : r.inexact = true ↔ x.more = true ∨ N ≠ x.mant

section
variable {x : FpExact} {p k : Nat}

theorem getD_of_forall {α : Type} {P : α → Prop} {l : List α} {d : α} (i : Nat) (hl : ∀ a ∈ l, P a) (hd : P d) :
    P (l[i]?.getD d) := by
  cases h : l[i]? with
  | none => exact hd
  | some a => exact hl a (List.mem_of_getElem? h)

/-- A number of half units that a value of the precision may have. -/
def Representable (p h : Nat) : Prop := h < 2 ^ p ∨ h % 2 = 0 ∧ (h < 2 ^ (p + 1) ∨ h % 4 = 0)

/-- A number the precision has is rounded to itself. -/
theorem round_representable {y : FpExact} (hp : 0 < p) (hm : y.more = false) (hpos : 0 < y.mant)
    (hrep : Representable p y.mant) (hbound : y.mant < 2 ^ (p + 2)) :
    2 ^ (p - 1) ≤ (y.round 1 p).mant ∧ (y.round 1 p).mant < 2 ^ p ∧
      ((y.round 1 p).mant : ℚ) * 2 ^ (y.round 1 p).exp = y.mant * 2 ^ y.exp := by
  by_cases h : y.mant < 2 ^ p
  · obtain ⟨-, hexp, hmant, hlow, hhigh⟩ := round_short_bounds (rm := 1) hm hpos h
    refine ⟨hlow, hhigh, ?_⟩
    rw [hmant, Nat.cast_mul, Nat.cast_pow, Nat.cast_ofNat, mul_assoc, ← zpow_natCast (2 : ℚ),
      ← zpow_add₀ two_ne_zero, Int.toNat_of_nonneg (sub_nonneg.2 hexp), Int.sub_add_cancel]
  · have hlong : 2 ^ p ≤ y.mant := Nat.le_of_not_lt h
    obtain ⟨hexp, hlow, hhigh, hmant⟩ := round_units (rm := 1) hp hlong
    have hlog : p ≤ y.mant.log2 ∧ y.mant.log2 < p + 2 :=
      ⟨(Nat.le_log2 hpos.ne').2 hlong, (Nat.log2_lt hpos.ne').2 hbound⟩
    have hshift : y.shift p = y.mant.log2 + 1 - p := rfl
    have hrest : y.rest p = 0 := by
      obtain ⟨heven, hfour⟩ := hrep.resolve_left h
      rw [FpExact.rest]
      rcases Nat.lt_or_ge y.mant.log2 (p + 1) with hl | hl
      · rw [show y.shift p = 1 by omega]
        exact heven
      · have hbig : ¬ y.mant < 2 ^ (p + 1) := fun hlt => by
          have := (Nat.log2_lt hpos.ne').2 hlt
          omega
        rw [show y.shift p = 2 by omega]
        exact hfour.resolve_left hbig
    have hsplit := mant_split (x := y) (p := p)
    have hunits : y.units 1 p = y.kept p := by rw [FpExact.units, up_zero, if_neg Bool.false_ne_true]
    rw [hunits] at hmant
    refine ⟨hlow, hhigh, ?_⟩
    have hnat : (y.mant : ℚ) = (y.round 1 p).mant * 2 ^ ((y.round 1 p).exp - y.exp).toNat := by
      rw [hrest, Nat.add_zero] at hsplit
      exact_mod_cast hsplit.trans hmant.symm
    rw [hnat, mul_assoc, ← zpow_natCast (2 : ℚ), ← zpow_add₀ two_ne_zero, Int.toNat_of_nonneg (sub_nonneg.2 hexp.le),
      Int.sub_add_cancel]

variable {h scale : Nat}

/-- What a number of half units must satisfy to be near an exact result. -/
def NearUnits (p k : Nat) (x : FpExact) (scale h : Nat) : Prop :=
  x.mant + (if x.more then 1 else 0) ≤ h * scale + 2 * k * scale ∧ h * scale ≤ x.mant + 2 * k * scale ∧
    Representable p h

/-- Every candidate is near the exact result. -/
theorem nearby_units {q : Nat} {ex : Int} (hmem : h ∈ nearby p x q ex k) :
    NearUnits p k x (2 ^ (ex - 1 - x.exp).toNat) h := by
  simp only [nearby, List.mem_filter, Bool.and_eq_true, Bool.or_eq_true, decide_eq_true_eq] at hmem
  exact ⟨hmem.2.1.1, hmem.2.1.2, hmem.2.2⟩

/-- So is the result rounded towards zero. -/
theorem truncated_units (hk : 1 ≤ k) (hp : 0 < p) (hlong : 2 ^ p ≤ x.mant) {j : Nat} (hj : x.shift p = j + 1) :
    NearUnits p k x (2 ^ j) (2 * x.kept p) := by
  obtain ⟨-, -, hkept⟩ := kept_bounds hp hlong
  have hsplit := mant_split (x := x) (p := p)
  have hrest := rest_lt (x := x) (p := p)
  have hk' : 2 ^ j ≤ k * 2 ^ j := Nat.le_mul_of_pos_left _ hk
  have hmore : (if x.more then 1 else 0) ≤ 1 := by split <;> decide
  rw [hj, Nat.pow_succ, ← Nat.mul_assoc] at hsplit
  rw [hj, Nat.pow_succ] at hrest
  rw [NearUnits, Nat.mul_assoc 2, Nat.mul_assoc 2, Nat.mul_comm 2 (x.kept p * _)]
  exact ⟨by omega, by omega, .inr ⟨by omega, .inl (by rw [Nat.pow_succ]; omega)⟩⟩

/-- A number of half units is the exact result only where that is the truncated result: an odd number of half units
has no place in the precision. -/
theorem units_exact_iff {kept rest j : Nat} (hp : 0 < p) (hlow : 2 ^ (p - 1) ≤ kept) (hrest : rest < 2 ^ j * 2)
    (hrep : Representable p h) : h * 2 ^ j = kept * 2 ^ j * 2 + rest ↔ rest = 0 ∧ h = 2 * kept := by
  have hpow : 2 ^ p = 2 * 2 ^ (p - 1) := by rw [← Nat.pow_succ', Nat.succ_eq_add_one, Nat.sub_add_cancel hp]
  have hswap : kept * 2 ^ j * 2 = 2 * kept * 2 ^ j := by ring
  rw [hswap]
  constructor
  · intro heq
    have hlt : h < 2 * kept + 2 := by
      refine Nat.lt_of_mul_lt_mul_right (a := 2 ^ j) ?_
      rw [Nat.add_mul]
      omega
    have hge : 2 * kept ≤ h := by
      refine Nat.le_of_mul_le_mul_right ?_ (Nat.two_pow_pos j)
      omega
    have hne : h ≠ 2 * kept + 1 := fun hodd => by
      rcases hrep with hsmall | ⟨heven, -⟩ <;> omega
    have hh : h = 2 * kept := by omega
    rw [hh] at heq
    exact ⟨by omega, hh⟩
  · rintro ⟨rfl, rfl⟩
    rfl

/-- A value near an exact result: it has the precision, and is inexact unless it is the result. -/
theorem near_of_units (hp : 5 ≤ p) (hk : k ≤ 2) (hlong : 2 ^ (p + 1) ≤ x.mant) {j : Nat} (hj : x.shift p = j + 1)
    (hunits : NearUnits p k x (2 ^ j) h) :
    NearExact p k x { FpExact.round ⟨x.sign, h, x.exp + j, false⟩ 1 p with
      inexact := (decide (x.rest p ≠ 0) || x.more) || decide (h ≠ 2 * x.kept p) } (h * 2 ^ j) j := by
  have hlong' : 2 ^ p ≤ x.mant := le_trans (Nat.pow_le_pow_right (by decide) (Nat.le_succ p)) hlong
  obtain ⟨-, hlow, hhigh⟩ := kept_bounds (by omega) hlong'
  have hsplit := mant_split (x := x) (p := p)
  have hrest := rest_lt (x := x) (p := p)
  obtain ⟨habove, hbelow, hrep⟩ := hunits
  have hunit := Nat.two_pow_pos j
  have hpow : 2 ^ p = 2 * 2 ^ (p - 1) := by rw [← Nat.pow_succ', Nat.succ_eq_add_one, Nat.sub_add_cancel (by omega)]
  have hpow4 : 2 ^ 4 ≤ 2 ^ (p - 1) := Nat.pow_le_pow_right (by decide) (by omega)
  have hmore : (if x.more then 1 else 0) ≤ 1 := by split <;> decide
  have hpow1 : 2 ^ (p + 1) = 2 * 2 ^ p := Nat.pow_succ'
  have hpow2 : 2 ^ (p + 2) = 4 * 2 ^ p := by rw [Nat.pow_succ', hpow1]; omega
  rw [hj, Nat.pow_succ] at hrest
  rw [hj, Nat.pow_succ, ← Nat.mul_assoc] at hsplit
  have hlt : h < 2 * x.kept p + 6 := by
    refine Nat.lt_of_mul_lt_mul_right (a := 2 ^ j) ?_
    have := Nat.mul_le_mul_right (2 ^ j) hk
    rw [Nat.mul_assoc] at hbelow
    rw [Nat.add_mul, Nat.mul_assoc]
    omega
  have hgt : 2 * x.kept p < h + 5 := by
    refine Nat.lt_of_mul_lt_mul_right (a := 2 ^ j) ?_
    have := Nat.mul_le_mul_right (2 ^ j) hk
    rw [Nat.mul_assoc 2] at habove
    rw [Nat.add_mul, Nat.mul_assoc]
    omega
  obtain ⟨hl, hh, hnumber⟩ := round_representable (y := ⟨x.sign, h, x.exp + j, false⟩) (by omega) rfl
    (show 0 < h by omega) hrep (show h < 2 ^ (p + 2) by omega)
  refine ⟨hl, hh, ?_, habove, hbelow, ?_, ?_, ?_⟩
  · rw [hnumber]
    dsimp only
    rw [zpow_add₀ two_ne_zero, zpow_natCast]
    push_cast
    ring
  · calc 2 ^ p * 2 ^ j = 2 ^ (p - 1) * 2 ^ j * 2 := by rw [hpow]; ring
      _ ≤ x.kept p * 2 ^ j * 2 := Nat.mul_le_mul_right _ (Nat.mul_le_mul_right _ hlow)
      _ ≤ x.mant := by omega
  · calc x.mant + 1 ≤ (x.kept p + 1) * (2 * 2 ^ j) := by rw [Nat.add_mul, ← Nat.mul_assoc, Nat.mul_right_comm]; omega
      _ ≤ 2 ^ p * (2 * 2 ^ j) := Nat.mul_le_mul_right _ hhigh
      _ = 2 ^ (p + 1) * 2 ^ j := by rw [hpow1]; ring
  · have hexact := units_exact_iff (by omega) hlow hrest hrep
    rw [← hsplit] at hexact
    simp only [Bool.or_eq_true, decide_eq_true_eq, ne_eq, hexact]
    tauto

end

/-- An approximation is a value near the exact result, brought into the range of the format. -/
theorem approx_near {f : FpFmt} {e : FpEnv} {k : Nat} {x : FpExact} (hk : 1 ≤ k ∧ k ≤ 2)
    (hlong : 2 ^ (f.frac + 1 + 1) ≤ x.mant) :
    ∃ r N j, f.approx e k x = f.fit e x r ∧ NearExact (f.frac + 1) k x r N j := by
  have hlong' : 2 ^ (f.frac + 1) ≤ x.mant := le_trans (Nat.pow_le_pow_right (by decide) (Nat.le_succ _)) hlong
  have hfrac : 22 < f.frac := by rcases format_sizes f with ⟨h, -⟩ | ⟨h, -⟩ <;> omega
  obtain ⟨-, -, hkept⟩ := kept_bounds (Nat.succ_pos _) hlong'
  obtain ⟨j, hj⟩ : ∃ j, x.shift (f.frac + 1) = j + 1 :=
    ⟨_, (Nat.sub_add_cancel (by have := shift_two hlong; omega)).symm⟩
  have hr0 : x.round 1 (f.frac + 1) = ⟨x.kept (f.frac + 1), x.exp + j + 1,
      decide (x.rest (f.frac + 1) ≠ 0) || x.more⟩ := by
    have hunits : x.units 1 (f.frac + 1) = x.kept (f.frac + 1) := by
      rw [FpExact.units, up_zero, if_neg Bool.false_ne_true]
    rw [round_long hlong', hunits, if_neg hkept.ne, hj]
    push_cast
    rw [← Int.add_assoc]
  have hexp : x.exp + (j : Int) + 1 - 1 = x.exp + j := by omega
  have hscale : (x.exp + (j : Int) + 1 - 1 - x.exp).toNat = j := by omega
  have hunits := getD_of_forall (P := NearUnits (f.frac + 1) k x (2 ^ j))
    (l := nearby (f.frac + 1) x (x.kept (f.frac + 1)) (x.exp + j + 1) k) (d := 2 * x.kept (f.frac + 1))
    (Config.freeNat e.draw .approx % (nearby (f.frac + 1) x (x.kept (f.frac + 1)) (x.exp + j + 1) k).length)
    (fun h hmem => by have := nearby_units hmem; rwa [hscale] at this)
    (truncated_units hk.1 (Nat.succ_pos _) hlong' hj)
  refine ⟨_, _, j, ?_, near_of_units (by omega) hk.2 hlong hj hunits⟩
  unfold FpFmt.approx
  dsimp only
  rw [hr0]
  dsimp only
  rw [hexp]

end Sys2Proof.Machine

/-! ## What an approximation is near to (O56) -/

namespace Sys2Proof.Machine

section
variable {f : FpFmt} {e : FpEnv} {x : FpExact} {r : FpRounded} {p k N j : Nat} {q t : ℚ}

/-- The number `t` that exact result `x` is known to be, in units of its last place. -/
def FpExact.Bounds (x : FpExact) (t : ℚ) : Prop :=
  if x.more then (x.mant : ℚ) < t ∧ t < x.mant + 1 else t = x.mant

theorem Stands_bounds (h : x.Stands p q) : x.Bounds (|q| / 2 ^ x.exp) := by
  obtain ⟨-, -, h⟩ := h
  have hunit := zpow_two_pos x.exp
  unfold FpExact.Bounds
  split at h
  · next hm =>
    rw [if_pos hm, lt_div_iff₀ hunit, div_lt_iff₀ hunit]
    exact ⟨h.1, h.2.1⟩
  · next hm =>
    rw [if_neg hm, div_eq_iff hunit.ne']
    exact h.symm

/-- The bounds of a value near an exact result, as rational numbers. -/
theorem near_cast (h : NearExact p k x r N j) : (x.mant : ℚ) + (if x.more then 1 else 0) ≤ N + 2 * k * 2 ^ j ∧
    (N : ℚ) ≤ x.mant + 2 * k * 2 ^ j ∧ (2 : ℚ) ^ p * 2 ^ j ≤ x.mant ∧ (x.mant : ℚ) + 1 ≤ 2 ^ (p + 1) * 2 ^ j := by
  have habove : ((x.mant + (if x.more then 1 else 0) : Nat) : ℚ) ≤ ((N + 2 * k * 2 ^ j : Nat) : ℚ) := by
    exact_mod_cast h.above
  have hbelow : ((N : Nat) : ℚ) ≤ ((x.mant + 2 * k * 2 ^ j : Nat) : ℚ) := by exact_mod_cast h.below
  have hlow : ((2 ^ p * 2 ^ j : Nat) : ℚ) ≤ x.mant := by exact_mod_cast h.unit_low
  have hhigh : ((x.mant + 1 : Nat) : ℚ) ≤ ((2 ^ (p + 1) * 2 ^ j : Nat) : ℚ) := by exact_mod_cast h.unit_high
  push_cast at habove hbelow hlow hhigh
  exact ⟨habove, hbelow, hlow, hhigh⟩

/-- An integer does not lie between two neighbouring integers. -/
theorem near_exact_iff (h : NearExact p k x r N j) (ht : x.Bounds t) : r.inexact = true ↔ (N : ℚ) ≠ t := by
  rw [h.inexact]
  unfold FpExact.Bounds at ht
  split at ht
  · next hm =>
    refine ⟨fun _ hN => ?_, fun _ => .inl hm⟩
    rw [← hN] at ht
    have h1 : x.mant < N := by exact_mod_cast ht.1
    have h2 : N < x.mant + 1 := by exact_mod_cast ht.2
    omega
  · next hm => rw [or_iff_right hm, ht, Ne, Ne, Nat.cast_inj]

/-- The distance, and the size in units in the last place of the precision. -/
theorem near_distance (h : NearExact p k x r N j) (ht : x.Bounds t) :
    |(N : ℚ) - t| ≤ 2 * k * 2 ^ j ∧ (2 : ℚ) ^ p * 2 ^ j ≤ t ∧ t < 2 ^ (p + 1) * 2 ^ j := by
  obtain ⟨habove, hbelow, hlow, hhigh⟩ := near_cast h
  unfold FpExact.Bounds at ht
  split at ht
  · next hm =>
    rw [if_pos hm] at habove
    exact ⟨abs_le.2 ⟨by linarith [ht.2], by linarith [ht.1]⟩, by linarith [ht.1], by linarith [ht.2]⟩
  · next hm =>
    rw [if_neg hm] at habove
    exact ⟨abs_le.2 ⟨by linarith, by linarith⟩, by linarith, by linarith⟩

/-- Half a unit of the precision, `k` times, is much less than a number of full precision. -/
theorem units_small (hp : 5 ≤ p) (hk : k ≤ 2) (j : Nat) : (4 : ℚ) * k * 2 ^ j < 2 ^ p * 2 ^ j := by
  refine mul_lt_mul_of_pos_right ?_ (pow_pos two_pos j)
  have hpow : 2 ^ 5 ≤ 2 ^ p := Nat.pow_le_pow_right (by decide) hp
  have : 4 * k < 2 ^ p := by omega
  exact_mod_cast this

/-- A value near a number is neither less than half of it nor more than twice it. -/
theorem near_factor (hp : 5 ≤ p) (hk : k ≤ 2) (h : NearExact p k x r N j) (ht : x.Bounds t) :
    t ≤ 2 * N ∧ N ≤ 2 * t := by
  obtain ⟨hdist, hlow, -⟩ := near_distance h ht
  have hsmall := units_small hp hk j
  rw [abs_le] at hdist
  constructor <;> linarith

/-! ### The range -/

/-- A value between the least normal number and `2^bias` is in the range of the format. -/
theorem near_range (h : NearExact (f.frac + 1) k x r N j) (hlow : (2 : ℚ) ^ (1 - (f.bias : Int)) ≤ N * 2 ^ x.exp)
    (hhigh : (N : ℚ) * 2 ^ x.exp ≤ 2 ^ (f.bias : Int)) : ∃ w, f.fit e x r = .val w (.inexact r.inexact) ∧
      f.value w = .fin x.sign r.mant r.exp := by
  have hmax : f.maxExp = 2 * f.bias + 1 := by cases f <;> rfl
  have hl : ((2 ^ f.frac : Nat) : ℚ) ≤ r.mant := by exact_mod_cast h.low
  have hh : (r.mant : ℚ) < ((2 ^ (f.frac + 1) : Nat) : ℚ) := by exact_mod_cast h.high
  have hunit := zpow_two_pos r.exp
  rw [← h.number] at hlow hhigh
  have hlt : (2 : ℚ) ^ (1 - (f.bias : Int)) < 2 ^ ((f.frac + 1 : Nat) + r.exp) := by
    rw [zpow_add₀ two_ne_zero, zpow_natCast]
    push_cast at hh
    exact hlow.trans_lt (mul_lt_mul_of_pos_right hh hunit)
  have hle : (2 : ℚ) ^ ((f.frac : Int) + r.exp) ≤ 2 ^ (f.bias : Int) := by
    rw [zpow_add₀ two_ne_zero, zpow_natCast]
    push_cast at hl
    exact (mul_le_mul_of_nonneg_right hl hunit.le).trans hhigh
  rw [zpow_lt_zpow_iff_right₀ one_lt_two] at hlt
  rw [zpow_le_zpow_iff_right₀ one_lt_two] at hle
  have hfield : f.expField r = r.exp + f.frac + f.bias := rfl
  obtain ⟨w, hw, hv, -⟩ := fit_range (f := f) (e := e) (x := x) (r := r) (by omega) (by omega) h.low h.high
  exact ⟨w, hw, hv⟩

/-- The size of a number that is not tiny. -/
theorem normal_size {w : DWord} {sign : Bool} {m : Nat} {ex : Int} (ht : f.tiny w = false)
    (hv : f.value w = .fin sign m ex) (hm : m ≠ 0) : (2 : ℚ) ^ (1 - (f.bias : Int)) ≤ |(f.value w).rat| ∧
      |(f.value w).rat| < 2 ^ ((f.bias : Int) + 1) := by
  have hmax : f.maxExp = 2 * f.bias + 1 := by cases f <;> rfl
  obtain ⟨hlow, hhigh⟩ := mant_full ht hv hm
  have hexp : 1 - (f.bias : Int) - f.frac ≤ ex ∧ ex ≤ (f.bias : Int) - f.frac := by
    have hlt : f.expOf w < 2 ^ f.expBits := Nat.mod_lt _ (Nat.two_pow_pos _)
    have hbits : 2 ^ f.expBits = f.maxExp + 1 := (Nat.sub_add_cancel (Nat.two_pow_pos _)).symm
    by_cases h0 : f.expOf w = 0
    · rw [value_of_zero h0] at hv
      injection hv with _ hm' _
      have hfrac : f.fracOf w < 2 ^ f.frac := Nat.mod_lt _ (Nat.two_pow_pos _)
      omega
    · by_cases htop : f.expOf w = f.maxExp
      · rw [value_of_maxExp htop] at hv
        split at hv <;> cases hv
      · rw [value_of_normal htop h0] at hv
        injection hv with _ _ hx
        omega
  have hl : (2 : ℚ) ^ f.frac ≤ m := by exact_mod_cast hlow
  have hh : (m : ℚ) < 2 ^ (f.frac + 1) := by exact_mod_cast hhigh
  rw [hv, rat_abs]
  constructor
  · calc (2 : ℚ) ^ (1 - (f.bias : Int)) ≤ 2 ^ ((f.frac : Int) + ex) :=
          zpow_le_zpow_right₀ one_lt_two.le (by omega)
      _ = 2 ^ f.frac * 2 ^ ex := by rw [zpow_add₀ two_ne_zero, zpow_natCast]
      _ ≤ m * 2 ^ ex := mul_le_mul_of_nonneg_right hl (zpow_two_pos ex).le
  · calc (m : ℚ) * 2 ^ ex < 2 ^ (f.frac + 1) * 2 ^ ex := mul_lt_mul_of_pos_right hh (zpow_two_pos ex)
      _ = 2 ^ (((f.frac + 1 : Nat) : Int) + ex) := by rw [zpow_add₀ two_ne_zero, zpow_natCast]
      _ ≤ 2 ^ ((f.bias : Int) + 1) := zpow_le_zpow_right₀ one_lt_two.le (by push_cast; omega)

/-! ### Near a number -/

/-- Two numbers of one sign are as far apart as their sizes. -/
theorem rat_distance {sign : Bool} {m : Nat} {ex : Int} (hsign : sign = true ↔ q < 0) :
    |(FpVal.fin sign m ex).rat - q| = abs ((m : ℚ) * 2 ^ ex - |q|) := by
  cases sign with
  | false =>
    have hq : 0 ≤ q := not_lt.1 fun h => Bool.false_ne_true (hsign.2 h)
    simp [FpVal.rat, abs_of_nonneg hq]
  | true =>
    have hq : q < 0 := hsign.1 rfl
    rw [abs_of_neg hq, ← abs_neg]
    congr 1
    simp only [FpVal.rat, if_true]
    ring

theorem near_value (h : NearExact p k x r N j) (hp : 0 < p) (hs : x.Stands p q) :
    NearValue p k (FpVal.fin x.sign r.mant r.exp).rat q ∧
      (r.inexact = true ↔ (FpVal.fin x.sign r.mant r.exp).rat ≠ q) := by
  have ht := Stands_bounds hs
  have hunit := zpow_two_pos x.exp
  obtain ⟨hdist, hlow, hhigh⟩ := near_distance h ht
  have hu : (2 : ℚ) ^ (x.exp + j + 1) = 2 * 2 ^ j * 2 ^ x.exp := by
    rw [zpow_add₀ two_ne_zero, zpow_add₀ two_ne_zero, zpow_natCast, zpow_one]
    ring
  have hpow : (2 : ℚ) ^ p = 2 ^ (p - 1) * 2 := by rw [← pow_succ, Nat.sub_add_cancel hp]
  have hgap : |(FpVal.fin x.sign r.mant r.exp).rat - q| = abs ((N : ℚ) - |q| / 2 ^ x.exp) * 2 ^ x.exp := by
    rw [rat_distance hs.1, h.number, ← abs_of_pos hunit, ← abs_mul, abs_of_pos hunit, sub_mul,
      div_mul_cancel₀ _ hunit.ne']
  refine ⟨⟨x.exp + j + 1, ?_, ?_, ?_⟩, ?_⟩
  · rw [le_div_iff₀ hunit] at hlow
    rw [hu]
    calc (2 : ℚ) ^ (p - 1) * (2 * 2 ^ j * 2 ^ x.exp) = 2 ^ p * 2 ^ j * 2 ^ x.exp := by rw [hpow]; ring
      _ ≤ |q| := hlow
  · rw [div_lt_iff₀ hunit] at hhigh
    rw [hu]
    calc |q| < 2 ^ (p + 1) * 2 ^ j * 2 ^ x.exp := hhigh
      _ = _ := by rw [pow_succ]; ring
  · rw [hgap, hu]
    calc _ ≤ 2 * k * 2 ^ j * (2 : ℚ) ^ x.exp := mul_le_mul_of_nonneg_right hdist hunit.le
      _ = _ := by ring
  · rw [near_exact_iff h ht, ← sub_ne_zero, ← abs_ne_zero, ← sub_ne_zero (b := q), ← abs_ne_zero (a := _ - q), hgap,
      mul_ne_zero_iff, and_iff_left hunit.ne']

end

end Sys2Proof.Machine

/-! ## Reciprocals and reciprocal roots (R658, R659; obligation O56) -/

namespace Sys2Proof.Machine

section
variable {f : FpFmt} {e : FpEnv} {x : FpExact} {r : FpRounded} {p k N j m : Nat} {ex : Int} {q : ℚ}

/-! ### Near a root -/

/-- The square that an exact root is known to be the root of, in units of the square of its last place. -/
theorem root_bounds (h : x.StandsForRoot p q) : if x.more
    then (x.mant : ℚ) ^ 2 < q / (2 ^ x.exp) ^ 2 ∧ q / (2 ^ x.exp) ^ 2 < ((x.mant : ℚ) + 1) ^ 2
    else q / (2 ^ x.exp) ^ 2 = (x.mant : ℚ) ^ 2 := by
  obtain ⟨-, -, h⟩ := h
  have hunit : (0 : ℚ) < (2 ^ x.exp) ^ 2 := pow_pos (zpow_two_pos x.exp) 2
  split at h
  · next hm =>
    rw [if_pos hm, lt_div_iff₀ hunit, div_lt_iff₀ hunit, ← mul_pow, ← mul_pow]
    exact ⟨h.1, h.2.1⟩
  · next hm =>
    rw [if_neg hm, div_eq_iff hunit.ne', ← mul_pow]
    exact h.symm

/-- The same bounds without the strictness. -/
theorem root_between (h : x.StandsForRoot p q) : (x.mant : ℚ) ^ 2 ≤ q / (2 ^ x.exp) ^ 2 ∧
    q / (2 ^ x.exp) ^ 2 ≤ ((x.mant : ℚ) + (if x.more then 1 else 0)) ^ 2 ∧
    q / (2 ^ x.exp) ^ 2 < ((x.mant : ℚ) + 1) ^ 2 := by
  have hb := root_bounds h
  have hm : (0 : ℚ) ≤ x.mant := Nat.cast_nonneg _
  split at hb
  · next hmore =>
    rw [if_pos hmore]
    exact ⟨hb.1.le, hb.2.le, hb.2⟩
  · next hmore =>
    rw [if_neg hmore, hb, add_zero]
    exact ⟨le_refl _, le_refl _, by nlinarith⟩

theorem root_exact_iff (h : NearExact p k x r N j) (hs : x.StandsForRoot p q) :
    r.inexact = true ↔ (N : ℚ) ^ 2 ≠ q / (2 ^ x.exp) ^ 2 := by
  have hb := root_bounds hs
  rw [h.inexact]
  split at hb
  · next hm =>
    refine ⟨fun _ hN => ?_, fun _ => .inl hm⟩
    rw [← hN] at hb
    have h1 : x.mant < N := lt_of_pow_lt_pow_left₀ 2 (Nat.zero_le _) (by exact_mod_cast hb.1)
    have h2 : N < x.mant + 1 := lt_of_pow_lt_pow_left₀ 2 (Nat.zero_le _) (by exact_mod_cast hb.2)
    omega
  · next hm =>
    rw [or_iff_right hm, hb, Ne, Ne, pow_left_inj₀ (Nat.cast_nonneg _) (Nat.cast_nonneg _) two_ne_zero, Nat.cast_inj]

theorem near_root (h : NearExact p k x r N j) (hp : 5 ≤ p) (hk : k ≤ 2) (hs : x.StandsForRoot p q) :
    NearRoot p k (N * 2 ^ x.exp) q := by
  obtain ⟨habove, hbelow, hlow, hhigh⟩ := near_cast h
  obtain ⟨hge, hle, hlt⟩ := root_between hs
  have hsmall := units_small hp hk j
  have hunit := zpow_two_pos x.exp
  have hsq : (0 : ℚ) < (2 ^ x.exp) ^ 2 := pow_pos hunit 2
  have hu : (2 : ℚ) ^ (x.exp + j + 1) = 2 * 2 ^ j * 2 ^ x.exp := by
    rw [zpow_add₀ two_ne_zero, zpow_add₀ two_ne_zero, zpow_natCast, zpow_one]
    ring
  have hpow : (2 : ℚ) ^ p = 2 ^ (p - 1) * 2 := by rw [← pow_succ, Nat.sub_add_cancel (by omega)]
  have hj : (0 : ℚ) < 2 ^ j := pow_pos two_pos j
  have hk0 : (0 : ℚ) ≤ k * 2 ^ j := mul_nonneg (Nat.cast_nonneg _) hj.le
  have hmore : (0 : ℚ) ≤ if x.more then 1 else 0 := by split <;> norm_num
  rw [le_div_iff₀ hsq, ← mul_pow] at hge
  rw [div_le_iff₀ hsq, ← mul_pow] at hle
  rw [div_lt_iff₀ hsq, ← mul_pow] at hlt
  refine ⟨x.exp + j + 1, ?_, ?_, ?_, ?_, ?_⟩ <;> rw [hu]
  · refine (pow_le_pow_left₀ (by positivity) ?_ 2).trans hge
    calc (2 : ℚ) ^ (p - 1) * (2 * 2 ^ j * 2 ^ x.exp) = 2 ^ p * 2 ^ j * 2 ^ x.exp := by rw [hpow]; ring
      _ ≤ x.mant * 2 ^ x.exp := mul_le_mul_of_nonneg_right hlow hunit.le
  · refine hlt.trans_le (pow_le_pow_left₀ (by positivity) ?_ 2)
    calc ((x.mant : ℚ) + 1) * 2 ^ x.exp ≤ 2 ^ (p + 1) * 2 ^ j * 2 ^ x.exp := mul_le_mul_of_nonneg_right hhigh hunit.le
      _ = _ := by rw [pow_succ]; ring
  · rw [show (k : ℚ) * (2 * 2 ^ j * 2 ^ x.exp) = 2 * k * 2 ^ j * 2 ^ x.exp by ring]
    exact mul_lt_mul_of_pos_right (by linarith) hunit
  · refine (pow_le_pow_left₀ ?_ ?_ 2).trans hge
    · rw [show (N : ℚ) * 2 ^ x.exp - k * (2 * 2 ^ j * 2 ^ x.exp) = (N - 2 * k * 2 ^ j) * 2 ^ x.exp by ring]
      exact mul_nonneg (by linarith) hunit.le
    · rw [show (N : ℚ) * 2 ^ x.exp - k * (2 * 2 ^ j * 2 ^ x.exp) = (N - 2 * k * 2 ^ j) * 2 ^ x.exp by ring]
      exact mul_le_mul_of_nonneg_right (by linarith) hunit.le
  · refine hle.trans (pow_le_pow_left₀ (by positivity) ?_ 2)
    rw [show (N : ℚ) * 2 ^ x.exp + k * (2 * 2 ^ j * 2 ^ x.exp) = (N + 2 * k * 2 ^ j) * 2 ^ x.exp by ring]
    exact mul_le_mul_of_nonneg_right habove hunit.le

/-- A value near a root is neither less than half of it nor more than twice it. -/
theorem factor_near_root (hp : 5 ≤ p) (hk : k ≤ 2) (h : NearExact p k x r N j) (hs : x.StandsForRoot p q) :
    q ≤ 4 * (N * 2 ^ x.exp) ^ 2 ∧ (N * 2 ^ x.exp) ^ 2 ≤ 4 * q := by
  obtain ⟨habove, hbelow, hlow, -⟩ := near_cast h
  obtain ⟨hge, hle, -⟩ := root_between hs
  have hsmall := units_small hp hk j
  have hunit := zpow_two_pos x.exp
  have hsq : (0 : ℚ) < (2 ^ x.exp) ^ 2 := pow_pos hunit 2
  have hk0 : (0 : ℚ) ≤ k * 2 ^ j := mul_nonneg (Nat.cast_nonneg _) (pow_pos two_pos j).le
  have hmore : (0 : ℚ) ≤ if x.more then 1 else 0 := by split <;> norm_num
  rw [le_div_iff₀ hsq] at hge
  rw [div_le_iff₀ hsq] at hle
  rw [mul_pow]
  constructor
  · have h2 : ((x.mant : ℚ) + (if x.more then 1 else 0)) ^ 2 ≤ (2 * N) ^ 2 :=
      pow_le_pow_left₀ (by positivity) (by linarith) 2
    calc q ≤ _ := hle
      _ ≤ (2 * N) ^ 2 * (2 ^ x.exp) ^ 2 := mul_le_mul_of_nonneg_right h2 hsq.le
      _ = _ := by ring
  · have h2 : (N : ℚ) ^ 2 ≤ (2 * x.mant) ^ 2 := pow_le_pow_left₀ (by positivity) (by linarith) 2
    calc (N : ℚ) ^ 2 * (2 ^ x.exp) ^ 2 ≤ (2 * x.mant) ^ 2 * (2 ^ x.exp) ^ 2 := mul_le_mul_of_nonneg_right h2 hsq.le
      _ = 4 * (x.mant ^ 2 * (2 ^ x.exp) ^ 2) := by ring
      _ ≤ _ := by linarith

/-! ### The reciprocal (R658) -/

theorem stands_recip {sign : Bool} (hm : m ≠ 0) (hhigh : m < 2 ^ (f.frac + 1)) :
    (quotient sign (2 ^ f.frac) (-f.frac) m ex).Stands (f.frac + 1) (FpVal.fin sign m ex).rat⁻¹ := by
  have hone : (FpVal.fin false (2 ^ f.frac) (-f.frac)).rat = 1 := by
    simp only [FpVal.rat, Bool.false_eq_true, if_false, one_mul, zpow_neg, zpow_natCast]
    push_cast
    exact mul_inv_cancel₀ (pow_ne_zero _ two_ne_zero)
  have hscale := quotient_scale (sa := false) (ma := 2 ^ f.frac) (ea := -f.frac) (sb := sign) (eb := ex) hm
  rw [hone, one_div] at hscale
  exact stands_quotient hm (by rw [inv_lt_zero, rat_neg_iff hm]) (quotient_long (le_refl _) hhigh) hscale

/-- The reciprocal of a number whose reciprocal is in the range. -/
theorem fpRecip_near {a : DWord} {sign : Bool} (ht : f.tiny a = false) (hv : f.value a = .fin sign m ex) (hm : m ≠ 0)
    (hbig : |(f.value a).rat| ≤ 2 ^ (f.bias - 2)) : ∃ w m' x', f.value w = .fin sign m' x' ∧
      NearValue (f.frac + 1) 1 (f.value w).rat (f.value a).rat⁻¹ ∧
      fpRecip f e a = .val w (.inexact (decide ((f.value w).rat ≠ (f.value a).rat⁻¹))) := by
  have hfrac : 22 < f.frac ∧ 2 < f.bias := by rcases format_sizes f with ⟨h, -, -, h'⟩ | ⟨h, -, -, h'⟩ <;> omega
  obtain ⟨hlow, -⟩ := normal_size ht hv hm
  have hs := stands_recip (f := f) (ex := ex) (sign := sign) hm (mant_full ht hv hm).2
  have hlong : 2 ^ (f.frac + 1 + 1) ≤ (quotient sign (2 ^ f.frac) (-f.frac) m ex).mant :=
    (Nat.le_div_iff_mul_le (Nat.pos_of_ne_zero hm)).2 (quotient_long (le_refl _) (mant_full ht hv hm).2)
  have hrun : fpRecip f e a = f.approx e 1 (quotient sign (2 ^ f.frac) (-f.frac) m ex) := by
    rw [(unary_value ht (isNan_of_fin hv)).2.1, hv]
    exact if_neg hm
  have hsign : (quotient sign (2 ^ f.frac) (-f.frac) m ex).sign = sign := rfl
  rw [hv] at hlow hbig ⊢
  generalize quotient sign (2 ^ f.frac) (-f.frac) m ex = x at *
  obtain ⟨r, N, j, hfit, hnear⟩ := approx_near (f := f) (e := e) ⟨le_refl 1, by decide⟩ hlong
  obtain ⟨hge, hle⟩ := near_factor (by omega) (by decide) hnear (Stands_bounds hs)
  obtain ⟨hvalue, hinexact⟩ := near_value hnear (Nat.succ_pos _) hs
  have hunit := zpow_two_pos x.exp
  rw [div_le_iff₀ hunit, abs_inv, mul_assoc] at hge
  rw [← mul_div_assoc, le_div_iff₀ hunit, abs_inv] at hle
  have hpos := (zpow_two_pos _).trans_le hlow
  have hmin : (2 : ℚ) ^ (2 - (f.bias : Int)) ≤ |(FpVal.fin sign m ex).rat|⁻¹ := by
    rw [le_inv_comm₀ (zpow_two_pos _) hpos, ← zpow_neg, show -(2 - (f.bias : Int)) = (f.bias - 2 : Nat) by omega,
      zpow_natCast]
    exact hbig
  have hmax : |(FpVal.fin sign m ex).rat|⁻¹ ≤ 2 ^ ((f.bias : Int) - 1) := by
    rw [inv_le_comm₀ hpos (zpow_two_pos _), ← zpow_neg, neg_sub]
    exact hlow
  have hmin2 : (2 : ℚ) ^ (2 - (f.bias : Int)) = 2 * 2 ^ (1 - (f.bias : Int)) := by
    rw [show 2 - (f.bias : Int) = 1 + (1 - f.bias) by ring, zpow_add₀ two_ne_zero, zpow_one]
  have hmax2 : (2 : ℚ) ^ (f.bias : Int) = 2 * 2 ^ ((f.bias : Int) - 1) := by
    rw [← zpow_one_add₀ two_ne_zero, add_sub_cancel]
  obtain ⟨w, hw, hwv⟩ := near_range (e := e) hnear (by linarith) (by linarith)
  rw [hsign] at hvalue hinexact hwv
  refine ⟨w, r.mant, r.exp, hwv, by rw [hwv]; exact hvalue, ?_⟩
  rw [hrun, hfit, hw, hwv]
  congr 2
  rw [Bool.eq_iff_iff, hinexact, decide_eq_true_iff]

/-! ### The reciprocal root (R659) -/

/-- The reciprocal of a number, in units of the square of its reciprocal root's last place. -/
theorem scale_recip_root (hm : m ≠ 0) : (FpVal.fin false m ex).rat⁻¹ =
    ((2 ^ (4 * quotientBits) : Nat) : ℚ) / (m * 2 ^ (ex % 2).toNat : Nat) *
      (2 ^ (-((ex - (ex % 2).toNat) / 2) - 2 * (quotientBits : Int))) ^ 2 := by
  have hodd := Int.emod_two_eq_zero_or_one ex
  have hm' : (m : ℚ) ≠ 0 := by exact_mod_cast hm
  have hexp : -ex = ((4 * quotientBits : Nat) : Int) + (-((ex - (ex % 2).toNat) / 2) - 2 * (quotientBits : Int)) * 2
      - ((ex % 2).toNat : Int) := by
    push_cast
    omega
  have hpow : ((2 : ℚ) ^ ex)⁻¹ = 2 ^ (4 * quotientBits) *
      (2 ^ (-((ex - (ex % 2).toNat) / 2) - 2 * (quotientBits : Int))) ^ 2 / 2 ^ (ex % 2).toNat := by
    rw [← zpow_neg, ← zpow_natCast (_ ^ _ : ℚ) 2, ← zpow_mul, Nat.cast_ofNat, hexp, zpow_sub₀ two_ne_zero,
      zpow_add₀ two_ne_zero, zpow_natCast, zpow_natCast]
  have hrat : (FpVal.fin false m ex).rat = m * 2 ^ ex := by simp [FpVal.rat]
  rw [hrat, mul_inv, hpow]
  push_cast
  field_simp

theorem stands_recip_root (hm : m ≠ 0) (hhigh : m < 2 ^ (f.frac + 1)) :
    (rootRecip m ex).StandsForRoot (f.frac + 1) (FpVal.fin false m ex).rat⁻¹ ∧
      2 ^ (f.frac + 1 + 1) ≤ (rootRecip m ex).mant := by
  have hfrac := frac_le f
  have hodd : (ex % 2).toNat ≤ 1 := by have := Int.emod_two_eq_zero_or_one ex; omega
  have hscale := scale_recip_root (ex := ex) hm
  have hd0 : 0 < m * 2 ^ (ex % 2).toNat := Nat.mul_pos (Nat.pos_of_ne_zero hm) (Nat.two_pow_pos _)
  have hd : m * 2 ^ (ex % 2).toNat ≤ 2 ^ (f.frac + 1 + 1) := by
    rw [Nat.pow_succ 2 (f.frac + 1)]
    have hodd2 : 2 ^ (ex % 2).toNat ≤ 2 ^ 1 := Nat.pow_le_pow_right (by decide) hodd
    exact Nat.mul_le_mul hhigh.le hodd2
  have hbig : 2 ^ (f.frac + 1 + 1) ≤ natSqrt (2 ^ (4 * quotientBits) / (m * 2 ^ (ex % 2).toNat)) := by
    refine natSqrt_ge ((Nat.le_div_iff_mul_le hd0).2 ?_)
    calc _ ≤ 2 ^ (f.frac + 1 + 1 + (f.frac + 1 + 1)) * 2 ^ (f.frac + 1 + 1) := Nat.mul_le_mul_left _ hd
      _ ≤ 2 ^ (4 * quotientBits) := by
        rw [← Nat.pow_add]
        exact Nat.pow_le_pow_right (by decide) (by rw [show quotientBits = 64 from rfl]; omega)
  obtain ⟨hlow, hhigh'⟩ := natSqrt_spec (2 ^ (4 * quotientBits) / (m * 2 ^ (ex % 2).toNat))
  rw [Nat.le_div_iff_mul_le hd0] at hlow
  rw [Nat.div_lt_iff_lt_mul hd0] at hhigh'
  refine ⟨⟨rfl, (Nat.two_pow_pos _).trans_le hbig, ?_⟩, hbig⟩
  simp only [rootRecip, decide_eq_true_eq]
  rw [hscale]
  have hunit : (0 : ℚ) < (2 ^ (-((ex - (ex % 2).toNat) / 2) - 2 * (quotientBits : Int))) ^ 2 :=
    pow_pos (zpow_two_pos _) 2
  generalize 2 ^ (4 * quotientBits) = n at *
  generalize m * 2 ^ (ex % 2).toNat = d at *
  have hd' : (0 : ℚ) < d := by exact_mod_cast hd0
  generalize natSqrt (n / d) = r at *
  rw [mul_pow, mul_pow]
  split
  · next h =>
    refine ⟨mul_lt_mul_of_pos_right ?_ hunit, mul_lt_mul_of_pos_right ?_ hunit, hbig⟩
    · rw [lt_div_iff₀ hd', pow_two]
      exact_mod_cast lt_of_le_of_ne hlow h
    · rw [div_lt_iff₀ hd', pow_two]
      exact_mod_cast hhigh'
  · next h =>
    have hn : (r : ℚ) ^ 2 * d = n := by
      rw [pow_two]
      exact_mod_cast not_not.1 h
    rw [← hn, mul_div_cancel_right₀ _ hd'.ne']

/-- The reciprocal root of a positive number. -/
theorem fpRsqrt_near {a : DWord} (ht : f.tiny a = false) (hv : f.value a = .fin false m ex) (hm : m ≠ 0) :
    ∃ w m' x', f.value w = .fin false m' x' ∧ NearRoot (f.frac + 1) 2 (f.value w).rat (f.value a).rat⁻¹ ∧
      fpRsqrt f e a = .val w (.inexact (decide ((f.value w).rat ^ 2 ≠ (f.value a).rat⁻¹))) := by
  have hfrac : 22 < f.frac ∧ 5 < f.bias := by rcases format_sizes f with ⟨h, -, -, h'⟩ | ⟨h, -, -, h'⟩ <;> omega
  obtain ⟨hlow, hhigh⟩ := normal_size ht hv hm
  obtain ⟨hs, hlong⟩ := stands_recip_root (f := f) (ex := ex) hm (mant_full ht hv hm).2
  have hrun : fpRsqrt f e a = f.approx e 2 (rootRecip m ex) := by
    rw [(unary_value ht (isNan_of_fin hv)).2.2, hv]
    exact (if_neg hm).trans (if_neg Bool.false_ne_true)
  have hpos : 0 < (FpVal.fin false m ex).rat := by
    have := mul_pos (show (0 : ℚ) < m by exact_mod_cast Nat.pos_of_ne_zero hm) (zpow_two_pos ex)
    simpa [FpVal.rat] using this
  rw [hv, abs_of_pos hpos] at hlow hhigh
  rw [hv]
  generalize rootRecip m ex = x at *
  obtain ⟨r, N, j, hfit, hnear⟩ := approx_near (f := f) (e := e) ⟨by decide, le_refl 2⟩ hlong
  obtain ⟨hge, hle⟩ := factor_near_root (by omega) (le_refl 2) hnear hs
  have hvalue := near_root hnear (by omega) (le_refl 2) hs
  have hinexact := root_exact_iff hnear hs
  have hmin : (2 : ℚ) ^ (-((f.bias : Int) + 1)) ≤ (FpVal.fin false m ex).rat⁻¹ := by
    rw [le_inv_comm₀ (zpow_two_pos _) hpos, ← zpow_neg, neg_neg]
    exact hhigh.le
  have hmax : (FpVal.fin false m ex).rat⁻¹ ≤ 2 ^ ((f.bias : Int) - 1) := by
    rw [inv_le_comm₀ hpos (zpow_two_pos _), ← zpow_neg, neg_sub]
    exact hlow
  have hfour : ((4 : ℚ)) = 2 ^ (2 : Int) := by norm_num
  have hnum : (0 : ℚ) ≤ N * 2 ^ x.exp := mul_nonneg (Nat.cast_nonneg _) (zpow_two_pos _).le
  have hleast : (2 : ℚ) ^ (1 - (f.bias : Int)) ≤ N * 2 ^ x.exp := by
    refine (pow_le_pow_iff_left₀ (zpow_two_pos _).le hnum two_ne_zero).1 ?_
    have h4 : (4 : ℚ) * (2 ^ (1 - (f.bias : Int))) ^ 2 ≤ 2 ^ (-((f.bias : Int) + 1)) := by
      rw [hfour, ← zpow_natCast (_ ^ _ : ℚ) 2, ← zpow_mul, ← zpow_add₀ two_ne_zero]
      exact zpow_le_zpow_right₀ one_lt_two.le (by push_cast; omega)
    linarith
  have hmost : (N : ℚ) * 2 ^ x.exp ≤ 2 ^ (f.bias : Int) := by
    refine (pow_le_pow_iff_left₀ hnum (zpow_two_pos _).le two_ne_zero).1 ?_
    have h4 : (4 : ℚ) * 2 ^ ((f.bias : Int) - 1) ≤ (2 ^ (f.bias : Int)) ^ 2 := by
      rw [hfour, ← zpow_natCast (_ ^ _ : ℚ) 2, ← zpow_mul, ← zpow_add₀ two_ne_zero]
      exact zpow_le_zpow_right₀ one_lt_two.le (by push_cast; omega)
    linarith
  obtain ⟨w, hw, hwv⟩ := near_range (e := e) hnear hleast hmost
  rw [hs.1] at hwv
  have hwrat : (f.value w).rat = N * 2 ^ x.exp := by
    rw [hwv, ← hnear.number]
    simp [FpVal.rat]
  refine ⟨w, r.mant, r.exp, hwv, by rw [hwrat]; exact hvalue, ?_⟩
  rw [hrun, hfit, hw, hwrat]
  congr 2
  rw [Bool.eq_iff_iff, hinexact, decide_eq_true_iff, Ne, Ne, eq_div_iff (pow_pos (zpow_two_pos _) 2).ne', mul_pow]

end

end Sys2Proof.Machine

/-! ## FP arithmetic completes (O56) -/

namespace Sys2Proof.Machine

section
variable {f : FpFmt} {e : FpEnv} {a : DWord}

/-- The sign operations change the sign bit only. -/
theorem fpSign_number (h : f.isNan a = false) (g : Bool → Bool) : ∃ w, fpSign f g a = .val w .none ∧
    f.signOf w = g (f.signOf a) ∧ f.expOf w = f.expOf a ∧ f.fracOf w = f.fracOf a := by
  have hexp : f.expOf a < 2 ^ f.expBits := Nat.mod_lt _ (Nat.two_pow_pos _)
  have hfrac : f.fracOf a < 2 ^ f.frac := Nat.mod_lt _ (Nat.two_pow_pos _)
  refine ⟨f.pack (g (f.signOf a)) (f.expOf a) (f.fracOf a), ?_, signOf_pack hexp hfrac, expOf_pack hexp hfrac,
    fracOf_pack hexp hfrac⟩
  unfold fpSign
  split
  · next hv => rw [isNan_iff.2 ⟨_, hv⟩] at h; cases h
  · rfl

theorem fpSign_quiet (h : f.value a = .nan false) (g : Bool → Bool) : fpSign f g a = .val a .none := by
  unfold fpSign
  rw [h]
  rfl

/-- The result for a quiet NaN operand is that NaN or the default one. -/
theorem nanResult_quiet (hn : f.isNan a = true) (hs : f.isSnan a = false) :
    ∃ w ∈ [a, f.qnan], f.nanResult e false [a] = some (.val w .none) := by
  have hresult : f.nanResult e false [a] =
      some (.val ([a, f.qnan][Config.freeNat e.draw (.nanChoice false) % 2]?.getD f.qnan) .none) := by
    unfold FpFmt.nanResult
    simp [hs, hn]
  refine ⟨_, ?_, hresult⟩
  exact getD_of_forall _ (fun w hw => hw) (List.mem_cons_of_mem _ (List.mem_singleton_self _))

theorem unary_quiet (hn : f.isNan a = true) (hs : f.isSnan a = false) :
    ∀ op ∈ [fpSqrt, fpRecip, fpRsqrt], ∃ w ∈ [a, f.qnan], op f e a = .val w .none := by
  obtain ⟨w, hw, hresult⟩ := nanResult_quiet (e := e) hn hs
  have ht := not_tiny_of_isNan hn
  simp only [List.forall_mem_cons]
  refine ⟨⟨w, hw, ?_⟩, ⟨w, hw, ?_⟩, ⟨w, hw, ?_⟩, fun _ hp => nomatch hp⟩
  · rw [fpSqrt_plain ht, hresult]; rfl
  · rw [fpRecip_plain ht, hresult]; rfl
  · rw [fpRsqrt_plain ht, hresult]; rfl

theorem approx_inf {sign : Bool} (h : f.value a = .inf sign) : fpRecip f e a = .val (f.zero sign) .none ∧
    fpRsqrt f e a = if sign then .val f.qnan .invalid else .val (f.zero false) .none := by
  obtain ⟨-, hr, hq⟩ := unary_value (e := e) (not_tiny_of_inf h) (isNan_of_inf h)
  rw [hr, hq, h]
  exact ⟨rfl, rfl⟩

end

section
variable {s : State} {f : FpFmt} {fd : Reg} {z x y : DWord}
  {add sub mul div sqrt recip rsqrt abs neg madd msub nmadd nmsub : Instr}

/-- With tiny numbers flushed and no condition enabled every arithmetic instruction of a format completes. -/
theorem ArithRuns.completes (hr : ArithRuns s f fd z x y add sub mul div sqrt recip rsqrt abs neg madd msub nmadd nmsub)
    (h : s.fpReady = true) (hf : s.fpForgiving = true) :
    FpCompletes add s f fd (fpAdd f false s.fpEnv x y) ∧ FpCompletes sub s f fd (fpAdd f true s.fpEnv x y) ∧
      FpCompletes mul s f fd (fpMul f s.fpEnv x y) ∧ FpCompletes div s f fd (fpDiv f s.fpEnv x y) ∧
      FpCompletes sqrt s f fd (fpSqrt f s.fpEnv x) ∧ FpCompletes recip s f fd (fpRecip f s.fpEnv x) ∧
      FpCompletes rsqrt s f fd (fpRsqrt f s.fpEnv x) ∧
      FpCompletes abs s f fd (fpSign f (fun _ => false) x) ∧ FpCompletes neg s f fd (fpSign f not x) ∧
      FpCompletes madd s f fd (fpMulAdd f false s.fpEnv z x y) ∧
      FpCompletes msub s f fd (fpMulAdd f true s.fpEnv z x y) ∧
      FpCompletes nmadd s f fd ((fpMulAdd f false s.fpEnv z x y).negated f) ∧
      FpCompletes nmsub s f fd ((fpMulAdd f true s.fpEnv z x y).negated f) := by
  have hfs := forgiving_fs hf
  have done : ∀ {i : Instr} {r : FpOut}, FpOut.isVal r → exec i s = s.fpEnd f fd r → FpCompletes i s f fd r :=
    completes_of_run h hf hr.dest
  exact ⟨done (fpAdd_val _ _ _ _ _ hfs) hr.add, done (fpAdd_val _ _ _ _ _ hfs) hr.sub,
    done (fpMul_val _ _ _ _ hfs) hr.mul, done (fpDiv_val _ _ _ _ hfs) hr.div, done (fpSqrt_val _ _ _ hfs) hr.sqrt,
    done (fpRecip_val _ _ _ hfs) hr.recip, done (fpRsqrt_val _ _ _ hfs) hr.rsqrt, done (fpSign_val _ _ _) hr.abs,
    done (fpSign_val _ _ _) hr.neg, done (fpMulAdd_val _ _ _ _ _ _ hfs) hr.madd,
    done (fpMulAdd_val _ _ _ _ _ _ hfs) hr.msub, done (negated_val _ _ (fpMulAdd_val _ _ _ _ _ _ hfs)) hr.nmadd,
    done (negated_val _ _ (fpMulAdd_val _ _ _ _ _ _ hfs)) hr.nmsub⟩

end

/-- Settles O56: the values by the fields of the operand and by what an approximation is near to; completion by the run
of each instruction and what its operation answers where tiny numbers are flushed. -/
theorem fpArithmeticCompletes : Obligations.FpArithmeticCompletes := by
  unfold Obligations.FpArithmeticCompletes
  refine ⟨fun f hf e a => ?_, fun fr fs ft fd s h hf => ?_⟩
  · intro q
    refine ⟨?_, fun hn g _ => fpSign_number hn g, fun hs => ⟨fpSign_snan hs, ?_⟩,
      fun hn hs => ⟨fpSign_quiet (quiet_value hn hs), unary_quiet hn hs⟩, fun sign hv => approx_inf hv,
      fun sign m x ht hv => ⟨fun hm => ?_, fun hm hs => ?_, fun hq hbig => ?_, fun hq => ?_⟩⟩
    · simp only [List.mem_cons, List.not_mem_nil, or_false] at hf
      rcases hf with rfl | rfl <;> rfl
    · obtain ⟨hsqrt, hrecip, hrsqrt⟩ := unary_snan (e := e) hs
      simp only [List.forall_mem_cons]
      exact ⟨hsqrt, hrecip, hrsqrt, fun _ hp => nomatch hp⟩
    · subst hm
      exact recip_of_zero hv
    · subst hs
      exact (root_of_negative ht hv hm).2
    · have hm : m ≠ 0 := fun hm => hq (by show (f.value a).rat = 0; rw [hv, rat_eq_zero, hm])
      exact fpRecip_near ht hv hm hbig
    · have hrat : 0 < (FpVal.fin sign m x).rat := by rw [← hv]; exact hq
      have hm : m ≠ 0 := fun hm => hrat.ne' (rat_eq_zero.2 hm)
      have hs : sign = false := by
        rw [← Bool.not_eq_true, ← rat_neg_iff (x := x) hm]
        exact hrat.le.not_gt
      subst hs
      exact fpRsqrt_near ht hv hm
  · intro e at1
    exact ⟨(arithRuns_single h fr fs ft fd).completes h hf, fun hd => (arithRuns_double h hd).completes h hf⟩

end Sys2Proof.Machine
